-- ==== Sys2Proof/Word.lean ====
section
/-! DEFINITION. The byte of the link frames and event records (09_link_frames_and_requests.md). -/

namespace Sys2Proof

/-- One character of a frame, one byte of an event record. -/
abbrev Byte := BitVec 8

/-- The timestamp of an event record: milliseconds modulo 65536 (R146). -/
abbrev Stamp := BitVec 16

end Sys2Proof
end

