-- ==== Sys2Proof/Config.lean ====
section
/-! DEFINITION. What the manual leaves to the implementation. The numbers the manual fixes stand with the
definitions that use them; the settings of a given vehicle are the parameter set, which is state. -/

namespace Sys2Proof

/-- The microseconds from the end of a request's CRC byte to the start of its reply. R159 says only that the reply
begins within 1 ms, so this is a free value (notes/assumptions/19.md): it is applied to the port's code and the time of
delivery, nothing can be proved about its value, and its only use caps it at 1000. The idle clock uses it to tell when the
last byte of a reply has been sent. -/
opaque Config.replyDelay : Nat → Nat → Nat

end Sys2Proof
end

