-- ==== Sys2Proof/Syntax.lean ====
section
/-! DEFINITION. The commands: one constructor of Instr for each row of spec/opcode_table.json. -/

namespace Sys2Proof

/-- The two link ports (R153), and the attention line of each (R150). -/
inductive Port where
  | a
  | b
  deriving DecidableEq, Repr

/-- The three wheel-pulse inputs (01_wheel_speed_and_travel.md). -/
inductive Wheel where
  | rear
  | frontL
  | frontR
  deriving DecidableEq, Repr

/-- The two controlled axes (05). -/
inductive Axis where
  | tilt
  | steer
  deriving DecidableEq, Repr

/-- The six switch inputs (R131). -/
inductive Input where
  | stand
  | seat
  | brake
  | parkbtn
  | lift
  | key
  deriving DecidableEq, Repr

/-- The two programmable trip units (R139). -/
inductive TripUnit where
  | t1
  | t2
  deriving DecidableEq, Repr

/-- Raw levels of the six switch pins (R131); true is the active level. -/
structure Switches where
  stand : Bool
  seat : Bool
  brake : Bool
  parkbtn : Bool
  lift : Bool
  key : Bool
  deriving DecidableEq, Repr

/-- A request frame that has arrived complete with a matching CRC: its port, its reference, its payload bytes
(09, "Frames"). The kind is the row's own. In the LOAD_PATH and LOCK_DEMAND rows, whose names fix the first
payload byte, `payload` is what follows that byte (notes/assumptions/5.md). -/
structure Frame where
  port : Port
  ref : Byte
  payload : List Byte
  deriving DecidableEq, Repr

/-- A character as the line brings it after its start bit: the data, the parity bit and the stop bit (R153). -/
structure Character where
  data : Byte
  parity : Bool
  stop : Bool
  deriving DecidableEq, Repr

/-- Why a frame is abandoned (R156); the gap has a row of its own. -/
inductive AbandonCause where
  /-- a character with wrong parity or no stop bit -/
  | characterError (c : Character)
  /-- an N byte outside 2..40 -/
  | badLength (n : Byte)
  /-- a CRC byte that does not match -/
  | badCrc (crc : Byte)
  deriving DecidableEq, Repr

/-- The commands. `dt` is the time in microseconds since the command before (notes/assumptions/1.md). The name of each
constructor is its row's mnemonic. -/
inductive Instr where
  | fullReset (levels : Switches) (closed : Bool)
  | firstConfirmDebounce (dt : Nat) (closed : Bool)
  | wheelEdge (dt : Nat) (w : Wheel)
  | decayStep (dt : Nat) (w : Wheel)
  | stallExpiry (dt : Nat) (w : Wheel)
  | suspectTimerExpiry (dt : Nat)
  | solvePeriod (dt : Nat)
  | overspeedExpiry (dt : Nat)
  | loadPathFirst (dt : Nat) (f : Frame)
  | loadPathMiddle (dt : Nat) (f : Frame)
  | loadPathLast (dt : Nat) (f : Frame)
  | loadPathOnly (dt : Nat) (f : Frame)
  | flushPath (dt : Nat) (f : Frame)
  | takeHold (dt : Nat) (f : Frame)
  | dropHold (dt : Nat) (f : Frame)
  | silenceExpiry (dt : Nat)
  | handlebarSample (dt : Nat) (reading : Int)
  | takeoverExpiry (dt : Nat)
  | handlebarDropoutExpiry (dt : Nat)
  | axisSample (dt : Nat) (x : Axis) (reading : Int)
  | trackingExpiry (dt : Nat) (x : Axis)
  | enable (dt : Nat) (f : Frame)
  | startRoutine (dt : Nat) (f : Frame)
  | sweepStopFound (dt : Nat)
  | phaseTimeout (dt : Nat)
  | rampStep (dt : Nat)
  | pushPhaseEnd (dt : Nat)
  | suspendRoutine (dt : Nat) (f : Frame)
  | resumeRoutine (dt : Nat) (f : Frame)
  | abortRoutine (dt : Nat) (f : Frame)
  | readResult (dt : Nat) (f : Frame)
  | enterService (dt : Nat) (f : Frame)
  | serviceDrive (dt : Nat) (f : Frame)
  | serviceDriveExpiry (dt : Nat)
  | leaveService (dt : Nat) (f : Frame)
  | confirmEdge (dt : Nat) (closed : Bool)
  | preloadExpiry (dt : Nat)
  | pullinEnd (dt : Nat)
  | pulseEnd (dt : Nat)
  | confirmWindowClose (dt : Nat)
  | attemptPauseEnd (dt : Nat)
  | lockDemandNone (dt : Nat) (f : Frame)
  | lockDemandLock (dt : Nat) (f : Frame)
  | lockDemandPermit (dt : Nat) (f : Frame)
  | park (dt : Nat) (f : Frame)
  | keyOffExpiry (dt : Nat)
  | autoPark (dt : Nat)
  | inputChange (dt : Nat) (i : Input) (level : Bool)
  | tripUnitExpiry (dt : Nat) (u : TripUnit)
  | clearTrip (dt : Nat) (f : Frame)
  | readEvents (dt : Nat) (f : Frame)
  | rearmGapEnd (dt : Nat) (line : Port)
  | frameAbandon (dt : Nat) (p : Port) (cause : AbandonCause)
  | frameGapTimeout (dt : Nat) (p : Port)
  | portOverrun (dt : Nat) (p : Port)
  | replySent (dt : Nat) (p : Port)
  | unknown (dt : Nat) (kind : Byte) (f : Frame)
  | status (dt : Nat) (f : Frame)
  | getParam (dt : Nat) (f : Frame)
  | setParam (dt : Nat) (f : Frame)
  | softRestart (dt : Nat) (f : Frame)
  | commitCal (dt : Nat) (f : Frame)
  | storeDone (dt : Nat) (matched : Bool)
  | restoreCal (dt : Nat) (f : Frame)
  | receivedCharacter (dt : Nat) (p : Port) (c : Character)
  deriving DecidableEq, Repr

end Sys2Proof
end

