-- ==== Sys2Proof/Machine/Line.lean ====
section
/-! DEFINITION. The serial line of a port: which characters are right, and which the transmitter sends (R153). -/

namespace Sys2Proof

/-- The even parity bit of a byte: the one that makes the number of ones even (R153). -/
def evenParity (b : Byte) : Bool := (List.range 8).foldl (fun acc i => acc != b.getLsbD i) false

/-- A character without an error: even parity, and the line high where the stop bit should be (R153). -/
def Character.good (c : Character) : Bool := c.stop && (c.parity == evenParity c.data)

/-- The character that carries a byte without an error, as the transmitter sends it: even parity and a high stop bit (R153). -/
def Character.of (b : Byte) : Character := { data := b, parity := evenParity b, stop := true }

end Sys2Proof
end

