-- ==== Sys2Proof/WellFormed.lean ====
section
/-! DEFINITION. Which commands the link and the sensors can present. -/

namespace Sys2Proof

/-- The request kinds of the request list (09, "Requests and replies"). -/
def requestKinds : List Nat :=
  [0x01, 0x02, 0x03, 0x04, 0x10, 0x11, 0x12, 0x13, 0x14, 0x20, 0x21, 0x22, 0x23,
    0x30, 0x31, 0x32, 0x33, 0x34, 0x38, 0x39, 0x3A, 0x40, 0x41]

/-- A request frame's payload is 0 to 38 bytes (09, "Frames"). -/
def Frame.fits (f : Frame) : Bool := f.payload.length ≤ 38

/-- As `Frame.fits`, for a row that fixes the payload's first byte. -/
def Frame.tailFits (f : Frame) : Bool := f.payload.length ≤ 37

/-- An abandon cause names a character or a byte that has that cause (R153, R156). -/
def AbandonCause.wf : AbandonCause → Bool
  | .characterError c => !c.good
  | .badLength n => n.toNat < 2 || 40 < n.toNat
  | .badCrc _ => true

/-- A command is well formed when a frame or an event of its shape can reach the part. -/
def Instr.wf : Instr → Bool
  | .fullReset _ _ => true
  | .firstConfirmDebounce _ _ => true
  | .wheelEdge _ _ => true
  | .decayStep _ _ => true
  | .stallExpiry _ _ => true
  | .suspectTimerExpiry _ => true
  | .solvePeriod _ => true
  | .overspeedExpiry _ => true
  | .loadPathFirst _ f => f.tailFits
  | .loadPathMiddle _ f => f.tailFits
  | .loadPathLast _ f => f.tailFits
  | .loadPathOnly _ f => f.tailFits
  | .flushPath _ f => f.fits
  | .takeHold _ f => f.fits
  | .dropHold _ f => f.fits
  | .silenceExpiry _ => true
  | .handlebarSample _ _ => true
  | .takeoverExpiry _ => true
  | .handlebarDropoutExpiry _ => true
  | .axisSample _ _ _ => true
  | .trackingExpiry _ _ => true
  | .enable _ f => f.fits
  | .startRoutine _ f => f.fits
  | .sweepStopFound _ => true
  | .phaseTimeout _ => true
  | .rampStep _ => true
  | .pushPhaseEnd _ => true
  | .suspendRoutine _ f => f.fits
  | .resumeRoutine _ f => f.fits
  | .abortRoutine _ f => f.fits
  | .readResult _ f => f.fits
  | .enterService _ f => f.fits
  | .serviceDrive _ f => f.fits
  | .serviceDriveExpiry _ => true
  | .leaveService _ f => f.fits
  | .confirmEdge _ _ => true
  | .preloadExpiry _ => true
  | .pullinEnd _ => true
  | .pulseEnd _ => true
  | .confirmWindowClose _ => true
  | .attemptPauseEnd _ => true
  | .lockDemandNone _ f => f.tailFits
  | .lockDemandLock _ f => f.tailFits
  | .lockDemandPermit _ f => f.tailFits
  | .park _ f => f.fits
  | .keyOffExpiry _ => true
  | .autoPark _ => true
  | .inputChange _ _ _ => true
  | .tripUnitExpiry _ _ => true
  | .clearTrip _ f => f.fits
  | .readEvents _ f => f.fits
  | .rearmGapEnd _ _ => true
  | .frameAbandon _ _ cause => cause.wf
  | .frameGapTimeout _ _ => true
  | .portOverrun _ _ => true
  | .replySent _ _ => true
  | .unknown _ kind f => f.fits && !requestKinds.contains kind.toNat
  | .status _ f => f.fits
  | .getParam _ f => f.fits
  | .setParam _ f => f.fits
  | .softRestart _ f => f.fits
  | .commitCal _ f => f.fits
  | .storeDone _ _ => true
  | .restoreCal _ f => f.fits
  | .receivedCharacter _ _ _ => true

/-- The frame of a request command: its port, reference and payload bytes. -/
def Instr.frame? : Instr → Option Frame
  | .fullReset _ _ => none
  | .firstConfirmDebounce _ _ => none
  | .wheelEdge _ _ => none
  | .decayStep _ _ => none
  | .stallExpiry _ _ => none
  | .suspectTimerExpiry _ => none
  | .solvePeriod _ => none
  | .overspeedExpiry _ => none
  | .loadPathFirst _ f => some f
  | .loadPathMiddle _ f => some f
  | .loadPathLast _ f => some f
  | .loadPathOnly _ f => some f
  | .flushPath _ f => some f
  | .takeHold _ f => some f
  | .dropHold _ f => some f
  | .silenceExpiry _ => none
  | .handlebarSample _ _ => none
  | .takeoverExpiry _ => none
  | .handlebarDropoutExpiry _ => none
  | .axisSample _ _ _ => none
  | .trackingExpiry _ _ => none
  | .enable _ f => some f
  | .startRoutine _ f => some f
  | .sweepStopFound _ => none
  | .phaseTimeout _ => none
  | .rampStep _ => none
  | .pushPhaseEnd _ => none
  | .suspendRoutine _ f => some f
  | .resumeRoutine _ f => some f
  | .abortRoutine _ f => some f
  | .readResult _ f => some f
  | .enterService _ f => some f
  | .serviceDrive _ f => some f
  | .serviceDriveExpiry _ => none
  | .leaveService _ f => some f
  | .confirmEdge _ _ => none
  | .preloadExpiry _ => none
  | .pullinEnd _ => none
  | .pulseEnd _ => none
  | .confirmWindowClose _ => none
  | .attemptPauseEnd _ => none
  | .lockDemandNone _ f => some f
  | .lockDemandLock _ f => some f
  | .lockDemandPermit _ f => some f
  | .park _ f => some f
  | .keyOffExpiry _ => none
  | .autoPark _ => none
  | .inputChange _ _ _ => none
  | .tripUnitExpiry _ _ => none
  | .clearTrip _ f => some f
  | .readEvents _ f => some f
  | .rearmGapEnd _ _ => none
  | .frameAbandon _ _ _ => none
  | .frameGapTimeout _ _ => none
  | .portOverrun _ _ => none
  | .replySent _ _ => none
  | .unknown _ _ f => some f
  | .status _ f => some f
  | .getParam _ f => some f
  | .setParam _ f => some f
  | .softRestart _ f => some f
  | .commitCal _ f => some f
  | .storeDone _ _ => none
  | .restoreCal _ f => some f
  | .receivedCharacter _ _ _ => none

/-- The time since the command before it; a FULL reset starts the time again. -/
def Instr.delay : Instr → Nat
  | .fullReset _ _ => 0
  | .firstConfirmDebounce dt _ => dt
  | .wheelEdge dt _ => dt
  | .decayStep dt _ => dt
  | .stallExpiry dt _ => dt
  | .suspectTimerExpiry dt => dt
  | .solvePeriod dt => dt
  | .overspeedExpiry dt => dt
  | .loadPathFirst dt _ => dt
  | .loadPathMiddle dt _ => dt
  | .loadPathLast dt _ => dt
  | .loadPathOnly dt _ => dt
  | .flushPath dt _ => dt
  | .takeHold dt _ => dt
  | .dropHold dt _ => dt
  | .silenceExpiry dt => dt
  | .handlebarSample dt _ => dt
  | .takeoverExpiry dt => dt
  | .handlebarDropoutExpiry dt => dt
  | .axisSample dt _ _ => dt
  | .trackingExpiry dt _ => dt
  | .enable dt _ => dt
  | .startRoutine dt _ => dt
  | .sweepStopFound dt => dt
  | .phaseTimeout dt => dt
  | .rampStep dt => dt
  | .pushPhaseEnd dt => dt
  | .suspendRoutine dt _ => dt
  | .resumeRoutine dt _ => dt
  | .abortRoutine dt _ => dt
  | .readResult dt _ => dt
  | .enterService dt _ => dt
  | .serviceDrive dt _ => dt
  | .serviceDriveExpiry dt => dt
  | .leaveService dt _ => dt
  | .confirmEdge dt _ => dt
  | .preloadExpiry dt => dt
  | .pullinEnd dt => dt
  | .pulseEnd dt => dt
  | .confirmWindowClose dt => dt
  | .attemptPauseEnd dt => dt
  | .lockDemandNone dt _ => dt
  | .lockDemandLock dt _ => dt
  | .lockDemandPermit dt _ => dt
  | .park dt _ => dt
  | .keyOffExpiry dt => dt
  | .autoPark dt => dt
  | .inputChange dt _ _ => dt
  | .tripUnitExpiry dt _ => dt
  | .clearTrip dt _ => dt
  | .readEvents dt _ => dt
  | .rearmGapEnd dt _ => dt
  | .frameAbandon dt _ _ => dt
  | .frameGapTimeout dt _ => dt
  | .portOverrun dt _ => dt
  | .replySent dt _ => dt
  | .unknown dt _ _ => dt
  | .status dt _ => dt
  | .getParam dt _ => dt
  | .setParam dt _ => dt
  | .softRestart dt _ => dt
  | .commitCal dt _ => dt
  | .storeDone dt _ => dt
  | .restoreCal dt _ => dt
  | .receivedCharacter dt _ _ => dt

end Sys2Proof
end

