-- ==== Sys2Proof/Machine/State.lean ====
section
/-! DEFINITION. The state of the TS-240, block by block, and the state after a FULL reset. Times are timebase values in
microseconds; a timer that the manual calls running is kept as the timebase value it counts from (notes/assumptions/2.md). -/

namespace Sys2Proof.Machine

/-- Nothing in the manual stops the part: every fault it names is a state the part goes on from. So there is no reason to
stop with a fault (notes/assumptions/29.md). -/
inductive Fault where
  deriving DecidableEq, Repr

/-- Reasons for having no meaning. -/
inductive Refusal where
  /-- raised by a dispatch arm whose command has no meaning yet; safe, since nothing is then claimed of it -/
  | notModelled (mnemonic : String)
  deriving DecidableEq, Repr

/-! ## Speed unit (01) -/

/-- State of a wheel (R2). -/
inductive WheelMode where
  | stalled
  | armed
  | running
  deriving DecidableEq, Repr

/-- The record of one wheel input (01, "Per-wheel measurement"). -/
structure WheelRec where
  mode : WheelMode
  lastEdge : Option Nat
  period : Option Nat
  speed : Nat
  odd : Bool
  deriving DecidableEq, Repr

/-- State of the vehicle speed estimate (R9). -/
inductive EstimateState where
  | good
  | suspect
  deriving DecidableEq, Repr

/-- The wheel whose edges count travel (R13). -/
inductive TravelSource where
  | rear
  | frontL
  deriving DecidableEq, Repr

/-- Withheld credit that a return to GOOD has passed while no hold stood, in cm, and the timebase of that return (R15, R16). A
hold that begins at the same timebase count takes it as dry distance (notes/assumptions/39.md). -/
structure PassedCredit where
  cm : Nat
  at_ : Nat
  deriving DecidableEq, Repr

/-- The speed unit. `suspectSince` is the start of the suspect timer while it runs (R9, R10); `accumulator` is in units
of 1/PPR mm (R14); `passed` is the credit that the latest returns to GOOD passed while no hold stood (R16). -/
structure SpeedUnit where
  rear : WheelRec
  frontL : WheelRec
  frontR : WheelRec
  median : Nat
  estimate : EstimateState
  v : Nat
  suspectSince : Option Nat
  source : TravelSource
  accumulator : Nat
  withheld : Nat
  passed : Option PassedCredit
  deriving DecidableEq, Repr

/-! ## Solve unit (02) -/

/-- The outputs of the solve, the captured lean (R33), and when the next period is due (R18). -/
structure SolveUnit where
  phiT : Int
  deltaT : Int
  phiS : Int
  deltaS : Int
  kc : Int
  a : Nat
  curvLimited : Bool
  leanLimited : Bool
  upright : Bool
  captured : Int
  periodDue : Nat
  deriving DecidableEq, Repr

/-! ## Path unit (03) -/

/-- A segment as settled by R45: k1 is k0 where the frame left it out. -/
structure Segment where
  tag : Byte
  length : Nat
  k0 : Int
  k1 : Int
  ceiling : Option Nat
  trim : Option Int
  endRelease : Bool
  deriving DecidableEq, Repr

/-- The path unit. `pos` is the consumed distance s, without meaning while the queue is empty (R46); `ceilingSince` is the
start of the speed ceiling timer while it runs (R56). -/
structure PathUnit where
  queue : List Segment
  pos : Nat
  staging : List Segment
  batchOpen : Bool
  held : Option Int
  dryCount : Nat
  ceilingSince : Option Nat
  deriving DecidableEq, Repr

/-! ## Authority unit (04) -/

/-- The hold record while a holder exists (04, "The hold record"); the silence watch runs from `lastContact`. -/
structure Hold where
  port : Port
  thetaRef : Int
  lastContact : Nat
  takeoverSince : Option Nat
  deriving DecidableEq, Repr

/-- The authority unit. `theta` is the handlebar angle and the last valid reading (R84). `dropoutFired` says that the
present spell of invalid readings has fired HANDLEBAR (R85). `takeoverTime` is TAKEOVER_TIME as the takeover watch read it
at the last valid sample (R79). -/
structure AuthorityUnit where
  hold : Option Hold
  theta : Int
  riderDemand : Int
  valid : Bool
  dropoutSince : Option Nat
  dropoutFired : Bool
  takeoverTime : Int
  deriving DecidableEq, Repr

/-- The demand source (R83). -/
inductive DemandSource where
  | rider
  | path
  | dry
  deriving DecidableEq, Repr

/-- Why a hold ends (04, "The end of a hold"). -/
inductive EndReason where
  | dropped
  | preempted
  | silent
  | takeover
  | dry
  | done
  | overspeed
  | safe
  | restart
  | park
  deriving DecidableEq, Repr

/-! ## Axes and the operation slot (05) -/

/-- Axis mode (R93). -/
inductive AxisMode where
  | off
  | track
  | routine
  | service
  deriving DecidableEq, Repr

/-- The mode an axis takes when its session ends (R93). -/
inductive ReturnMode where
  | off
  | track
  deriving DecidableEq, Repr

/-- The kinds of routine (05, "Routines"). -/
inductive RoutineKind where
  | home
  | friction
  | lockTest
  deriving DecidableEq, Repr

/-- Outcomes of a routine (R108). -/
inductive RoutineOutcome where
  | none
  | pass
  | failSpan
  | failNoMove
  | failTimeout
  | failSlip
  | aborted
  deriving DecidableEq, Repr

/-- Phases of the routines (05, "Routines"). -/
inductive Phase where
  | release
  | sweepLeft
  | sweepRight
  | centre
  | engage
  | rampLeft
  | rampRight
  | pushLeft
  | pushRight
  deriving DecidableEq, Repr

/-- The result record of an axis (R108). -/
structure ResultRec where
  kind : Option RoutineKind
  outcome : RoutineOutcome
  v1 : Option Int
  v2 : Option Int
  v3 : Option Int
  deriving DecidableEq, Repr

/-- An axis controller. `against` is the centre that the measurement was taken against, absent before the first valid sample
(R88). `trackSince` is the start of the tracking timer while it is above 0; `trackFired` says that it has reached 300 ms and
stands there (R92). -/
structure AxisCtl where
  mode : AxisMode
  returnMode : Option ReturnMode
  meas : Int
  against : Option Int
  valid : Bool
  drive : Int
  trackSince : Option Nat
  trackFired : Bool
  result : ResultRec
  deriving DecidableEq, Repr

/-- A routine under way (R97 to R106). `held` is the position held while suspended, absent while not suspended. `target`
is the position a phase holds with the loop. `reference` is the sweep or push reference or the ramp start angle.
`stopSince` is the start of a sweep's stop timer. `rampSince` is absent in the holding part of a ramp phase, else the time
of the last ramp step; `rampDrive` is the ramp's drive magnitude. `firstRamp` is the angle at the start of the first ramp.
`maxDisp` is the largest push displacement. `v1`, `v2`, `v3` are the findings of completed phases. `centre` is the axis's
centre in force at the start of the routine (R100). -/
structure Routine where
  axis : Axis
  kind : RoutineKind
  centre : Int
  phase : Phase
  held : Option Int
  target : Int
  phaseStart : Nat
  reference : Int
  stopSince : Nat
  rampSince : Option Nat
  rampDrive : Int
  firstRamp : Option Int
  maxDisp : Int
  v1 : Option Int
  v2 : Option Int
  v3 : Option Int
  outcome : RoutineOutcome
  deriving DecidableEq, Repr

/-- The drive value standing in a service session and the time its 100 ms end (R110). -/
structure StandingDrive where
  value : Int
  expiresAt : Nat
  deriving DecidableEq, Repr

/-- The operation slot (R96), with what its occupant keeps. -/
inductive Slot where
  | free
  | routine (r : Routine)
  | service (x : Axis) (drive : Option StandingDrive)
  | storeProgramming (since : Nat)
  deriving DecidableEq, Repr

/-! ## Latch controller (06) -/

/-- The latch state (06, "The latch and its states"). -/
inductive LatchState where
  | engaged
  | releasePreload
  | releasing
  | released
  | engaging
  | jammed
  | unlatchedFault
  deriving DecidableEq, Repr

/-- Direction of a pulse or of an attempt set. -/
inductive Direction where
  | engage
  | release
  deriving DecidableEq, Repr

/-- Phase of a coil pulse (R113). -/
inductive PulsePhase where
  | pullIn
  | hold
  deriving DecidableEq, Repr

/-- The pulse on the coil, with the values read at its start (R113). `lastOfFailed` marks the third pulse of a set that has
failed (R120, R121). -/
structure Pulse where
  direction : Direction
  phase : PulsePhase
  phaseEnd : Nat
  pullDuty : Int
  holdMs : Nat
  holdDuty : Int
  lastOfFailed : Bool
  deriving DecidableEq, Repr

/-- Who began an attempt set (R114, R117, R123). -/
inductive SetOrigin where
  | own
  | permit
  | routine
  deriving DecidableEq, Repr

/-- Where an attempt set stands (R113, R114): its pulse waits for the coil, its window is open, its window has closed
with the pulse still on the coil, or it pauses. -/
inductive SetStage where
  | waitCoil
  | window (closesAt : Nat)
  | waitPulse
  | pause (endsAt : Nat)
  deriving DecidableEq, Repr

/-- The attempt set under way (R114). -/
structure AttemptSet where
  direction : Direction
  attempt : Nat
  stage : SetStage
  origin : SetOrigin
  deriving DecidableEq, Repr

/-- A port's demand item (R124). -/
inductive DemandItem where
  | none
  | lock
  | permit
  deriving DecidableEq, Repr

/-- The run state (R126). -/
inductive RunState where
  | run
  | parked
  deriving DecidableEq, Repr

/-- The first debounce of the confirm switch after a FULL reset (R130): the level it counts and since when. -/
structure FirstDebounce where
  level : Bool
  since : Nat
  deriving DecidableEq, Repr

/-- The latch controller. `closed` is the confirm level; `differSince` the time of the first sample of a run that differs
from it; `first` is present until the first debounce completes. `keyOffSince` is the time from which KEY has been
inactive (R128). `uncommanded` says that the latch is ENGAGED by a closing that no pulse asked for, and that the conditions of
R116 have held ever since (R122, notes/assumptions/31.md). `permitOf` is the port under whose PERMIT the last release set of a
permit was begun, while that PERMIT stands (R124). -/
structure LatchUnit where
  state : LatchState
  uncommanded : Bool
  closed : Bool
  differSince : Option Nat
  first : Option FirstDebounce
  pulse : Option Pulse
  set : Option AttemptSet
  preloadEnd : Option Nat
  permitOf : Option Port
  itemA : DemandItem
  itemB : DemandItem
  run : RunState
  keyOffSince : Option Nat
  autoPark : Bool
  deriving DecidableEq, Repr

/-! ## Input unit (07) -/

/-- The sixteen conditions (07, "Conditions"). -/
inductive Cond where
  | stand
  | seat
  | brake
  | parkbtn
  | lift
  | key
  | still
  | slow
  | suspect
  | locked
  | holdStands
  | leanHigh
  | c0
  | c1
  | c2
  | true_
  deriving DecidableEq, Repr

/-- A selection: a condition and its inversion. -/
structure Selection where
  cond : Cond
  inverted : Bool
  deriving DecidableEq, Repr

/-- Combiner functions (R134). -/
inductive CombinerFn where
  | never
  | all
  | any
  | odd
  | majority
  | aOnly
  | latch
  deriving DecidableEq, Repr

/-- Combiner actions (R137). -/
inductive CombinerAction where
  | none
  | event
  | lockHold
  deriving DecidableEq, Repr

/-- A combiner item (07, "Combiners"). -/
structure CombinerCfg where
  a : Selection
  b : Selection
  c : Selection
  fn : CombinerFn
  inverted : Bool
  action : CombinerAction
  deriving DecidableEq, Repr

/-- The three combiners. -/
inductive CombinerId where
  | c0
  | c1
  | c2
  deriving DecidableEq, Repr

/-- What a combiner keeps beside its configuration (R134, R135). -/
structure CombinerRec where
  stored : Bool
  output : Bool
  deriving DecidableEq, Repr

/-- Severity of a trip (R142). -/
inductive Severity where
  | degrade
  | lockdown
  deriving DecidableEq, Repr

/-- The list of trip times (07, "Trip units"). -/
inductive TripTime where
  | ms0
  | ms20
  | ms50
  | ms100
  | ms200
  | ms500
  | ms1000
  | ms2000
  deriving DecidableEq, Repr

/-- A trip unit item; T2 does not use `c` (R140). -/
structure TripCfg where
  enabled : Bool
  a : Selection
  b : Selection
  c : Selection
  time : TripTime
  severity : Severity
  deriving DecidableEq, Repr

/-- What a trip unit keeps beside its configuration (R139). -/
structure TripUnitRec where
  since : Option Nat
  fired : Bool
  deriving DecidableEq, Repr

/-- The trip ids (R142). -/
inductive TripId where
  | trackTilt
  | trackSteer
  | sensorTilt
  | sensorSteer
  | handlebar
  | speed
  | trip1
  | trip2
  deriving DecidableEq, Repr

/-- An entry of the trip set: an id and the severity it fired with (R142). -/
structure Trip where
  id : TripId
  severity : Severity
  deriving DecidableEq, Repr

/-- The SAFE grade (R142). -/
inductive Grade where
  | none
  | degrade
  | lockdown
  deriving DecidableEq, Repr

/-- A debounced switch input (R131). -/
structure SwitchRec where
  active : Bool
  differSince : Option Nat
  deriving DecidableEq, Repr

/-- The conditions that blocks hand on, as last handed on (R133); the combiner conditions are the combiners' outputs. -/
structure CondList where
  stand : Bool
  seat : Bool
  brake : Bool
  parkbtn : Bool
  lift : Bool
  key : Bool
  still : Bool
  slow : Bool
  suspect : Bool
  locked : Bool
  holdStands : Bool
  leanHigh : Bool
  deriving DecidableEq, Repr

/-- The input unit. `changes` are the changes of conditions that their owners have announced and the unit has yet to take, first
to last (R133): none is left when a command has been handled (but see notes/assumptions/9.md). -/
structure InputUnit where
  stand : SwitchRec
  seat : SwitchRec
  brake : SwitchRec
  parkbtn : SwitchRec
  lift : SwitchRec
  key : SwitchRec
  conds : CondList
  changes : List (Cond × Bool)
  c0 : CombinerRec
  c1 : CombinerRec
  c2 : CombinerRec
  t1 : TripUnitRec
  t2 : TripUnitRec
  trips : List Trip
  deriving DecidableEq, Repr

/-! ## Event log (08) -/

/-- Kinds of LOCK_FAULT (09, "The event record"). -/
inductive LockFault where
  | jammed
  | unlatched
  | slip
  | uncommanded
  deriving DecidableEq, Repr

/-- Sources of WAKE (R129). -/
inductive WakeSource where
  | wheel
  | key
  | input
  | link
  deriving DecidableEq, Repr

/-- Where the working set was last loaded from (10). -/
inductive CalSource where
  | user
  | factory
  | defaults
  deriving DecidableEq, Repr

/-- The twenty-one events with their arguments (08, "The event record"); `on` is state ASSERT, not `on` is CLEAR. -/
inductive Event where
  | inputChange (i : Input) (on : Bool)
  | combiner (c : CombinerId) (on : Bool)
  | wheelOdd (w : Wheel) (on : Bool)
  | speedSuspect (on : Bool)
  | travelSource (w : TravelSource)
  | pathDone (tag : Byte)
  | pathDry (flushed : Bool)
  | holdBegin (p : Port)
  | holdEnd (r : EndReason)
  | routineEnd (x : Axis) (k : RoutineKind) (o : RoutineOutcome)
  | routineSuspend (x : Axis)
  | routineResume (x : Axis)
  | lockState (l : LatchState)
  | lockFault (f : LockFault)
  | lockLate (l : LatchState)
  | trip (t : TripId)
  | tripClear
  | startFull (c : CalSource)
  | startSoft
  | wake (w : WakeSource)
  | portOverrun (p : Port)
  | storeDone (pass : Bool)
  deriving DecidableEq, Repr

/-- A record of the log (R146). -/
structure EventRec where
  event : Event
  stamp : Stamp
  deriving DecidableEq, Repr

/-- An attention line: pulled low or not, and the end of its re-arm gap while one runs (R151). -/
structure AttnLine where
  asserted : Bool
  gapEnd : Option Nat
  deriving DecidableEq, Repr

/-- The event log and the two attention lines. -/
structure EventLog where
  records : List EventRec
  overflow : Bool
  attnA : AttnLine
  attnB : AttnLine
  deriving DecidableEq, Repr

/-! ## Link ports (09) -/

/-- Receiver states (R154). -/
inductive RxState where
  | hunt
  | length
  | body
  | check
  deriving DecidableEq, Repr

/-- Status codes (R160). -/
inductive Status where
  | ok
  | adjusted
  | busy
  | held
  | notNow
  | full
  | badArg
  | unknown
  | notReady
  | notHolder
  deriving DecidableEq, Repr

/-- What a block answers: the status and the payload of the reply (R158). -/
structure Answer where
  status : Status
  payload : List Byte
  deriving DecidableEq, Repr

/-- An occupied holding place: the frame's kind and reference, when it was delivered, and its reply, which is fixed when
the owning block has finished (R157, R159). -/
structure Held where
  kind : Byte
  ref : Byte
  at_ : Nat
  answer : Answer
  deriving DecidableEq, Repr

/-- A link port: receiver, holding place, and transmitter. `lastEnd` is the end of the last character received; `tx` holds
the characters of the reply's frame that is being sent or is about to be, each with its parity and its stop bit (R153, R159); it
is empty while there is none. -/
structure PortRec where
  rx : RxState
  need : Byte
  body : List Byte
  lastEnd : Nat
  place : Option Held
  tx : List Character
  deriving DecidableEq, Repr

/-! ## Parameters and the calibration store (10) -/

/-- The parameter set (the parameter table of 10). Entry 0 of the lean table is fixed at 0 and has no place. -/
structure Params where
  wheelCircRear : Int
  wheelCircFront : Int
  ppr : Int
  glitchMin : Int
  stallTime : Int
  curvGain : Int
  kGeom : Int
  aMax : Int
  aSafe : Int
  leanLimit : Int
  leanRate : Int
  steerRate : Int
  steerMax : Int
  lean1 : Int
  lean2 : Int
  lean3 : Int
  lean4 : Int
  lean5 : Int
  lean6 : Int
  lean7 : Int
  lean8 : Int
  vRel : Int
  vEng : Int
  uprightWindow : Int
  lockPullinMs : Int
  lockPullinDuty : Int
  lockHoldMs : Int
  lockHoldDuty : Int
  lockConfirmMs : Int
  preloadMs : Int
  holdTimeout : Int
  takeoverAngle : Int
  takeoverTime : Int
  dryDistance : Int
  overspeedMargin : Int
  kpTilt : Int
  kpSteer : Int
  driveMax : Int
  trackErrTilt : Int
  trackErrSteer : Int
  frictionTilt : Int
  frictionSteer : Int
  tiltCentre : Int
  steerCentre : Int
  debounce : Int
  inputEventMask : BitVec 6
  c0 : CombinerCfg
  c1 : CombinerCfg
  c2 : CombinerCfg
  t1 : TripCfg
  t2 : TripCfg
  attnMaskA : Byte
  attnMaskB : Byte
  wakeMask : BitVec 3
  deriving DecidableEq, Repr

/-- The numeric parameters by name (the parameter table of 10). -/
inductive Param where
  | wheelCircRear
  | wheelCircFront
  | ppr
  | glitchMin
  | stallTime
  | curvGain
  | kGeom
  | aMax
  | aSafe
  | leanLimit
  | leanRate
  | steerRate
  | steerMax
  | lean1
  | lean2
  | lean3
  | lean4
  | lean5
  | lean6
  | lean7
  | lean8
  | vRel
  | vEng
  | uprightWindow
  | lockPullinMs
  | lockPullinDuty
  | lockHoldMs
  | lockHoldDuty
  | lockConfirmMs
  | preloadMs
  | holdTimeout
  | takeoverAngle
  | takeoverTime
  | dryDistance
  | overspeedMargin
  | kpTilt
  | kpSteer
  | driveMax
  | trackErrTilt
  | trackErrSteer
  | frictionTilt
  | frictionSteer
  | tiltCentre
  | steerCentre
  | debounce
  deriving DecidableEq, Repr

/-- The mask parameters. -/
inductive MaskParam where
  | inputEvent
  | attnA
  | attnB
  | wake
  deriving DecidableEq, Repr

/-- What a parameter number names. -/
inductive ParamName where
  | num (p : Param)
  | mask (m : MaskParam)
  | combiner (c : CombinerId)
  | tripUnit (u : TripUnit)
  deriving DecidableEq, Repr

/-- A selection of the condition TRUE. -/
def Selection.always : Selection := { cond := .true_, inverted := false }

/-- The built-in default set (the parameter table of 10). -/
def Params.builtin : Params where
  wheelCircRear := 1380
  wheelCircFront := 1260
  ppr := 24
  glitchMin := 300
  stallTime := 250
  curvGain := 9532
  kGeom := 450
  aMax := 4000
  aSafe := 1500
  leanLimit := 3000
  leanRate := 60
  steerRate := 80
  steerMax := 3400
  lean1 := 726
  lean2 := 1430
  lean3 := 2092
  lean4 := 2701
  lean5 := 3250
  lean6 := 3740
  lean7 := 4173
  lean8 := 4555
  vRel := 250
  vEng := 120
  uprightWindow := 150
  lockPullinMs := 30
  lockPullinDuty := 1000
  lockHoldMs := 60
  lockHoldDuty := 400
  lockConfirmMs := 120
  preloadMs := 40
  holdTimeout := 300
  takeoverAngle := 800
  takeoverTime := 150
  dryDistance := 200
  overspeedMargin := 50
  kpTilt := 96
  kpSteer := 128
  driveMax := 900
  trackErrTilt := 600
  trackErrSteer := 800
  frictionTilt := 0
  frictionSteer := 0
  tiltCentre := 0
  steerCentre := 0
  debounce := 8
  inputEventMask := 0x3F#6
  c0 := { a := { cond := .stand, inverted := false }, b := .always, c := .always,
          fn := .aOnly, inverted := false, action := .lockHold }
  c1 := { a := { cond := .seat, inverted := true }, b := { cond := .still, inverted := false }, c := .always,
          fn := .all, inverted := false, action := .lockHold }
  c2 := { a := { cond := .brake, inverted := false }, b := .always, c := .always,
          fn := .aOnly, inverted := false, action := .none }
  t1 := { enabled := false, a := { cond := .stand, inverted := false }, b := { cond := .stand, inverted := false },
          c := { cond := .stand, inverted := false }, time := .ms0, severity := .degrade }
  t2 := { enabled := false, a := { cond := .stand, inverted := false }, b := { cond := .stand, inverted := false },
          c := { cond := .stand, inverted := false }, time := .ms0, severity := .degrade }
  attnMaskA := 0xFF#8
  attnMaskB := 0x5C#8
  wakeMask := 0x03#3

/-- The built-in default set as R166 loads it: entry 8 of the lean table is held at 4500. -/
def Params.loadedBuiltin : Params := { Params.builtin with lean8 := 4500 }

/-- A region of the calibration store: the set it holds, and whether its CRC-16 check passes (10). -/
structure Region where
  set : Params
  passes : Bool
  deriving DecidableEq, Repr

/-- The calibration store and the calibration source. -/
structure CalStore where
  user : Region
  factory : Region
  source : CalSource
  deriving DecidableEq, Repr

/-! ## The whole -/

/-- The pins as last sampled (R84, R88, R112, R131). -/
structure Pins where
  tilt : Int
  steer : Int
  handlebar : Int
  switches : Switches
  closed : Bool
  deriving DecidableEq, Repr

/-- The state of the part, and the queue of the commands that are waiting, first in, first out. -/
structure State where
  pending : List Instr
  now : Nat
  pins : Pins
  speed : SpeedUnit
  solve : SolveUnit
  path : PathUnit
  auth : AuthorityUnit
  tilt : AxisCtl
  steer : AxisCtl
  slot : Slot
  latch : LatchUnit
  inputs : InputUnit
  log : EventLog
  portA : PortRec
  portB : PortRec
  params : Params
  store : CalStore
  deriving DecidableEq, Repr

/-! ## After a FULL reset -/

/-- A wheel after a FULL reset (R6). -/
def WheelRec.reset : WheelRec :=
  { mode := .stalled, lastEdge := none, period := none, speed := 0, odd := false }

/-- The speed unit after a FULL reset (R17). -/
def SpeedUnit.reset : SpeedUnit :=
  { rear := .reset, frontL := .reset, frontR := .reset, median := 0, estimate := .good, v := 0, suspectSince := none,
    source := .rear, accumulator := 0, withheld := 0, passed := none }

/-- The solve unit seeded at a FULL reset, when no measurement has arrived (R18, R36, R37). -/
def SolveUnit.reset : SolveUnit :=
  { phiT := 0, deltaT := 0, phiS := 0, deltaS := 0, kc := 0, a := 0, curvLimited := false, leanLimited := false,
    upright := false, captured := 0, periodDue := 2000 }

/-- The path unit after a FULL reset (R69), and after every end of a hold (R67). -/
def PathUnit.empty : PathUnit :=
  { queue := [], pos := 0, staging := [], batchOpen := false, held := none, dryCount := 0, ceilingSince := none }

/-- The authority unit after a FULL reset (R71, R87; `takeoverTime`: notes/assumptions/38.md). -/
def AuthorityUnit.reset : AuthorityUnit :=
  { hold := none, theta := 0, riderDemand := 0, valid := true, dropoutSince := none, dropoutFired := false,
    takeoverTime := 0 }

/-- A result record after a FULL reset (R108). -/
def ResultRec.empty : ResultRec := { kind := none, outcome := .none, v1 := none, v2 := none, v3 := none }

/-- An axis after a FULL reset (R88, R92, R93, R108). -/
def AxisCtl.reset : AxisCtl :=
  { mode := .off, returnMode := none, meas := 0, against := none, valid := true, drive := 0, trackSince := none,
    trackFired := false, result := .empty }

/-- The latch controller after a FULL reset whose first samples are KEY at `key` and the confirm switch at `closed`
(R128, R130). -/
def LatchUnit.reset (key closed : Bool) : LatchUnit :=
  { state := .engaged, uncommanded := false, closed := true, differSince := none,
    first := some { level := closed, since := 0 }, pulse := none,
    set := none, preloadEnd := none, permitOf := none, itemA := .none, itemB := .none, run := .run,
    keyOffSince := if key then none else some 0, autoPark := false }

/-- A debounced input after its first sample (R131). -/
def SwitchRec.reset (level : Bool) : SwitchRec := { active := level, differSince := none }

/-- The input unit after a FULL reset, before the combiners and trip units are evaluated (R131, R133, R138, R140). -/
def InputUnit.reset (l : Switches) : InputUnit :=
  { stand := .reset l.stand, seat := .reset l.seat, brake := .reset l.brake, parkbtn := .reset l.parkbtn,
    lift := .reset l.lift, key := .reset l.key,
    conds := { stand := l.stand, seat := l.seat, brake := l.brake, parkbtn := l.parkbtn, lift := l.lift, key := l.key,
               still := true, slow := true, suspect := false, locked := true, holdStands := false, leanHigh := false },
    changes := [], c0 := { stored := false, output := false }, c1 := { stored := false, output := false },
    c2 := { stored := false, output := false }, t1 := { since := none, fired := false },
    t2 := { since := none, fired := false }, trips := [] }

/-- An attention line left undriven. -/
def AttnLine.released : AttnLine := { asserted := false, gapEnd := none }

/-- The log emptied by a FULL reset (R152). -/
def EventLog.empty : EventLog := { records := [], overflow := false, attnA := .released, attnB := .released }

/-- A port after a FULL reset (R153, R157). -/
def PortRec.reset : PortRec := { rx := .hunt, need := 0, body := [], lastEnd := 0, place := none, tx := [] }

/-- The switch levels the model takes the pins to have at State.reset (notes/assumptions/4.md). -/
def quietSwitches : Switches :=
  { stand := false, seat := false, brake := false, parkbtn := false, lift := false, key := false }

/-- The part right after a FULL reset, with the pins and the store regions as notes/assumptions/4.md takes them: USER
fails its check, FACTORY passes and holds the default set, so the source is FACTORY (R169). The log holds START alone
(R152), and ATTN_A is asserted on it. C1 is true, since nobody sits on the standing vehicle (R138). -/
def State.reset : State where
  pending := []
  now := 0
  pins := { tilt := 0, steer := 0, handlebar := 0, switches := quietSwitches, closed := true }
  speed := .reset
  solve := .reset
  path := .empty
  auth := .reset
  tilt := .reset
  steer := .reset
  slot := .free
  latch := .reset false true
  inputs := { InputUnit.reset quietSwitches with c1 := { stored := false, output := true } }
  log := { records := [{ event := .startFull .factory, stamp := 0 }], overflow := false,
           attnA := { asserted := true, gapEnd := none }, attnB := .released }
  portA := .reset
  portB := .reset
  params := .loadedBuiltin
  store := { user := { set := .builtin, passes := false }, factory := { set := .builtin, passes := true },
             source := .factory }

end Sys2Proof.Machine
end

