-- ==== Sys2Proof/Machine/Arith.lean ====
section
/-! DEFINITION. The arithmetic words of the manual (00_scope.md, "Rounding words" and "Clamped to a range") and the byte
order of payloads (09, "Frames"). -/

namespace Sys2Proof.Machine

/-- Clamped to the range lo..hi: a value below is replaced by the lower limit, a value above by the upper. -/
def clamp (lo hi x : Int) : Int := if x < lo then lo else if hi < x then hi else x

/-- Clamped to ±b. -/
def clampSym (b x : Int) : Int := clamp (-b) b x

/-- The quotient n / d rounded to the nearest integer, halves away from zero; d is above 0. -/
def roundDiv (n d : Int) : Int :=
  if n < 0 then -((2 * (-n) + d) / (2 * d)) else (2 * n + d) / (2 * d)

/-- The quotient n / d truncated toward zero. -/
def truncDiv (n d : Int) : Int := Int.tdiv n d

/-- The magnitude of an angle or a difference. -/
def mag (x : Int) : Int := if x < 0 then -x else x

/-- The distance between two speeds. -/
def gap (a b : Nat) : Nat := (a - b) + (b - a)

/-- The middle of three values when they are put in order (R7). -/
def median3 (a b c : Nat) : Nat := max (min a b) (min (max a b) c)

/-- A parameter in ms as timebase counts. -/
def msOf (x : Int) : Nat := x.toNat * 1000

/-- Has the timer that counts from `since` reached `limit` microseconds by `now`? A stopped timer never has. -/
def reached (since : Option Nat) (limit now : Nat) : Bool :=
  match since with
  | none => false
  | some t => t + limit ≤ now

/-- Has the moment `due` come by `now`? An absent moment never comes. -/
def dueBy (due : Option Nat) (now : Nat) : Bool :=
  match due with
  | none => false
  | some t => t ≤ now

/-- The byte holding a small number. -/
def byteOf (n : Nat) : Byte := BitVec.ofNat 8 n

/-- A number in two bytes, low byte first, in two's complement (09, "Frames"). -/
def le16 (x : Int) : List Byte :=
  let n := (x % 65536).toNat
  [byteOf (n % 256), byteOf (n / 256)]

/-- Two bytes, low byte first, as an unsigned number. -/
def unsigned16 (lo hi : Byte) : Nat := lo.toNat + 256 * hi.toNat

/-- Two bytes, low byte first, as a signed number. -/
def signed16 (lo hi : Byte) : Int :=
  let n : Int := unsigned16 lo hi
  if n < 32768 then n else n - 65536

end Sys2Proof.Machine
end

