-- ==== Sys2Proof/Machine/ParamTable.lean ====
section
/-! DEFINITION. The parameter table (10, "The parameter table"): numbers, ranges, places in the working set, the
couplings of R164, and the loading of a set (R166). -/

namespace Sys2Proof.Machine

/-- What a parameter number names. -/
def ParamName.ofNumber : Nat → Option ParamName
  | 0x01 => some (.num .wheelCircRear)
  | 0x02 => some (.num .wheelCircFront)
  | 0x03 => some (.num .ppr)
  | 0x04 => some (.num .glitchMin)
  | 0x05 => some (.num .stallTime)
  | 0x10 => some (.num .curvGain)
  | 0x11 => some (.num .kGeom)
  | 0x12 => some (.num .aMax)
  | 0x13 => some (.num .aSafe)
  | 0x14 => some (.num .leanLimit)
  | 0x15 => some (.num .leanRate)
  | 0x16 => some (.num .steerRate)
  | 0x17 => some (.num .steerMax)
  | 0x19 => some (.num .lean1)
  | 0x1A => some (.num .lean2)
  | 0x1B => some (.num .lean3)
  | 0x1C => some (.num .lean4)
  | 0x1D => some (.num .lean5)
  | 0x1E => some (.num .lean6)
  | 0x1F => some (.num .lean7)
  | 0x20 => some (.num .lean8)
  | 0x30 => some (.num .vRel)
  | 0x31 => some (.num .vEng)
  | 0x32 => some (.num .uprightWindow)
  | 0x33 => some (.num .lockPullinMs)
  | 0x34 => some (.num .lockPullinDuty)
  | 0x35 => some (.num .lockHoldMs)
  | 0x36 => some (.num .lockHoldDuty)
  | 0x37 => some (.num .lockConfirmMs)
  | 0x38 => some (.num .preloadMs)
  | 0x40 => some (.num .holdTimeout)
  | 0x41 => some (.num .takeoverAngle)
  | 0x42 => some (.num .takeoverTime)
  | 0x43 => some (.num .dryDistance)
  | 0x44 => some (.num .overspeedMargin)
  | 0x50 => some (.num .kpTilt)
  | 0x51 => some (.num .kpSteer)
  | 0x52 => some (.num .driveMax)
  | 0x53 => some (.num .trackErrTilt)
  | 0x54 => some (.num .trackErrSteer)
  | 0x55 => some (.num .frictionTilt)
  | 0x56 => some (.num .frictionSteer)
  | 0x57 => some (.num .tiltCentre)
  | 0x58 => some (.num .steerCentre)
  | 0x60 => some (.num .debounce)
  | 0x61 => some (.mask .inputEvent)
  | 0x62 => some (.combiner .c0)
  | 0x63 => some (.combiner .c1)
  | 0x64 => some (.combiner .c2)
  | 0x65 => some (.tripUnit .t1)
  | 0x66 => some (.tripUnit .t2)
  | 0x70 => some (.mask .attnA)
  | 0x71 => some (.mask .attnB)
  | 0x72 => some (.mask .wake)
  | _ => none

/-- The range of each numeric parameter; the upper ends that depend on other parameters are the couplings'. -/
def Param.range : Param → Int × Int
  | .wheelCircRear => (800, 2500)
  | .wheelCircFront => (800, 2500)
  | .ppr => (1, 64)
  | .glitchMin => (50, 2000)
  | .stallTime => (50, 1000)
  | .curvGain => (1000, 40000)
  | .kGeom => (50, 500)
  | .aMax => (500, 9000)
  | .aSafe => (300, 9000)
  | .leanLimit => (0, 4000)
  | .leanRate => (1, 500)
  | .steerRate => (1, 500)
  | .steerMax => (500, 4500)
  | .lean1 => (0, 4500)
  | .lean2 => (0, 4500)
  | .lean3 => (0, 4500)
  | .lean4 => (0, 4500)
  | .lean5 => (0, 4500)
  | .lean6 => (0, 4500)
  | .lean7 => (0, 4500)
  | .lean8 => (0, 4500)
  | .vRel => (50, 800)
  | .vEng => (20, 770)
  | .uprightWindow => (20, 500)
  | .lockPullinMs => (5, 100)
  | .lockPullinDuty => (100, 1000)
  | .lockHoldMs => (0, 200)
  | .lockHoldDuty => (0, 1000)
  | .lockConfirmMs => (20, 500)
  | .preloadMs => (0, 200)
  | .holdTimeout => (50, 2000)
  | .takeoverAngle => (100, 3000)
  | .takeoverTime => (20, 1000)
  | .dryDistance => (0, 2000)
  | .overspeedMargin => (0, 500)
  | .kpTilt => (1, 1024)
  | .kpSteer => (1, 1024)
  | .driveMax => (100, 1000)
  | .trackErrTilt => (100, 2000)
  | .trackErrSteer => (100, 2000)
  | .frictionTilt => (0, 300)
  | .frictionSteer => (0, 300)
  | .tiltCentre => (-1000, 1000)
  | .steerCentre => (-1000, 1000)
  | .debounce => (0, 50)

/-- The value of a numeric parameter. -/
def Params.get (p : Params) : Param → Int
  | .wheelCircRear => p.wheelCircRear
  | .wheelCircFront => p.wheelCircFront
  | .ppr => p.ppr
  | .glitchMin => p.glitchMin
  | .stallTime => p.stallTime
  | .curvGain => p.curvGain
  | .kGeom => p.kGeom
  | .aMax => p.aMax
  | .aSafe => p.aSafe
  | .leanLimit => p.leanLimit
  | .leanRate => p.leanRate
  | .steerRate => p.steerRate
  | .steerMax => p.steerMax
  | .lean1 => p.lean1
  | .lean2 => p.lean2
  | .lean3 => p.lean3
  | .lean4 => p.lean4
  | .lean5 => p.lean5
  | .lean6 => p.lean6
  | .lean7 => p.lean7
  | .lean8 => p.lean8
  | .vRel => p.vRel
  | .vEng => p.vEng
  | .uprightWindow => p.uprightWindow
  | .lockPullinMs => p.lockPullinMs
  | .lockPullinDuty => p.lockPullinDuty
  | .lockHoldMs => p.lockHoldMs
  | .lockHoldDuty => p.lockHoldDuty
  | .lockConfirmMs => p.lockConfirmMs
  | .preloadMs => p.preloadMs
  | .holdTimeout => p.holdTimeout
  | .takeoverAngle => p.takeoverAngle
  | .takeoverTime => p.takeoverTime
  | .dryDistance => p.dryDistance
  | .overspeedMargin => p.overspeedMargin
  | .kpTilt => p.kpTilt
  | .kpSteer => p.kpSteer
  | .driveMax => p.driveMax
  | .trackErrTilt => p.trackErrTilt
  | .trackErrSteer => p.trackErrSteer
  | .frictionTilt => p.frictionTilt
  | .frictionSteer => p.frictionSteer
  | .tiltCentre => p.tiltCentre
  | .steerCentre => p.steerCentre
  | .debounce => p.debounce

/-- The set with one numeric parameter replaced, nothing else touched. -/
def Params.put (p : Params) (x : Param) (v : Int) : Params :=
  match x with
  | .wheelCircRear => { p with wheelCircRear := v }
  | .wheelCircFront => { p with wheelCircFront := v }
  | .ppr => { p with ppr := v }
  | .glitchMin => { p with glitchMin := v }
  | .stallTime => { p with stallTime := v }
  | .curvGain => { p with curvGain := v }
  | .kGeom => { p with kGeom := v }
  | .aMax => { p with aMax := v }
  | .aSafe => { p with aSafe := v }
  | .leanLimit => { p with leanLimit := v }
  | .leanRate => { p with leanRate := v }
  | .steerRate => { p with steerRate := v }
  | .steerMax => { p with steerMax := v }
  | .lean1 => { p with lean1 := v }
  | .lean2 => { p with lean2 := v }
  | .lean3 => { p with lean3 := v }
  | .lean4 => { p with lean4 := v }
  | .lean5 => { p with lean5 := v }
  | .lean6 => { p with lean6 := v }
  | .lean7 => { p with lean7 := v }
  | .lean8 => { p with lean8 := v }
  | .vRel => { p with vRel := v }
  | .vEng => { p with vEng := v }
  | .uprightWindow => { p with uprightWindow := v }
  | .lockPullinMs => { p with lockPullinMs := v }
  | .lockPullinDuty => { p with lockPullinDuty := v }
  | .lockHoldMs => { p with lockHoldMs := v }
  | .lockHoldDuty => { p with lockHoldDuty := v }
  | .lockConfirmMs => { p with lockConfirmMs := v }
  | .preloadMs => { p with preloadMs := v }
  | .holdTimeout => { p with holdTimeout := v }
  | .takeoverAngle => { p with takeoverAngle := v }
  | .takeoverTime => { p with takeoverTime := v }
  | .dryDistance => { p with dryDistance := v }
  | .overspeedMargin => { p with overspeedMargin := v }
  | .kpTilt => { p with kpTilt := v }
  | .kpSteer => { p with kpSteer := v }
  | .driveMax => { p with driveMax := v }
  | .trackErrTilt => { p with trackErrTilt := v }
  | .trackErrSteer => { p with trackErrSteer := v }
  | .frictionTilt => { p with frictionTilt := v }
  | .frictionSteer => { p with frictionSteer := v }
  | .tiltCentre => { p with tiltCentre := v }
  | .steerCentre => { p with steerCentre := v }
  | .debounce => { p with debounce := v }

/-- All numeric parameters. -/
def Param.all : List Param :=
    [.wheelCircRear, .wheelCircFront, .ppr, .glitchMin, .stallTime, .curvGain, .kGeom, .aMax, .aSafe,
   .leanLimit, .leanRate, .steerRate, .steerMax, .lean1, .lean2, .lean3, .lean4, .lean5, .lean6, .lean7,
   .lean8, .vRel, .vEng] ++
    [.uprightWindow, .lockPullinMs, .lockPullinDuty, .lockHoldMs, .lockHoldDuty, .lockConfirmMs, .preloadMs,
   .holdTimeout, .takeoverAngle, .takeoverTime, .dryDistance, .overspeedMargin, .kpTilt, .kpSteer, .driveMax,
   .trackErrTilt, .trackErrSteer, .frictionTilt, .frictionSteer, .tiltCentre, .steerCentre, .debounce]

/-- A value clamped to its parameter's own range. -/
def Param.clampOwn (x : Param) (v : Int) : Int := clamp x.range.1 x.range.2 v
/-- Entry `i` of the lean table (02, "Stage 4"): entry 0 is fixed at 0. -/
def Params.lean (p : Params) : Nat → Int
  | 0 => 0
  | 1 => p.lean1
  | 2 => p.lean2
  | 3 => p.lean3
  | 4 => p.lean4
  | 5 => p.lean5
  | 6 => p.lean6
  | 7 => p.lean7
  | _ => p.lean8

/-- The couplings a written value is clamped to, after its own range (R164). A written A_MAX is not held by A_SAFE. -/
def Params.couple (p : Params) (x : Param) (v : Int) : Int :=
  match x with
  | .vEng => min v (p.vRel - 30)
  | .vRel => max v (p.vEng + 30)
  | .aSafe => clamp 300 p.aMax v
  | .lean1 => clamp 0 p.lean2 v
  | .lean2 => clamp p.lean1 p.lean3 v
  | .lean3 => clamp p.lean2 p.lean4 v
  | .lean4 => clamp p.lean3 p.lean5 v
  | .lean5 => clamp p.lean4 p.lean6 v
  | .lean6 => clamp p.lean5 p.lean7 v
  | .lean7 => clamp p.lean6 p.lean8 v
  | .lean8 => clamp p.lean7 4500 v
  | _ => v

/-- The value that a SET_PARAM of `v` stores (R163, R164). -/
def Params.stored (p : Params) (x : Param) (v : Int) : Int := p.couple x (x.clampOwn v)

/-- Storing a value already settled; lowering A_MAX lowers A_SAFE with it (R164). -/
def Params.store (p : Params) (x : Param) (v : Int) : Params :=
  match x with
  | .aMax => { p with aMax := v, aSafe := min p.aSafe v }
  | _ => p.put x v

/-- Each value clamped to its own range (R166). -/
def Params.clampAll (p : Params) : Params :=
  Param.all.foldl (fun q x => q.put x (x.clampOwn (q.get x))) p

/-- The couplings applied across a loaded set, in the order of R166. -/
def Params.coupleAll (p : Params) : Params :=
  let p := { p with vEng := min p.vEng (p.vRel - 30) }
  let p := { p with aSafe := min p.aSafe p.aMax }
  let p := { p with lean8 := min p.lean8 4500 }
  let p := { p with lean1 := max p.lean1 0 }
  let p := { p with lean2 := max p.lean2 p.lean1 }
  let p := { p with lean3 := max p.lean3 p.lean2 }
  let p := { p with lean4 := max p.lean4 p.lean3 }
  let p := { p with lean5 := max p.lean5 p.lean4 }
  let p := { p with lean6 := max p.lean6 p.lean5 }
  let p := { p with lean7 := max p.lean7 p.lean6 }
  { p with lean8 := max p.lean8 p.lean7 }

/-- A set as it enters the working set when it is loaded (R166). -/
def Params.loaded (p : Params) : Params := p.clampAll.coupleAll

/-- The configuration of a combiner. -/
def Params.combiner (p : Params) : CombinerId → CombinerCfg
  | .c0 => p.c0
  | .c1 => p.c1
  | .c2 => p.c2

/-- The configuration of a trip unit. -/
def Params.tripUnit (p : Params) : TripUnit → TripCfg
  | .t1 => p.t1
  | .t2 => p.t2

/-- The attention mask of a line. -/
def Params.attnMask (p : Params) : Port → Byte
  | .a => p.attnMaskA
  | .b => p.attnMaskB

/-- The circumference of a wheel (01): both front wheels share one parameter. -/
def Params.circ (p : Params) : Wheel → Int
  | .rear => p.wheelCircRear
  | .frontL => p.wheelCircFront
  | .frontR => p.wheelCircFront

/-- The loop gain of an axis (R90). -/
def Params.kp (p : Params) : Axis → Int
  | .tilt => p.kpTilt
  | .steer => p.kpSteer

/-- The friction part of an axis (R90). -/
def Params.friction (p : Params) : Axis → Int
  | .tilt => p.frictionTilt
  | .steer => p.frictionSteer

/-- The tracking limit of an axis (R92). -/
def Params.trackErr (p : Params) : Axis → Int
  | .tilt => p.trackErrTilt
  | .steer => p.trackErrSteer

/-- The centre of an axis (R88). -/
def Params.centre (p : Params) : Axis → Int
  | .tilt => p.tiltCentre
  | .steer => p.steerCentre

end Sys2Proof.Machine
end

