-- ==== Sys2Proof/Machine/Operands.lean ====
section
/-! DEFINITION. The layouts of payloads and records (09, "Record layouts"): segments, configuration items, parameter
values, result records and event records. A layout that a payload breaks is answered by `none`. -/

namespace Sys2Proof.Machine

/-! ## Segments (09, "The segment encoding"; R45) -/

/-- The next two bytes when an option is present. -/
def optionWord (present : Bool) (bs : List Byte) : Option (Option (Byte × Byte) × List Byte) :=
  match present, bs with
  | false, rest => some (none, rest)
  | true, lo :: hi :: rest => some (some (lo, hi), rest)
  | true, _ => none

/-- A segment read from a frame: the segment as settled, and whether a value of it was clamped (R45). -/
structure ReadSegment where
  seg : Segment
  clamped : Bool
  deriving DecidableEq, Repr

/-- The segment that the raw fields settle to (R45); `none` where they make it malformed. -/
def settleSegment (options tag : Byte) (length : Nat) (k0 : Int) (k1 : Option Int) (ceiling : Option Nat)
    (trim : Option Int) : Option ReadSegment :=
  if length < 10 || ceiling.any (2500 < ·) then none
  else
    let k0' := clampSym 500 k0
    let k1' := (k1.map (clampSym 500)).getD k0'
    let trim' := trim.map (clampSym 300)
    some { seg := { tag := tag, length := length, k0 := k0', k1 := k1', ceiling := ceiling, trim := trim',
                    endRelease := options.getLsbD 3 },
           clamped := k0' != k0 || k1.any (fun x => clampSym 500 x != x) || trim.any (fun x => clampSym 300 x != x) }

/-- One segment from the front of the bytes, with the bytes after it. -/
def readSegment (bs : List Byte) : Option (ReadSegment × List Byte) :=
  match bs with
  | options :: tag :: l0 :: l1 :: k0 :: k0' :: rest =>
    if 16 ≤ options.toNat then none
    else
      (optionWord (options.getLsbD 0) rest).bind fun (k1, rest) =>
      (optionWord (options.getLsbD 1) rest).bind fun (ceiling, rest) =>
      (optionWord (options.getLsbD 2) rest).bind fun (trim, rest) =>
      (settleSegment options tag (unsigned16 l0 l1) (signed16 k0 k0') (k1.map fun b => signed16 b.1 b.2)
        (ceiling.map fun b => unsigned16 b.1 b.2) (trim.map fun b => signed16 b.1 b.2)).map fun r => (r, rest)
  | _ => none

/-- The segments of a LOAD_PATH, read to the end of the payload; the first argument bounds their number. -/
def readSegmentsN : Nat → List Byte → Option (List ReadSegment)
  | _, [] => some []
  | 0, _ :: _ => none
  | n + 1, b :: bs =>
    match readSegment (b :: bs) with
    | none => none
    | some (r, rest) => (readSegmentsN n rest).map (r :: ·)

/-- A frame carries at most four segments (R59). -/
def readSegments (bs : List Byte) : Option (List ReadSegment) := readSegmentsN 4 bs

/-! ## Configuration items (09, "Result record and configuration items"; R138, R140) -/

/-- The condition of a number 0..15 (07, "Conditions"). -/
def Cond.ofNumber (n : Nat) : Cond :=
  match n with
  | 0 => .stand
  | 1 => .seat
  | 2 => .brake
  | 3 => .parkbtn
  | 4 => .lift
  | 5 => .key
  | 6 => .still
  | 7 => .slow
  | 8 => .suspect
  | 9 => .locked
  | 10 => .holdStands
  | 11 => .leanHigh
  | 12 => .c0
  | 13 => .c1
  | 14 => .c2
  | _ => .true_

/-- The number of a condition. -/
def Cond.number : Cond → Nat
  | .stand => 0
  | .seat => 1
  | .brake => 2
  | .parkbtn => 3
  | .lift => 4
  | .key => 5
  | .still => 6
  | .slow => 7
  | .suspect => 8
  | .locked => 9
  | .holdStands => 10
  | .leanHigh => 11
  | .c0 => 12
  | .c1 => 13
  | .c2 => 14
  | .true_ => 15

/-- A selection byte: bits 0–3 the condition, bit 4 the inversion; a set bit above is malformed. -/
def Selection.ofByte (b : Byte) : Option Selection :=
  if 32 ≤ b.toNat then none
  else some { cond := .ofNumber (b.toNat % 16), inverted := b.getLsbD 4 }

/-- The byte of a selection. -/
def Selection.toByte (x : Selection) : Byte := byteOf (x.cond.number + if x.inverted then 16 else 0)

/-- May a combiner select this condition? C0 no combiner, C1 only C0, C2 only C0 and C1 (R136). -/
def CombinerId.maySelect (i : CombinerId) (c : Cond) : Bool :=
  match i, c with
  | .c0, .c0 => false
  | .c0, .c1 => false
  | .c0, .c2 => false
  | .c1, .c1 => false
  | .c1, .c2 => false
  | .c2, .c2 => false
  | _, _ => true

/-- The function of a code 0..6. -/
def CombinerFn.ofCode (n : Nat) : Option CombinerFn :=
  match n with
  | 0 => some .never
  | 1 => some .all
  | 2 => some .any
  | 3 => some .odd
  | 4 => some .majority
  | 5 => some .aOnly
  | 6 => some .latch
  | _ => none

/-- The code of a function. -/
def CombinerFn.code : CombinerFn → Nat
  | .never => 0
  | .all => 1
  | .any => 2
  | .odd => 3
  | .majority => 4
  | .aOnly => 5
  | .latch => 6

/-- The action of a code 0..2; an action of 3 is malformed (09, "Result record and configuration items"). -/
def CombinerAction.ofCode (n : Nat) : Option CombinerAction :=
  match n with
  | 0 => some .none
  | 1 => some .event
  | 2 => some .lockHold
  | _ => Option.none

/-- The code of an action. -/
def CombinerAction.code : CombinerAction → Nat
  | .none => 0
  | .event => 1
  | .lockHold => 2

/-- A combiner item from its four bytes; the chaining of R136 is checked on all three selections (R138). -/
def CombinerCfg.ofBytes (i : CombinerId) (bs : List Byte) : Option CombinerCfg :=
  match bs with
  | [ba, bb, bc, bf] =>
    match Selection.ofByte ba, Selection.ofByte bb, Selection.ofByte bc, CombinerFn.ofCode (bf.toNat % 8),
        CombinerAction.ofCode (bf.toNat / 16 % 4) with
    | some a, some b, some c, some fn, some action =>
      if bf.toNat < 64 && i.maySelect a.cond && i.maySelect b.cond && i.maySelect c.cond then
        some { a := a, b := b, c := c, fn := fn, inverted := bf.getLsbD 3, action := action }
      else none
    | _, _, _, _, _ => none
  | _ => none

/-- The four bytes of a combiner item. -/
def CombinerCfg.toBytes (x : CombinerCfg) : List Byte :=
  [x.a.toByte, x.b.toByte, x.c.toByte, byteOf (x.fn.code + (if x.inverted then 8 else 0) + 16 * x.action.code)]

/-- The trip time of a code 0..7. -/
def TripTime.ofCode (n : Nat) : TripTime :=
  match n with
  | 0 => .ms0
  | 1 => .ms20
  | 2 => .ms50
  | 3 => .ms100
  | 4 => .ms200
  | 5 => .ms500
  | 6 => .ms1000
  | _ => .ms2000

/-- The code of a trip time. -/
def TripTime.code : TripTime → Nat
  | .ms0 => 0
  | .ms20 => 1
  | .ms50 => 2
  | .ms100 => 3
  | .ms200 => 4
  | .ms500 => 5
  | .ms1000 => 6
  | .ms2000 => 7

/-- A trip time in ms. -/
def TripTime.ms : TripTime → Nat
  | .ms0 => 0
  | .ms20 => 20
  | .ms50 => 50
  | .ms100 => 100
  | .ms200 => 200
  | .ms500 => 500
  | .ms1000 => 1000
  | .ms2000 => 2000

/-- The selection that byte 0 encodes: what the unused third selection of T2 reads back as. -/
def Selection.zero : Selection := { cond := .stand, inverted := false }

/-- The third selection of a trip unit item: ignored and not checked for T2 (R140). -/
def TripCfg.thirdOf (u : TripUnit) (b : Byte) : Option Selection :=
  match u with
  | .t1 => Selection.ofByte b
  | .t2 => some .zero

/-- A trip unit item from its four bytes (R140). -/
def TripCfg.ofBytes (u : TripUnit) (bs : List Byte) : Option TripCfg :=
  match bs with
  | [ba, bb, bc, bf] =>
    match Selection.ofByte ba, Selection.ofByte bb, TripCfg.thirdOf u bc with
    | some a, some b, some c =>
      if bf.toNat < 32 then
        some { enabled := bf.getLsbD 0, a := a, b := b, c := c, time := .ofCode (bf.toNat / 2 % 8),
               severity := if bf.getLsbD 4 then .lockdown else .degrade }
      else none
    | _, _, _ => none
  | _ => none

/-- The four bytes of a trip unit item; byte 2 of a T2 item reads back as 0. -/
def TripCfg.toBytes (u : TripUnit) (x : TripCfg) : List Byte :=
  [x.a.toByte, x.b.toByte, if u = .t1 then x.c.toByte else 0,
    byteOf ((if x.enabled then 1 else 0) + 2 * x.time.code + (if x.severity = .lockdown then 16 else 0))]

/-! ## Parameter values (09; R163, R165) -/

/-- The value of a parameter as GET_PARAM and SET_PARAM carry it: 2 bytes, or 4 for a configuration item. A CURV_GAIN above 32767
goes out as its low 16 bits (notes/assumptions/41.md). -/
def Params.valueBytes (p : Params) : ParamName → List Byte
  | .num x => le16 (p.get x)
  | .mask .inputEvent => le16 p.inputEventMask.toNat
  | .mask .attnA => le16 p.attnMaskA.toNat
  | .mask .attnB => le16 p.attnMaskB.toNat
  | .mask .wake => le16 p.wakeMask.toNat
  | .combiner c => (p.combiner c).toBytes
  | .tripUnit u => (p.tripUnit u).toBytes u

/-- The width of a mask parameter (09, "Result record and configuration items"). -/
def MaskParam.width : MaskParam → Nat
  | .inputEvent => 6
  | .attnA => 8
  | .attnB => 8
  | .wake => 3

/-- The set with a mask replaced. -/
def Params.putMask (p : Params) (m : MaskParam) (n : Nat) : Params :=
  match m with
  | .inputEvent => { p with inputEventMask := BitVec.ofNat 6 n }
  | .attnA => { p with attnMaskA := BitVec.ofNat 8 n }
  | .attnB => { p with attnMaskB := BitVec.ofNat 8 n }
  | .wake => { p with wakeMask := BitVec.ofNat 3 n }

/-- The set with a combiner item replaced. -/
def Params.putCombiner (p : Params) (i : CombinerId) (x : CombinerCfg) : Params :=
  match i with
  | .c0 => { p with c0 := x }
  | .c1 => { p with c1 := x }
  | .c2 => { p with c2 := x }

/-- The set with a trip unit item replaced. -/
def Params.putTripUnit (p : Params) (u : TripUnit) (x : TripCfg) : Params :=
  match u with
  | .t1 => { p with t1 := x }
  | .t2 => { p with t2 := x }

/-- The set after a SET_PARAM of these value bytes to this parameter; `none` where the value has the wrong length or is a
malformed item or mask (R163 point 1). Two bytes of a numeric value are read as a signed number, those of CURV_GAIN too, whose
range runs to 40000 (notes/assumptions/41.md). -/
def Params.write (p : Params) (name : ParamName) (value : List Byte) : Option Params :=
  match name with
  | .num x =>
    match value with
    | [lo, hi] => some (p.store x (p.stored x (signed16 lo hi)))
    | _ => none
  | .mask m =>
    match value with
    | [lo, hi] => if unsigned16 lo hi < 2 ^ m.width then some (p.putMask m (unsigned16 lo hi)) else none
    | _ => none
  | .combiner i => (CombinerCfg.ofBytes i value).map (p.putCombiner i)
  | .tripUnit u => (TripCfg.ofBytes u value).map (p.putTripUnit u)

/-! ## Codes (09, "The status record", "The event record") -/

/-- Code of a port: 1 A, 2 B. -/
def portCode : Port → Nat
  | .a => 1
  | .b => 2

/-- Code of an axis: 0 tilt, 1 steer. -/
def axisCode : Axis → Nat
  | .tilt => 0
  | .steer => 1

/-- The axis of a code. -/
def axisOfCode (n : Nat) : Option Axis :=
  match n with
  | 0 => some .tilt
  | 1 => some .steer
  | _ => none

/-- Code of a wheel. -/
def wheelCode : Wheel → Nat
  | .rear => 0
  | .frontL => 1
  | .frontR => 2

/-- Code of an input. -/
def inputCode : Input → Nat
  | .stand => 0
  | .seat => 1
  | .brake => 2
  | .parkbtn => 3
  | .lift => 4
  | .key => 5

/-- Code of a combiner. -/
def CombinerId.code : CombinerId → Nat
  | .c0 => 0
  | .c1 => 1
  | .c2 => 2

/-- Code of an axis mode. -/
def AxisMode.code : AxisMode → Nat
  | .off => 0
  | .track => 1
  | .routine => 2
  | .service => 3

/-- Code of a latch state. -/
def LatchState.code : LatchState → Nat
  | .engaged => 0
  | .releasePreload => 1
  | .releasing => 2
  | .released => 3
  | .engaging => 4
  | .jammed => 5
  | .unlatchedFault => 6

/-- Code of a trip id. -/
def TripId.code : TripId → Nat
  | .trackTilt => 1
  | .trackSteer => 2
  | .sensorTilt => 3
  | .sensorSteer => 4
  | .handlebar => 5
  | .speed => 6
  | .trip1 => 7
  | .trip2 => 8

/-- Code of a grade. -/
def Grade.code : Grade → Nat
  | .none => 0
  | .degrade => 1
  | .lockdown => 2

/-- Code of a demand item. -/
def DemandItem.code : DemandItem → Nat
  | .none => 0
  | .lock => 1
  | .permit => 2

/-- Code of the reason of a hold end. -/
def EndReason.code : EndReason → Nat
  | .dropped => 1
  | .preempted => 2
  | .silent => 3
  | .takeover => 4
  | .dry => 5
  | .done => 6
  | .overspeed => 7
  | .safe => 8
  | .restart => 9
  | .park => 10

/-- Code of a demand source. -/
def DemandSource.code : DemandSource → Nat
  | .rider => 0
  | .path => 1
  | .dry => 2

/-- Code of a routine kind. -/
def RoutineKind.code : RoutineKind → Nat
  | .home => 0
  | .friction => 1
  | .lockTest => 2

/-- The routine kind of a code. -/
def RoutineKind.ofCode (n : Nat) : Option RoutineKind :=
  match n with
  | 0 => some .home
  | 1 => some .friction
  | 2 => some .lockTest
  | _ => none

/-- Code of an outcome. -/
def RoutineOutcome.code : RoutineOutcome → Nat
  | .none => 0
  | .pass => 1
  | .failSpan => 2
  | .failNoMove => 3
  | .failTimeout => 4
  | .failSlip => 5
  | .aborted => 6

/-- Code of a latch fault. -/
def LockFault.code : LockFault → Nat
  | .jammed => 1
  | .unlatched => 2
  | .slip => 3
  | .uncommanded => 4

/-- Code of a wake source. -/
def WakeSource.code : WakeSource → Nat
  | .wheel => 1
  | .key => 2
  | .input => 3
  | .link => 4

/-- Code of a calibration source. -/
def CalSource.code : CalSource → Nat
  | .user => 0
  | .factory => 1
  | .defaults => 2

/-- Value of a status code (R160). -/
def Status.code : Status → Nat
  | .ok => 0
  | .adjusted => 1
  | .busy => 2
  | .held => 3
  | .notNow => 4
  | .full => 5
  | .badArg => 6
  | .unknown => 7
  | .notReady => 8
  | .notHolder => 9

/-- Code of the operation slot's occupant, 0 when it is free. -/
def Slot.code : Slot → Nat
  | .free => 0
  | .routine r => match r.axis with
    | .tilt => 1
    | .steer => 2
  | .service .tilt _ => 3
  | .service .steer _ => 4
  | .storeProgramming _ => 5

/-! ## Event records -/

/-- The code byte of an event. -/
def Event.code : Event → Nat
  | .inputChange _ _ => 0x01
  | .combiner _ _ => 0x02
  | .wheelOdd _ _ => 0x10
  | .speedSuspect _ => 0x11
  | .travelSource _ => 0x12
  | .pathDone _ => 0x20
  | .pathDry _ => 0x21
  | .holdBegin _ => 0x30
  | .holdEnd _ => 0x31
  | .routineEnd _ _ _ => 0x40
  | .routineSuspend _ => 0x41
  | .routineResume _ => 0x42
  | .lockState _ => 0x50
  | .lockFault _ => 0x51
  | .lockLate _ => 0x52
  | .trip _ => 0x60
  | .tripClear => 0x61
  | .startFull _ => 0x70
  | .startSoft => 0x70
  | .wake _ => 0x71
  | .portOverrun _ => 0x72
  | .storeDone _ => 0x73

/-- ASSERT is 1, CLEAR is 2. -/
def assertCode (on : Bool) : Nat := if on then 1 else 2

/-- The state byte of an event: 0 for a point event. -/
def Event.stateCode : Event → Nat
  | .inputChange _ on => assertCode on
  | .combiner _ on => assertCode on
  | .wheelOdd _ on => assertCode on
  | .speedSuspect on => assertCode on
  | _ => 0

/-- The argument byte of an event. -/
def Event.arg : Event → Byte
  | .inputChange i _ => byteOf (inputCode i)
  | .combiner c _ => byteOf c.code
  | .wheelOdd w _ => byteOf (wheelCode w)
  | .speedSuspect _ => 0
  | .travelSource .rear => 0
  | .travelSource .frontL => 1
  | .pathDone tag => tag
  | .pathDry flushed => if flushed then 2 else 1
  | .holdBegin p => byteOf (portCode p)
  | .holdEnd r => byteOf r.code
  | .routineEnd x k o => byteOf (128 * axisCode x + 16 * k.code + o.code)
  | .routineSuspend x => byteOf (axisCode x)
  | .routineResume x => byteOf (axisCode x)
  | .lockState l => byteOf l.code
  | .lockFault f => byteOf f.code
  | .lockLate l => byteOf l.code
  | .trip t => byteOf t.code
  | .tripClear => 0
  | .startFull c => byteOf c.code
  | .startSoft => 128
  | .wake w => byteOf w.code
  | .portOverrun p => byteOf (portCode p)
  | .storeDone pass => if pass then 1 else 2

/-- The five bytes of a record. -/
def EventRec.bytes (r : EventRec) : List Byte :=
  [byteOf r.event.code, byteOf r.event.stateCode, r.event.arg] ++ le16 r.stamp.toNat

/-- The category of an event as its bit in a category mask (08; 09, "Result record and configuration items"). -/
def Event.category : Event → Nat
  | .inputChange _ _ => 0
  | .combiner _ _ => 0
  | .wheelOdd _ _ => 1
  | .speedSuspect _ => 1
  | .travelSource _ => 1
  | .pathDone _ => 2
  | .pathDry _ => 2
  | .holdBegin _ => 3
  | .holdEnd _ => 3
  | .routineEnd _ _ _ => 4
  | .routineSuspend _ => 4
  | .routineResume _ => 4
  | .lockState _ => 5
  | .lockFault _ => 5
  | .lockLate _ => 5
  | .trip _ => 6
  | .tripClear => 6
  | .startFull _ => 7
  | .startSoft => 7
  | .wake _ => 7
  | .portOverrun _ => 7
  | .storeDone _ => 7

/-! ## Result records -/

/-- The presence bits of a result record. -/
def ResultRec.presence (r : ResultRec) : Nat :=
  (if r.v1.isSome then 1 else 0) + (if r.v2.isSome then 2 else 0) + (if r.v3.isSome then 4 else 0)

/-- The nine bytes of a READ_RESULT reply; kind 3 is no kind, an absent value reads 0. -/
def ResultRec.bytes (r : ResultRec) : List Byte :=
  [byteOf ((r.kind.map RoutineKind.code).getD 3), byteOf r.outcome.code, byteOf r.presence] ++
    le16 (r.v1.getD 0) ++ le16 (r.v2.getD 0) ++ le16 (r.v3.getD 0)

/-! ## Frames (R154, R155) -/

/-- One bit of the CRC-8: shift left, and fold in the polynomial 0x07 when a one fell out (R155). -/
def crcBit (c : Byte) : Byte := if c.getLsbD 7 then (c <<< 1) ^^^ 0x07#8 else c <<< 1

/-- One byte of the CRC-8, most significant bit first. -/
def crcByte (c b : Byte) : Byte :=
  crcBit (crcBit (crcBit (crcBit (crcBit (crcBit (crcBit (crcBit (c ^^^ b))))))))

/-- The CRC-8 of bytes 1 to 1 + N of a frame (R155). -/
def crc8 (bs : List Byte) : Byte := bs.foldl crcByte 0

/-- The bytes of a reply frame (09, "Frames"; R155, R159). The reply to an unknown kind of 0x80 or above, to which 0x80 cannot
be added in a byte, carries the sum modulo 256 (notes/assumptions/36.md). -/
def replyFrame (kind ref : Byte) (a : Answer) : List Byte :=
  let covered := byteOf (3 + a.payload.length) :: (kind + 0x80#8) :: ref :: byteOf a.status.code :: a.payload
  0x5A#8 :: (covered ++ [crc8 covered])

end Sys2Proof.Machine
end

