-- ==== Sys2Proof/Machine/Flags.lean ====
section
/-! DEFINITION. Every truth and code that the manual derives from the state: the conditions, the grade, the demand source
and demand curvature, the lock demands, the flag bytes and the status record. -/

namespace Sys2Proof.Machine

/-! ## Places with an index -/

/-- The record of a wheel. -/
def SpeedUnit.wheel (u : SpeedUnit) : Wheel → WheelRec
  | .rear => u.rear
  | .frontL => u.frontL
  | .frontR => u.frontR

/-- The controller of an axis. -/
def State.axis (s : State) : Axis → AxisCtl
  | .tilt => s.tilt
  | .steer => s.steer

/-- A link port. -/
def State.port (s : State) : Port → PortRec
  | .a => s.portA
  | .b => s.portB

/-- The setpoint the solve keeps for an axis. -/
def State.setpoint (s : State) : Axis → Int
  | .tilt => s.solve.phiS
  | .steer => s.solve.deltaS

/-- A port's demand item (R124). -/
def LatchUnit.item (l : LatchUnit) : Port → DemandItem
  | .a => l.itemA
  | .b => l.itemB

/-- The other port (00_scope.md, "Names and typography"). -/
def otherPort : Port → Port
  | .a => .b
  | .b => .a

/-- A debounced switch input. -/
def InputUnit.switch (u : InputUnit) : Input → SwitchRec
  | .stand => u.stand
  | .seat => u.seat
  | .brake => u.brake
  | .parkbtn => u.parkbtn
  | .lift => u.lift
  | .key => u.key

/-- What a combiner keeps. -/
def InputUnit.combiner (u : InputUnit) : CombinerId → CombinerRec
  | .c0 => u.c0
  | .c1 => u.c1
  | .c2 => u.c2

/-- What a trip unit keeps. -/
def InputUnit.tripUnit (u : InputUnit) : TripUnit → TripUnitRec
  | .t1 => u.t1
  | .t2 => u.t2

/-! ## Speed (R11, R16) -/

/-- The credit that a return to GOOD at this very timebase count has passed while no hold stood, in cm (R16). -/
def SpeedUnit.passedAt (u : SpeedUnit) (now : Nat) : Nat :=
  match u.passed with
  | none => 0
  | some x => if x.at_ = now then x.cm else 0

/-- STILL: the estimate is GOOD and the median is 0. -/
def State.still (s : State) : Bool := s.speed.estimate = .good && s.speed.median = 0

/-- SLOW: the estimate is GOOD and v is below V_ENG. -/
def State.slow (s : State) : Bool := s.speed.estimate = .good && decide ((s.speed.v : Int) < s.params.vEng)

/-- SUSPECT: the estimate is SUSPECT. -/
def State.suspect (s : State) : Bool := s.speed.estimate = .suspect

/-- The estimate is GOOD and v is at least V_REL (R116, R121). -/
def State.fast (s : State) : Bool := s.speed.estimate = .good && decide (s.params.vRel ≤ (s.speed.v : Int))

/-- Every wheel speed is 0 (R97, R105). -/
def State.wheelsStopped (s : State) : Bool :=
  s.speed.rear.speed = 0 && s.speed.frontL.speed = 0 && s.speed.frontR.speed = 0

/-! ## Hold, demand source and demand curvature (R82, R83, R47) -/

/-- Is this port the holder? -/
def State.holds (s : State) (p : Port) : Bool := s.auth.hold.any (fun h => h.port = p)

/-- Does a hold stand that this port does not have? -/
def State.heldByOther (s : State) (p : Port) : Bool := s.auth.hold.any (fun h => h.port ≠ p)

/-- The demand source (R83). -/
def State.source (s : State) : DemandSource :=
  match s.auth.hold, s.path.queue with
  | none, _ => .rider
  | some _, [] => .dry
  | some _, _ :: _ => .path

/-- The path curvature in a segment at consumed distance `pos` (R47). -/
def Segment.curvatureAt (g : Segment) (pos : Nat) : Int := g.k0 + truncDiv ((g.k1 - g.k0) * pos) g.length

/-- k_path of the current segment; 0 stands for its absence while the queue is empty (R47). -/
def PathUnit.kPath (u : PathUnit) : Int :=
  match u.queue with
  | [] => 0
  | g :: _ => g.curvatureAt u.pos

/-- The demand curvature handed to the solve (R83). -/
def State.demand (s : State) : Int :=
  match s.source with
  | .rider => s.auth.riderDemand
  | .path => s.path.kPath
  | .dry => s.path.held.getD 0

/-- The camber trim for the solve: the current segment's while the source is PATH, else 0 (R27). -/
def State.camber (s : State) : Int :=
  match s.source, s.path.queue with
  | .path, g :: _ => g.trim.getD 0
  | _, _ => 0

/-- The queue and the staging area are empty, and no batch is open (R58, R97). -/
def PathUnit.isEmpty (u : PathUnit) : Bool := u.queue.isEmpty && u.staging.isEmpty && !u.batchOpen

/-! ## Trips and grade (R142) -/

/-- The SAFE grade of a trip set. -/
def gradeOf (trips : List Trip) : Grade :=
  if trips.isEmpty then .none
  else if trips.any (fun t => t.severity = .lockdown) then .lockdown else .degrade

/-- The SAFE grade. -/
def State.grade (s : State) : Grade := gradeOf s.inputs.trips

/-! ## Conditions (07, "Conditions") -/

/-- LEAN_HIGH: |φ_m| is above LEAN_LIMIT + 200. -/
def State.leanHigh (s : State) : Bool := decide (s.params.leanLimit + 200 < mag s.tilt.meas)

/-- A condition as the block that owns it has it now; the combiner conditions are the combiners' outputs. -/
def State.condNow (s : State) : Cond → Bool
  | .stand => s.inputs.stand.active
  | .seat => s.inputs.seat.active
  | .brake => s.inputs.brake.active
  | .parkbtn => s.inputs.parkbtn.active
  | .lift => s.inputs.lift.active
  | .key => s.inputs.key.active
  | .still => s.still
  | .slow => s.slow
  | .suspect => s.suspect
  | .locked => s.latch.state = .engaged
  | .holdStands => s.auth.hold.isSome
  | .leanHigh => s.leanHigh
  | .c0 => s.inputs.c0.output
  | .c1 => s.inputs.c1.output
  | .c2 => s.inputs.c2.output
  | .true_ => true

/-- A condition as the input unit's list has it: as last handed on (R133). -/
def InputUnit.cond (u : InputUnit) : Cond → Bool
  | .stand => u.conds.stand
  | .seat => u.conds.seat
  | .brake => u.conds.brake
  | .parkbtn => u.conds.parkbtn
  | .lift => u.conds.lift
  | .key => u.conds.key
  | .still => u.conds.still
  | .slow => u.conds.slow
  | .suspect => u.conds.suspect
  | .locked => u.conds.locked
  | .holdStands => u.conds.holdStands
  | .leanHigh => u.conds.leanHigh
  | .c0 => u.c0.output
  | .c1 => u.c1.output
  | .c2 => u.c2.output
  | .true_ => true

/-- The list with one condition's value replaced; the combiner conditions and TRUE have no place in it. -/
def CondList.put (l : CondList) (c : Cond) (b : Bool) : CondList :=
  match c with
  | .stand => { l with stand := b }
  | .seat => { l with seat := b }
  | .brake => { l with brake := b }
  | .parkbtn => { l with parkbtn := b }
  | .lift => { l with lift := b }
  | .key => { l with key := b }
  | .still => { l with still := b }
  | .slow => { l with slow := b }
  | .suspect => { l with suspect := b }
  | .locked => { l with locked := b }
  | .holdStands => { l with holdStands := b }
  | .leanHigh => { l with leanHigh := b }
  | .c0 => l
  | .c1 => l
  | .c2 => l
  | .true_ => l

/-- The conditions that blocks hand on, in the order in which changes that come together are taken
(notes/assumptions/8.md). -/
def Cond.handedOn : List Cond :=
  [.stand, .seat, .brake, .parkbtn, .lift, .key, .still, .slow, .suspect, .locked, .holdStands, .leanHigh]

/-- A condition as its owner has last announced it: the latest change waiting, or the list's value (R133). -/
def InputUnit.announced (u : InputUnit) (c : Cond) : Bool :=
  (((u.changes.filter (fun x => x.1 = c)).getLast?).map (fun x => x.2)).getD (u.cond c)

/-- The changes that wait to be taken: those announced before, then the conditions that differ now from what their owners last
announced (R133). -/
def State.waitingChanges (s : State) : List (Cond × Bool) :=
  s.inputs.changes ++ (Cond.handedOn.filter (fun c => s.condNow c != s.inputs.announced c)).map (fun c => (c, s.condNow c))

/-- A selection read with its inversion. -/
def InputUnit.select (u : InputUnit) (x : Selection) : Bool := u.cond x.cond != x.inverted

/-- A combiner's function on its three values; `stored` is the LATCH state after R135 (R134). -/
def CombinerFn.apply (fn : CombinerFn) (stored a b c : Bool) : Bool :=
  match fn with
  | .never => false
  | .all => a && b && c
  | .any => a || b || c
  | .odd => (a != b) != c
  | .majority => (a && b) || (a && c) || (b && c)
  | .aOnly => a
  | .latch => stored

/-- The stored state after an evaluation (R135): clearing wins; other functions have none to update. -/
def CombinerFn.nextStored (fn : CombinerFn) (stored a b : Bool) : Bool :=
  match fn with
  | .latch => if b then false else if a then true else stored
  | _ => stored

/-- A combiner's stored state and output after an evaluation (R134, R135). -/
def InputUnit.evaluate (u : InputUnit) (cfg : CombinerCfg) (r : CombinerRec) : CombinerRec :=
  let a := u.select cfg.a
  let b := u.select cfg.b
  let c := u.select cfg.c
  let stored := cfg.fn.nextStored r.stored a b
  { stored := stored, output := (cfg.fn.apply stored a b c) != cfg.inverted }

/-- Are all selections of a trip unit true? T1 takes the AND of three, T2 of two (R139). -/
def InputUnit.tripSelected (u : InputUnit) (x : TripUnit) (cfg : TripCfg) : Bool :=
  match x with
  | .t1 => u.select cfg.a && u.select cfg.b && u.select cfg.c
  | .t2 => u.select cfg.a && u.select cfg.b

/-- Is the cause of a trip present (R144)? -/
def State.causePresent (s : State) : TripId → Bool
  | .trackTilt => decide (s.params.trackErrTilt < mag (s.solve.phiS - s.tilt.meas))
  | .trackSteer => decide (s.params.trackErrSteer < mag (s.solve.deltaS - s.steer.meas))
  | .sensorTilt => !s.tilt.valid
  | .sensorSteer => !s.steer.valid
  | .handlebar => !s.auth.valid
  | .speed => s.suspect
  | .trip1 => s.params.t1.enabled && s.inputs.tripSelected .t1 s.params.t1
  | .trip2 => s.params.t2.enabled && s.inputs.tripSelected .t2 s.params.t2

/-! ## Lock demands (R124, R125, R137) -/

/-- The combined combiner demand: at least one LOCK_HOLD combiner has its output true. -/
def State.combined (s : State) : Bool :=
  (s.params.c0.action = .lockHold && s.inputs.c0.output) ||
  (s.params.c1.action = .lockHold && s.inputs.c1.output) ||
  (s.params.c2.action = .lockHold && s.inputs.c2.output)

/-- Is a lock demand active (R125)? A standing PERMIT sets the combined demand aside only in the two effects R124 names,
which do not ask this (notes/assumptions/12.md). -/
def State.lockDemand (s : State) : Bool :=
  s.latch.itemA = .lock || s.latch.itemB = .lock || s.combined

/-- Does a release permit stand (R124)? -/
def State.permit (s : State) : Bool := s.latch.itemA = .permit || s.latch.itemB = .permit

/-! ## Axes, slot and latch -/

/-- Is the tilt drive on in TRACK (R91)? -/
def LatchUnit.tiltDriveOn (l : LatchUnit) : Bool := l.state ≠ .engaged && l.state ≠ .jammed

/-- Is the drive of an axis on while it is in TRACK (R91)? -/
def State.driveOn (s : State) : Axis → Bool
  | .tilt => s.latch.tiltDriveOn
  | .steer => true

/-- Is a tilt routine or tilt service session under way (R123)? -/
def Slot.onTilt : Slot → Bool
  | .routine r => r.axis = .tilt
  | .service x _ => x = .tilt
  | .free => false
  | .storeProgramming _ => false

/-- Is either axis in ROUTINE or SERVICE (R59)? -/
def State.axisBusy (s : State) : Bool :=
  s.tilt.mode = .routine || s.tilt.mode = .service || s.steer.mode = .routine || s.steer.mode = .service

/-- Are the engage conditions of R119 on uprightness met? -/
def State.uprightNow (s : State) : Bool :=
  decide (mag s.tilt.meas ≤ s.params.uprightWindow) && decide (mag s.solve.phiS ≤ s.params.uprightWindow)

/-- Does the latch controller decide by its own rules (R116, R119, R123, R127, R130)? -/
def State.ownRules (s : State) : Bool :=
  s.latch.run = .run && s.latch.first.isNone && s.latch.set.isNone && !s.slot.onTilt

/-! ## The status record (R162; 09, "The status record") -/

/-- Four bits for the n-th trip of the set, 0 past its end. -/
def tripPlace (trips : List Trip) (n : Nat) : Nat :=
  match trips[n]? with
  | none => 0
  | some t => t.id.code

/-- A flag as a number at a bit. -/
def bit (b : Bool) (n : Nat) : Nat := if b then 2 ^ n else 0

/-- Code of the holder: 0 NONE, 1 A, 2 B. -/
def State.holderCode (s : State) : Nat :=
  match s.auth.hold with
  | none => 0
  | some h => portCode h.port

/-- The solve flags and the demands: byte 29. -/
def State.flagByte (s : State) : Nat :=
  bit s.solve.curvLimited 0 + bit s.solve.leanLimited 1 + bit s.solve.upright 2 + 8 * s.latch.itemA.code +
    32 * s.latch.itemB.code + bit s.combined 7

/-- Byte 8: holder, source, batch open, STILL, speed state. -/
def State.authorityByte (s : State) : Nat :=
  s.holderCode + 4 * s.source.code + bit s.path.batchOpen 4 + bit s.still 5 + bit s.suspect 6

/-- The 32 bytes of the status record. -/
def State.statusRecord (s : State) : List Byte :=
  [byteOf 3,
    byteOf ((if s.latch.run = .parked then 1 else 0) + 2 * s.store.source.code),
    byteOf (s.tilt.mode.code + 4 * s.steer.mode.code + 16 * s.grade.code),
    byteOf s.latch.state.code,
    byteOf (tripPlace s.inputs.trips 0 + 16 * tripPlace s.inputs.trips 1),
    byteOf (tripPlace s.inputs.trips 2 + 16 * tripPlace s.inputs.trips 3),
    byteOf (tripPlace s.inputs.trips 4 + 16 * tripPlace s.inputs.trips 5),
    byteOf (tripPlace s.inputs.trips 6 + 16 * tripPlace s.inputs.trips 7),
    byteOf s.authorityByte,
    byteOf s.path.queue.length,
    byteOf s.path.staging.length] ++
  le16 s.speed.v ++ le16 s.tilt.meas ++ le16 s.solve.phiS ++ le16 s.solve.phiT ++ le16 s.steer.meas ++
  le16 s.solve.deltaS ++ le16 s.solve.deltaT ++ le16 s.solve.kc ++ le16 s.solve.a ++
  [byteOf s.flagByte, byteOf s.slot.code,
    byteOf (s.log.records.length + bit s.log.overflow 7)]

end Sys2Proof.Machine
end

