-- ==== Sys2Proof/Machine/Ops.lean ====
section
/-! DEFINITION. The named operations that blocks share: the clock, the log, the state of the latch, the ends of sessions
and of the hold. Trips, combiners and the condition list stand in Machine/CondOps.lean. -/

namespace Sys2Proof.Machine

/-! ## One update for each part of the state -/

/-- The state with `pending` replaced. -/
def State.setPending (s : State) (x : List Instr) : State := { s with pending := x }

/-- The state with `now` replaced. -/
def State.setNow (s : State) (x : Nat) : State := { s with now := x }

/-- The state with `pins` replaced. -/
def State.setPins (s : State) (x : Pins) : State := { s with pins := x }

/-- The state with `speed` replaced. -/
def State.setSpeed (s : State) (x : SpeedUnit) : State := { s with speed := x }

/-- The state with `solve` replaced. -/
def State.setSolve (s : State) (x : SolveUnit) : State := { s with solve := x }

/-- The state with `path` replaced. -/
def State.setPath (s : State) (x : PathUnit) : State := { s with path := x }

/-- The state with `auth` replaced. -/
def State.setAuth (s : State) (x : AuthorityUnit) : State := { s with auth := x }

/-- The state with `tilt` replaced. -/
def State.setTilt (s : State) (x : AxisCtl) : State := { s with tilt := x }

/-- The state with `steer` replaced. -/
def State.setSteer (s : State) (x : AxisCtl) : State := { s with steer := x }

/-- The state with `slot` replaced. -/
def State.setSlot (s : State) (x : Slot) : State := { s with slot := x }

/-- The state with `latch` replaced. -/
def State.setLatchUnit (s : State) (x : LatchUnit) : State := { s with latch := x }

/-- The state with `inputs` replaced. -/
def State.setInputs (s : State) (x : InputUnit) : State := { s with inputs := x }

/-- The state with `log` replaced. -/
def State.setLog (s : State) (x : EventLog) : State := { s with log := x }

/-- The state with `portA` replaced. -/
def State.setPortA (s : State) (x : PortRec) : State := { s with portA := x }

/-- The state with `portB` replaced. -/
def State.setPortB (s : State) (x : PortRec) : State := { s with portB := x }

/-- The state with `params` replaced. -/
def State.setParams (s : State) (x : Params) : State := { s with params := x }

/-- The state with `store` replaced. -/
def State.setStore (s : State) (x : CalStore) : State := { s with store := x }

/-- The clock moved on by `dt` microseconds (notes/assumptions/1.md). -/
def State.advance (dt : Nat) (s : State) : State := s.setNow (s.now + dt)

/-- An axis controller replaced. -/
def State.setAxis (s : State) (x : Axis) (a : AxisCtl) : State :=
  match x with
  | .tilt => s.setTilt a
  | .steer => s.setSteer a

/-- A port replaced. -/
def State.setPort (s : State) (p : Port) (r : PortRec) : State :=
  match p with
  | .a => s.setPortA r
  | .b => s.setPortB r

/-- The drive of an axis set. -/
def State.setDrive (s : State) (x : Axis) (d : Int) : State := s.setAxis x { s.axis x with drive := d }

/-- A port's demand item set. A set begun under its PERMIT is under it no longer once that has ended (R124). -/
def LatchUnit.setItem (l : LatchUnit) (p : Port) (i : DemandItem) : LatchUnit :=
  let l := { l with permitOf := if i ≠ DemandItem.permit ∧ l.permitOf = some p then none else l.permitOf }
  match p with
  | .a => { l with itemA := i }
  | .b => { l with itemB := i }

/-- A combiner's record set. -/
def InputUnit.setCombiner (u : InputUnit) (i : CombinerId) (r : CombinerRec) : InputUnit :=
  match i with
  | .c0 => { u with c0 := r }
  | .c1 => { u with c1 := r }
  | .c2 => { u with c2 := r }

/-- A trip unit's record set. -/
def InputUnit.setTripUnit (u : InputUnit) (x : TripUnit) (r : TripUnitRec) : InputUnit :=
  match x with
  | .t1 => { u with t1 := r }
  | .t2 => { u with t2 := r }

/-- A switch input's record set. -/
def InputUnit.setSwitch (u : InputUnit) (i : Input) (r : SwitchRec) : InputUnit :=
  match i with
  | .stand => { u with stand := r }
  | .seat => { u with seat := r }
  | .brake => { u with brake := r }
  | .parkbtn => { u with parkbtn := r }
  | .lift => { u with lift := r }
  | .key => { u with key := r }

/-- A wheel's record set. -/
def SpeedUnit.setWheel (u : SpeedUnit) (w : Wheel) (r : WheelRec) : SpeedUnit :=
  match w with
  | .rear => { u with rear := r }
  | .frontL => { u with frontL := r }
  | .frontR => { u with frontR := r }

/-! ## The log and the attention lines (R146, R147, R150) -/

/-- Does the log hold a record of a category in the mask (R150)? -/
def EventLog.wants (l : EventLog) (mask : Byte) : Bool :=
  l.records.any (fun r => mask.getLsbD r.event.category)

/-- A line at an append that added a record: it can only be asserted, and not during a re-arm gap (R150, R151). -/
def AttnLine.onAppend (x : AttnLine) (want : Bool) : AttnLine :=
  if want && x.gapEnd.isNone then { x with asserted := true } else x

/-- A line at a write of its mask (R150, R151). -/
def AttnLine.onMask (x : AttnLine) (want : Bool) : AttnLine :=
  if want then x.onAppend true else { x with asserted := false }

/-- A line at a read that removed records: released, with a gap when its condition still holds (R151). -/
def AttnLine.onRead (x : AttnLine) (want : Bool) (now : Nat) : AttnLine :=
  if want then { asserted := false, gapEnd := some (now + 50) } else { x with asserted := false }

/-- The log after an append (R147): a full log discards the record and sets OVERFLOW. -/
def EventLog.append (l : EventLog) (r : EventRec) (maskA maskB : Byte) : EventLog :=
  if l.records.length < 16 then
    let l' := { l with records := l.records ++ [r] }
    { l' with attnA := l.attnA.onAppend (l'.wants maskA), attnB := l.attnB.onAppend (l'.wants maskB) }
  else { l with overflow := true }

/-- The millisecond count modulo 65536 (R146). -/
def stampOf (now : Nat) : Stamp := BitVec.ofNat 16 (now / 1000)

/-- An event is handed to the log (R146). -/
def State.logEvent (e : Event) (s : State) : State :=
  s.setLog (s.log.append { event := e, stamp := stampOf s.now } s.params.attnMaskA s.params.attnMaskB)

/-- The lines at a change of the masks. -/
def State.evaluateLines (s : State) : State :=
  s.setLog { s.log with attnA := s.log.attnA.onMask (s.log.wants s.params.attnMaskA),
                        attnB := s.log.attnB.onMask (s.log.wants s.params.attnMaskB) }

/-! ## Seeding (R33, R35, R36) -/

/-- The setpoint of an axis set to its measurement (R35). -/
def State.seedSetpoint (x : Axis) (s : State) : State :=
  match x with
  | .tilt => s.setSolve { s.solve with phiS := s.tilt.meas }
  | .steer => s.setSolve { s.solve with deltaS := s.steer.meas }

/-- The solve captures φ_m and sets φ_s to it (R33). -/
def State.captureLean (s : State) : State :=
  s.setSolve { s.solve with captured := s.tilt.meas, phiS := s.tilt.meas }

/-- The seeding that a FULL reset, a SOFT_RESTART and waking share (R36). -/
def State.seedAll (s : State) : State :=
  s.setSolve { s.solve with phiS := s.tilt.meas, deltaS := s.steer.meas, captured := s.tilt.meas }

/-- What a FULL reset and waking add to it (R36, R18): targets and flags cleared, the period timing restarted. -/
def State.clearSolve (s : State) : State :=
  s.setSolve { s.solve with phiT := 0, deltaT := 0, kc := 0, a := 0, curvLimited := false, leanLimited := false,
                            upright := false, periodDue := s.now + 2000 }

/-- The changes of conditions that wait to be taken replaced. -/
def State.setChanges (s : State) (x : List (Cond × Bool)) : State := s.setInputs { s.inputs with changes := x }

/-- The owners announce the conditions that have changed; each change waits for its turn, and stands even where a later one
undoes it (R133). -/
def State.announce (s : State) : State := s.setChanges s.waitingChanges

/-! ## The latch state (R112, R33, R91, R92) -/

/-- Does entering `new` from `old` capture a lean (R33)? -/
def capturesLean (old new : LatchState) : Bool :=
  new = .releasePreload || (new = .releasing && old ≠ .releasePreload)

/-- The tilt drive goes off, in TRACK, with the latch's entry to ENGAGED or JAMMED (R91, R92). -/
def AxisCtl.latchClosed (a : AxisCtl) (new : LatchState) : AxisCtl :=
  if a.mode = .track && (new = .engaged || new = .jammed) then
    { a with drive := 0, trackSince := none, trackFired := false }
  else a

/-- The latch takes a state, which is handed to the solve and to the tilt axis (R112, R33, R91). The condition LOCKED is announced
by `State.announce`. -/
def State.takeLatch (new : LatchState) (s : State) : State :=
  let old := s.latch.state
  let s := s.setLatchUnit { s.latch with state := new, uncommanded := false }
  let s := if capturesLean old new then s.captureLean else s
  s.setTilt (s.tilt.latchClosed new)

/-- A change of the latch state other than the setting of the first: LOCK_STATE, then what takes it (R112). -/
def State.setLatch (new : LatchState) (s : State) : State := (s.logEvent (.lockState new)).takeLatch new

/-- A port's PERMIT ends (R124). -/
def State.endPermit (p : Port) (s : State) : State :=
  if s.latch.item p = .permit then s.setLatchUnit (s.latch.setItem p .none) else s

/-! ## Ends of sessions (R95, R103, R111) -/

/-- An axis takes OFF (R95). -/
def AxisCtl.toOff (a : AxisCtl) : AxisCtl :=
  { a with mode := .off, returnMode := none, drive := 0, trackSince := none, trackFired := false }

/-- Both axes take OFF. -/
def State.axesOff (s : State) : State := (s.setTilt s.tilt.toOff).setSteer s.steer.toOff

/-- The mode an axis has after its session. -/
def returnedMode : Option ReturnMode → AxisMode
  | some .track => .track
  | some .off => .off
  | none => .off

/-- An axis leaves ROUTINE or SERVICE: its return mode, and its setpoint seeded (R95, R35). -/
def State.leaveSession (x : Axis) (s : State) : State :=
  let a := s.axis x
  (s.setAxis x { a with mode := returnedMode a.returnMode, returnMode := none, drive := 0, trackSince := none,
                        trackFired := false }).seedSetpoint x

/-- What a routine that passes writes into the working set (R100, R101). -/
def Routine.writes (r : Routine) (p : Params) : Params :=
  match r.kind, r.axis with
  | .home, .tilt => { p with tiltCentre := clampSym 1000 (p.tiltCentre + r.v3.getD 0) }
  | .home, .steer => { p with steerCentre := clampSym 1000 (p.steerCentre + r.v3.getD 0) }
  | .friction, .tilt => { p with frictionTilt := clamp 0 300 (max (r.v1.getD 0) (r.v2.getD 0)) }
  | .friction, .steer => { p with frictionSteer := clamp 0 300 (max (r.v1.getD 0) (r.v2.getD 0)) }
  | .lockTest, _ => p

/-- The result record of an axis set. -/
def State.setResult (x : Axis) (r : ResultRec) (s : State) : State := s.setAxis x { s.axis x with result := r }

/-- A routine ends with an outcome, in the order of R103. `tellLatch` is FAIL_SLIP found by the displacement test. -/
def State.finishRoutine (r : Routine) (o : RoutineOutcome) (tellLatch : Bool) (s : State) : State :=
  let s := s.setDrive r.axis 0
  let s := if o = .pass then s.setParams (r.writes s.params) else s
  let s := if tellLatch then (s.setLatch .unlatchedFault).logEvent (.lockFault .slip) else s
  let s := s.setResult r.axis { kind := some r.kind, outcome := o, v1 := r.v1, v2 := r.v2, v3 := r.v3 }
  let s := s.logEvent (.routineEnd r.axis r.kind o)
  let s := s.leaveSession r.axis
  s.setSlot .free

/-- A service session ends (R111). -/
def State.finishService (x : Axis) (s : State) : State := ((s.setDrive x 0).leaveSession x).setSlot .free

/-- The routine or service session under way is aborted or ended; store programming is not touched (R80, R107, R111). -/
def State.abortSession (s : State) : State :=
  match s.slot with
  | .routine r => s.finishRoutine r .aborted false
  | .service x _ => s.finishService x
  | .free => s
  | .storeProgramming _ => s

/-! ## The end of a hold (R80) -/

/-- The consequences of a hold end, in the order of R80; the hold's port loses its PERMIT (R124). -/
def State.endHoldCore (h : Hold) (reason : EndReason) (s : State) : State :=
  let s := s.logEvent (.holdEnd reason)
  let s := s.setPath .empty
  let s := s.abortSession
  let s := s.setSpeed { s.speed with withheld := 0 }
  let s := s.setAuth { s.auth with hold := none }
  s.endPermit h.port

/-- The hold ends, if one stands; a second end finds none and has no effect (R81). -/
def State.dropHold (reason : EndReason) (s : State) : State :=
  match s.auth.hold with
  | none => s
  | some h => s.endHoldCore h reason

end Sys2Proof.Machine
end

