-- ==== Sys2Proof/Machine/LatchOps.lean ====
section
/-! DEFINITION. Pulses, attempt sets and the latch controller's own decisions (06). -/

namespace Sys2Proof.Machine

/-! ## Pulses and attempts (R113, R114) -/

/-- The confirm level a set aims at: CLOSED for an engagement, OPEN for a release (R114). -/
def Direction.target : Direction → Bool
  | .engage => true
  | .release => false

/-- The latch state a successful set takes. -/
def Direction.reached : Direction → LatchState
  | .engage => .engaged
  | .release => .released

/-- A pulse starts: the four values are read now (R113). -/
def State.startPulse (d : Direction) (s : State) : State :=
  s.setLatchUnit { s.latch with pulse := some {
    direction := d, phase := .pullIn, phaseEnd := s.now + msOf s.params.lockPullinMs,
    pullDuty := s.params.lockPullinDuty, holdMs := s.params.lockHoldMs.toNat, holdDuty := s.params.lockHoldDuty,
    lastOfFailed := false } }

/-- The attempt set replaced. -/
def State.setSet (x : Option AttemptSet) (s : State) : State := s.setLatchUnit { s.latch with set := x }

/-- An attempt succeeds: the set ends and the latch takes its target state (R114). -/
def State.succeedSet (d : Direction) (s : State) : State := (s.setSet none).setLatch d.reached

/-- The pulse of an attempt starts and its window opens; a confirm already at the target gives success at once (R114). -/
def State.openWindow (x : AttemptSet) (s : State) : State :=
  let s := s.startPulse x.direction
  let s := s.setSet (some { x with stage := .window (s.now + msOf s.params.lockConfirmMs) })
  if s.latch.closed = x.direction.target then s.succeedSet x.direction else s

/-- An attempt starts: its pulse waits while an earlier pulse is on the coil (R113). -/
def State.startAttempt (x : AttemptSet) (s : State) : State :=
  if s.latch.pulse.isSome then s.setSet (some { x with stage := .waitCoil }) else s.openWindow x

/-- An attempt set begins with its first attempt (R114). -/
def State.beginSet (d : Direction) (origin : SetOrigin) (s : State) : State :=
  s.startAttempt { direction := d, attempt := 1, stage := .waitCoil, origin := origin }

/-- A routine whose phase waits for a set ends when that set fails, suspended or not (R98, R104). -/
def State.routineSetFailed (d : Direction) (s : State) : State :=
  match s.slot with
  | .routine r =>
    if (r.phase = .release && d = .release) || (r.phase = .engage && d = .engage) then
      s.finishRoutine r .failTimeout false
    else s
  | .free => s
  | .service _ _ => s
  | .storeProgramming _ => s

/-- The PERMIT under which a release set was begun ends when the set fails (R124). -/
def State.permitSetFailed (x : AttemptSet) (s : State) : State :=
  match s.latch.permitOf with
  | some p => if x.origin = .permit && x.direction = .release then s.endPermit p else s
  | none => s

/-- The fault state and the fault of a failed set (R114). -/
def Direction.fault : Direction → LatchState × LockFault
  | .release => (.jammed, .jammed)
  | .engage => (.unlatchedFault, .unlatched)

/-- The third attempt of a set has failed (R114); its pulse runs on. -/
def State.failSet (x : AttemptSet) (s : State) : State :=
  let s := s.setLatchUnit { s.latch with
    set := none, pulse := s.latch.pulse.map (fun p => { p with lastOfFailed := true }) }
  let s := s.setLatch x.direction.fault.1
  let s := s.logEvent (.lockFault x.direction.fault.2)
  let s := s.permitSetFailed x
  s.routineSetFailed x.direction

/-! ## Beginnings (R116, R117, R119, R124) -/

/-- The preload timer has reached PRELOAD_MS: the latch enters RELEASING and a release set begins (R117). -/
def State.endPreload (s : State) : State :=
  ((s.setLatchUnit { s.latch with preloadEnd := none }).setLatch .releasing).beginSet .release .own

/-- A release begins (R116); with PRELOAD_MS at 0 the latch passes through RELEASE_PRELOAD at once (R117). -/
def State.beginRelease (s : State) : State :=
  let s := s.setLatch .releasePreload
  if s.params.preloadMs ≤ 0 then s.endPreload
  else s.setLatchUnit { s.latch with preloadEnd := some (s.now + msOf s.params.preloadMs) }

/-- The preload is abandoned: back to ENGAGED with no pulse (R117). -/
def State.abandonPreload (s : State) : State :=
  (s.setLatchUnit { s.latch with preloadEnd := none }).setLatch .engaged

/-- A release under a permit, or of a routine: from ENGAGED straight to RELEASING (R98, R124). -/
def State.beginDirectRelease (origin : SetOrigin) (s : State) : State :=
  (s.setLatch .releasing).beginSet .release origin

/-- The port whose PERMIT stands. -/
def LatchUnit.permitPort (l : LatchUnit) : Option Port :=
  if l.itemA = .permit then some .a else if l.itemB = .permit then some .b else none

/-- A release begins under the PERMIT that stands (R124). -/
def State.beginPermitRelease (s : State) : State :=
  (s.setLatchUnit { s.latch with permitOf := s.latch.permitPort }).beginDirectRelease .permit

/-- An engagement begins (R119, R98). -/
def State.beginEngage (origin : SetOrigin) (s : State) : State := (s.setLatch .engaging).beginSet .engage origin

/-! ## Conditions of the latch controller's own rules -/

/-- The conditions under which a standing PERMIT releases an ENGAGED latch, beside the own rules acting (R124). -/
def State.permitReleases (s : State) : Bool :=
  s.permit && s.tilt.mode = .track && s.still && s.grade = .none

/-- The conditions under which the latch may be free to lean: those of R116 and of R121's way out by speed. -/
def State.mayLean (s : State) : Bool := s.fast && s.tilt.mode = .track && s.grade ≠ .lockdown && !s.lockDemand

/-- The causes that abandon a preload (R117). -/
def State.preloadOff (s : State) : Bool :=
  s.slow || s.lockDemand || s.grade = .lockdown || s.tilt.mode ≠ .track

/-- The causes that abandon a release set of the latch controller's own at the end of a pause (R117). -/
def State.releaseOff (s : State) : Bool := s.preloadOff || s.suspect

/-- The engage conditions of R119 on speed, grade, permit and uprightness. -/
def State.mayEngage (s : State) : Bool :=
  ((s.slow && !s.permit) || s.grade = .lockdown) && s.uprightNow

/-- Is a release pulse on the coil? -/
def LatchUnit.pulsing (l : LatchUnit) (d : Direction) : Bool := l.pulse.any (fun p => p.direction = d)

/-- The decision of the latch controller in the state as it stands, if there is one to make (R116, R117, R119, R120, R121,
R124). It makes none before the first debounce (R130), and begins no release of its own while the conditions of R116 stand
as an uncommanded closing found them (R122, notes/assumptions/31.md). -/
def State.decideLatch (s : State) : Option State :=
  if s.latch.first.isSome then none
  else
    match s.latch.state with
    | .engaged =>
      if s.ownRules && s.permitReleases then some s.beginPermitRelease
      else if s.ownRules && s.mayLean && !s.latch.uncommanded then some s.beginRelease
      else none
    | .releasePreload => if s.preloadOff then some s.abandonPreload else none
    | .releasing => none
    | .released => if s.ownRules && s.mayEngage then some (s.beginEngage .own) else none
    | .engaging => none
    | .jammed =>
      if s.slow && s.latch.closed && !s.latch.pulsing .release then some (s.setLatch .engaged) else none
    | .unlatchedFault => if s.ownRules && s.mayLean then some (s.setLatch .released) else none

/-- A preload that a cause of R117 abandons does not stand when a command has been taken, however long the part went on deciding
(notes/assumptions/9.md). -/
def State.restPreload (s : State) : State :=
  if s.latch.first.isNone && s.latch.state = .releasePreload && s.preloadOff then s.abandonPreload else s

/-- An uncommanded closing is weighed no longer once a condition of R116 does not hold: the conditions then change before
they all hold again (R116, R122; notes/assumptions/31.md). -/
def State.weighUncommanded (s : State) : State :=
  if s.latch.uncommanded && !(s.ownRules && s.mayLean) then s.setLatchUnit { s.latch with uncommanded := false } else s

/-- The latch controller hears of a change, one that goes back within the same command too: it weighs an uncommanded closing and
makes the decision it then has, if there is one (R112, R116). A change of LOCKED that it brings is announced at once (R133). -/
def State.hearLatch (s : State) : State :=
  let s := s.weighUncommanded
  (s.decideLatch.getD s).announce

end Sys2Proof.Machine
end

