-- ==== Sys2Proof/Machine/CondOps.lean ====
section
/-! DEFINITION. The trip set, the combiners and trip units, and the conditions handed on (07). The latch controller hears of
a grade of LOCKDOWN and of the combined combiner demand here, at the changes themselves (R137, R143). -/

namespace Sys2Proof.Machine

/-! ## Trips (R142, R143) -/

/-- The trip set with a trip at its end, and TRIP logged (R142). -/
def State.addTrip (id : TripId) (sev : Severity) (s : State) : State :=
  (s.setInputs { s.inputs with trips := s.inputs.trips ++ [{ id := id, severity := sev }] }).logEvent (.trip id)

/-- A change of the grade is handed on from `old`, in the order of R143: a new LOCKDOWN to the latch controller; then at SAFE
entry the hold and any session end, and HOLD_STANDS is announced. -/
def State.handGrade (old : Grade) (s : State) : State :=
  let s := if old ≠ .lockdown && s.grade = .lockdown then s.hearLatch else s
  if old = .none then (s.dropHold .safe).abortSession.announce else s

/-- A trip fires: added when its id is absent, and the grade handed on (R142, R143). TRIP therefore stands between HOLD_BEGIN and
HOLD_END (SAFE) when a TAKE_HOLD and SAFE entry come together with TAKE_HOLD first, where R81 has the two directly follow one
another; that the TRIP record is no break of R81's pair is the model's choice (notes/assumptions/42.md). -/
def State.fireTrip (id : TripId) (sev : Severity) (s : State) : State :=
  if s.inputs.trips.any (fun t => t.id = id) then s else (s.addTrip id sev).handGrade s.grade

/-! ## Combiners, trip units and the condition list (R133 to R140) -/

/-- A combiner is evaluated; a change of its output is logged by its action, unless `quiet` (R134, R137, R138). -/
def State.evaluateCombiner (quiet : Bool) (i : CombinerId) (s : State) : State :=
  let cfg := s.params.combiner i
  let old := s.inputs.combiner i
  let new := s.inputs.evaluate cfg old
  let s := s.setInputs (s.inputs.setCombiner i new)
  if !quiet && new.output != old.output && cfg.action ≠ .none then s.logEvent (.combiner i new.output) else s

/-- The trip id of a unit. -/
def tripIdOf : TripUnit → TripId
  | .t1 => .trip1
  | .t2 => .trip2

/-- A trip unit reads its selections (R139): its timer starts, stands or becomes absent. -/
def InputUnit.readTripUnit (u : InputUnit) (x : TripUnit) (cfg : TripCfg) (now : Nat) : TripUnitRec :=
  if cfg.enabled && u.tripSelected x cfg then
    { u.tripUnit x with since := some (((u.tripUnit x).since).getD now) }
  else { since := none, fired := false }

/-- A trip unit's trip fires and `fired` is set (R139). -/
def State.fireTripUnit (x : TripUnit) (s : State) : State :=
  let s := s.setInputs (s.inputs.setTripUnit x { s.inputs.tripUnit x with fired := true })
  s.fireTrip (tripIdOf x) (s.params.tripUnit x).severity

/-- A trip unit is evaluated; with a trip time of 0 it fires at the change (R139). -/
def State.evaluateTripUnit (x : TripUnit) (s : State) : State :=
  let cfg := s.params.tripUnit x
  let r := s.inputs.readTripUnit x cfg s.now
  let s := s.setInputs (s.inputs.setTripUnit x r)
  if r.since.isSome && !r.fired && cfg.time.ms = 0 then s.fireTripUnit x else s

/-- The combiners in the order C0, C1, C2 (R136); then the latch controller hears of the combined demand, where it is no longer
`old` (R137). At a write of a combiner `old` is the demand before the write, so that a demand which falls because the write
takes the combiner off LOCK_HOLD is heard here too (R138); that it is heard before the trip units are evaluated is the model's
choice (notes/assumptions/32.md). -/
def State.evaluateCombiners (quiet old : Bool) (s : State) : State :=
  let t := ((s.evaluateCombiner quiet .c0).evaluateCombiner quiet .c1).evaluateCombiner quiet .c2
  if t.combined != old then t.hearLatch else t

/-- The combiners, then the trip units (R136); `old` is the combined demand of before. The manual does not say which trip unit
comes first; the model takes T1 before T2 (notes/assumptions/32.md). -/
def State.evaluateInputs (quiet old : Bool) (s : State) : State :=
  ((s.evaluateCombiners quiet old).evaluateTripUnit .t1).evaluateTripUnit .t2

/-- A condition is handed on with a value, and what selects it is evaluated (R133). -/
def State.takeCond (c : Cond) (b : Bool) (s : State) : State :=
  (s.setInputs { s.inputs with conds := s.inputs.conds.put c b }).evaluateInputs false s.combined

/-- At most `n` changes of conditions are handed on, one after the other, in the order in which they were announced (R133). -/
def State.handOnN : Nat → State → State
  | 0, s => s
  | n + 1, s =>
    match s.waitingChanges with
    | [] => s
    | x :: rest => ((s.setChanges rest).takeCond x.1 x.2).handOnN n

/-- Every change of a condition is handed on. Taking one can bring others, of LOCKED and HOLD_STANDS; thirty-two is where the
model stops a configuration that never comes to rest (notes/assumptions/9.md). -/
def State.handOn (s : State) : State := s.handOnN 32

/-- The hold ends, and the condition HOLD_STANDS is handed on (R80, R133). -/
def State.endHold (reason : EndReason) (s : State) : State :=
  if s.auth.hold.isSome then (s.dropHold reason).handOn else s

end Sys2Proof.Machine
end

