-- ==== Sys2Proof/Machine/RoutineOps.lean ====
section
/-! DEFINITION. The position loop and the phases of routines (05). -/

namespace Sys2Proof.Machine

/-! ## The position loop (R90) -/

/-- The friction part: FRICTION toward the setpoint outside ±20 cd. -/
def frictionPart (friction e : Int) : Int := if 20 < e then friction else if e < -20 then -friction else 0

/-- The drive of the position loop for an error (R90). -/
def loopDrive (p : Params) (x : Axis) (e : Int) : Int :=
  clampSym p.driveMax (truncDiv (p.kp x * e) 64 + frictionPart (p.friction x) e)

/-- The drive of a sweep or push: 300 per mille, clamped to DRIVE_MAX (R99, R102). The manual does not say when DRIVE_MAX is read
for it; the model reads it at the phase's start and again at every sample (notes/assumptions/45.md). -/
def fixedDrive (p : Params) : Int := clampSym p.driveMax 300

/-! ## Phases (05, "Routines"; R98 to R102) -/

/-- Does this kind of routine exist for this axis (R97)? -/
def kindExists (x : Axis) (k : RoutineKind) : Bool :=
  match x, k with
  | .steer, .lockTest => false
  | _, _ => true

/-- The first phase of a routine. -/
def firstPhase (x : Axis) (k : RoutineKind) : Phase :=
  match x, k with
  | .tilt, .home => .release
  | .tilt, .friction => .release
  | .steer, .home => .sweepLeft
  | .steer, .friction => .rampLeft
  | _, .lockTest => .pushLeft

/-- The phase after a phase, if there is one. -/
def nextPhase (x : Axis) (k : RoutineKind) (ph : Phase) : Option Phase :=
  match ph with
  | .release => if k = .home then some .sweepLeft else some .rampLeft
  | .sweepLeft => some .sweepRight
  | .sweepRight => some .centre
  | .centre => if x = .tilt then some .engage else none
  | .engage => none
  | .rampLeft => some .rampRight
  | .rampRight => if x = .tilt then some .engage else none
  | .pushLeft => some .pushRight
  | .pushRight => none

/-- Does this phase wait for the latch to reach a state, and which (R98)? -/
def Phase.awaits : Phase → Option LatchState
  | .release => some .released
  | .engage => some .engaged
  | _ => none

/-- What every phase starts with: its own clock and reference, and no partial findings (R105). -/
def Routine.fresh (r : Routine) (ph : Phase) (now : Nat) (m : Int) : Routine :=
  { r with phase := ph, held := none, phaseStart := now, reference := m, stopSince := now, rampSince := none,
           rampDrive := 0, maxDisp := 0 }

/-- A RELEASE or ENGAGE phase asks for its attempt set, unless the latch is already there or a set still runs (R98). Before the
first confirm debounce it asks nothing yet, and asks when that is over (R130, notes/assumptions/33.md). -/
def State.askSet (d : Direction) (s : State) : State :=
  if s.latch.state = d.reached || s.latch.set.isSome || s.latch.first.isSome then s
  else match d with
    | .release => s.beginDirectRelease .routine
    | .engage => s.beginEngage .routine

/-- A phase begins, or begins again (R98 to R102, R105). A sweep or push reads DRIVE_MAX here and at every sample
(notes/assumptions/45.md). -/
def State.beginPhase (r : Routine) (ph : Phase) (s : State) : State :=
  let m := (s.axis r.axis).meas
  let r := r.fresh ph s.now m
  match ph with
  | .release => (s.setSlot (.routine { r with target := m })).askSet .release
  | .engage => (s.setSlot (.routine r)).askSet .engage
  | .sweepLeft => (s.setSlot (.routine r)).setDrive r.axis (fixedDrive s.params)
  | .sweepRight => (s.setSlot (.routine r)).setDrive r.axis (-(fixedDrive s.params))
  | .centre => s.setSlot (.routine { r with target := r.v3.getD 0 })
  | .rampLeft => s.setSlot (.routine { r with firstRamp := some (r.firstRamp.getD m), target := r.firstRamp.getD m })
  | .rampRight => s.setSlot (.routine { r with firstRamp := some (r.firstRamp.getD m), target := r.firstRamp.getD m })
  | .pushLeft => (s.setSlot (.routine r)).setDrive r.axis (fixedDrive s.params)
  | .pushRight => (s.setSlot (.routine r)).setDrive r.axis (-(fixedDrive s.params))

/-- The outcome of a routine whose last phase completes: PASS unless the span has decided otherwise (R100 to R102). -/
def Routine.finalOutcome (r : Routine) : RoutineOutcome := if r.outcome = .none then .pass else r.outcome

/-- A phase completes: the next begins, or the routine ends (R98 to R103). An ENGAGE phase that begins here has asked for its set
by the time a suspension that comes together with the completion is taken (R106; notes/assumptions/40.md). -/
def State.completePhase (r : Routine) (s : State) : State :=
  match nextPhase r.axis r.kind r.phase with
  | some ph => s.beginPhase r ph
  | none => s.finishRoutine r r.finalOutcome false

/-- The set that a routine's phase asked for before the first confirm debounce, asked for again when that is over: not while
the routine is suspended (R98, R130). -/
def State.askWaiting (s : State) : State :=
  match s.slot with
  | .routine r =>
    if r.held.isSome then s
    else if r.phase = .release then s.askSet .release
    else if r.phase = .engage then s.askSet .engage
    else s
  | .free => s
  | .service _ _ => s
  | .storeProgramming _ => s

/-- A phase that waits for the latch has it where it wants it, and is not suspended (R98). -/
def State.routineReady (s : State) : Option Routine :=
  match s.slot with
  | .routine r => if r.held.isNone && r.phase.awaits = some s.latch.state then some r else none
  | .free => none
  | .service _ _ => none
  | .storeProgramming _ => none

/-- A routine is suspended: its partial findings are dropped and the loop holds the axis where it stands (R104). -/
def State.suspend (r : Routine) (s : State) : State :=
  let m := (s.axis r.axis).meas
  let s := s.setSlot (.routine { r with held := some m, rampSince := none, rampDrive := 0, maxDisp := 0 })
  (s.setDrive r.axis (loopDrive s.params r.axis 0)).logEvent (.routineSuspend r.axis)

/-- The span range of HOME (R100). -/
def spanRange : Axis → Int × Int
  | .tilt => (7000, 9800)
  | .steer => (6000, 9000)

/-- The present measurement of a routine's axis against the centre in force at the start of the routine (R100). CENTRE and the
write at the end take the middle as it is, though the centre was written meanwhile (notes/assumptions/37.md). -/
def Routine.stopAngle (r : Routine) (a : AxisCtl) : Int := a.meas + a.against.getD r.centre - r.centre

/-- What the stop of a sweep adds to the findings (R99, R100). -/
def Routine.stopFound (r : Routine) (stop : Int) : Routine :=
  match r.phase with
  | .sweepLeft => { r with v1 := some stop }
  | .sweepRight =>
    let left := r.v1.getD 0
    let range := spanRange r.axis
    { r with v2 := some stop, v3 := some (truncDiv (left + stop) 2),
             outcome := if range.1 ≤ left - stop ∧ left - stop ≤ range.2 then .pass else .failSpan }
  | _ => r

/-- The findings of a LOCK_TEST at FAIL_SLIP: the push under way counts as far as it got (R102,
notes/assumptions/14.md). -/
def Routine.withPush (r : Routine) : Routine :=
  if r.held.isSome then r
  else match r.phase with
    | .pushLeft => { r with v1 := some r.maxDisp }
    | .pushRight => { r with v2 := some r.maxDisp }
    | _ => r

/-! ## What a sample does in a routine (R98 to R102, R104) -/

/-- The loop holds the routine's axis at a position. -/
def State.holdAt (x : Axis) (target : Int) (s : State) : State :=
  s.setDrive x (loopDrive s.params x (target - (s.axis x).meas))

/-- A sample of a sweep: movement of 10 cd or more takes a new reference (R99). -/
def Routine.sweepSample (r : Routine) (m : Int) (now : Nat) : Routine :=
  if 10 ≤ mag (m - r.reference) then { r with reference := m, stopSince := now } else r

/-- A ramp phase holds the start angle until |e| is 20 cd or less, then starts its ramp from drive 0 (R101). A ramp that runs keeps
its drive at a sample, above a DRIVE_MAX written meanwhile too (notes/assumptions/44.md). -/
def State.rampSample (r : Routine) (sign : Int) (s : State) : State :=
  let m := (s.axis r.axis).meas
  match r.rampSince with
  | some _ => s.setDrive r.axis (sign * r.rampDrive)
  | none =>
    if mag (r.target - m) ≤ 20 then
      (s.setSlot (.routine { r with rampSince := some s.now, rampDrive := 0, reference := m })).setDrive r.axis 0
    else s.holdAt r.axis r.target

/-- A push keeps its largest displacement, and ends the routine at 30 cd (R102). -/
def State.pushSample (r : Routine) (sign : Int) (s : State) : State :=
  let r' := { r with maxDisp := max r.maxDisp (mag ((s.axis r.axis).meas - r.reference)) }
  if 30 ≤ r'.maxDisp then (s.setSlot (.routine r')).finishRoutine r'.withPush .failSlip true
  else (s.setSlot (.routine r')).setDrive r.axis (sign * fixedDrive s.params)

/-- A valid sample of the axis of an unsuspended routine. The drive of a sweep or push is commanded again with DRIVE_MAX as it
stands at the sample (notes/assumptions/45.md). -/
def State.phaseSample (r : Routine) (s : State) : State :=
  let m := (s.axis r.axis).meas
  match r.phase with
  | .release => s.holdAt r.axis r.target
  | .engage => s.holdAt r.axis r.target
  | .sweepLeft => (s.setSlot (.routine (r.sweepSample m s.now))).setDrive r.axis (fixedDrive s.params)
  | .sweepRight => (s.setSlot (.routine (r.sweepSample m s.now))).setDrive r.axis (-(fixedDrive s.params))
  | .centre =>
    let s := s.holdAt r.axis r.target
    if mag (r.target - m) ≤ 20 then s.completePhase r else s
  | .rampLeft => s.rampSample r 1
  | .rampRight => s.rampSample r (-1)
  | .pushLeft => s.pushSample r 1
  | .pushRight => s.pushSample r (-1)

/-- A valid sample of the axis of a routine: a suspended one is held where it was suspended (R104). -/
def State.routineSample (r : Routine) (s : State) : State :=
  match r.held with
  | some p => s.holdAt r.axis p
  | none => s.phaseSample r

end Sys2Proof.Machine
end

