-- ==== Sys2Proof/Machine/Settle.lean ====
section
/-! DEFINITION. What follows from a command without a command of its own: conditions handed on, decisions of the latch
controller, phases that waited for the latch; and waking, which every request but four brings about. -/

namespace Sys2Proof.Machine

/-- At most `n` rounds: conditions are handed on, then the latch controller makes the decision it has, or a routine's
phase that waited for the latch completes. The rules say that their conditions are evaluated whenever one changes, so the
rounds go on until nothing is left to decide; the last round leaves no preload that R117 abandons. -/
def State.settleN : Nat → State → State
  | 0, s => s.handOn.restPreload
  | n + 1, s =>
    let s := s.handOn.weighUncommanded
    match s.decideLatch with
    | some s' => s'.settleN n
    | none =>
      match s.routineReady with
      | some r => (s.completePhase r).settleN n
      | none => s

/-- Eight rounds: more than any chain of decisions that comes to rest takes (notes/assumptions/9.md). -/
def State.settle (s : State) : State := s.settleN 8

/-- The part parks (R126, R87): both axes OFF, the run state PARKED, the dropout timer at 0. -/
def State.parkNow (s : State) : State :=
  let s := s.axesOff
  let s := s.setAuth { s.auth with dropoutSince := none, dropoutFired := false }
  s.setLatchUnit { s.latch with run := .parked }

/-- Waking from PARKED (R129, R36, R87): RUN, WAKE logged, the solve seeded and its timing restarted. -/
def State.wakeNow (src : WakeSource) (s : State) : State :=
  let s := s.setLatchUnit { s.latch with run := .run }
  let s := s.setAuth { s.auth with dropoutSince := none, dropoutFired := false }
  let s := s.logEvent (.wake src)
  s.seedAll.clearSolve

/-- The part wakes if it is PARKED; in RUN a wake event has no effect (R129). -/
def State.wake (src : WakeSource) (s : State) : State :=
  if s.latch.run = .parked then (s.wakeNow src).settle else s

/-! ## Delivery of a request (R154, R157, R158) -/

/-- What a block does with a request: the state after it, and its answer. -/
abbrev Handler := Port → List Byte → State → State × Answer

/-- A refusal: the state as it was, a status, and the payload R160 gives that status. -/
def refuse (s : State) (status : Status) (payload : List Byte) : State × Answer :=
  (s, { status := status, payload := payload })

/-- The receiver of a port returns to HUNT, with nothing collected (R154, R156). -/
def State.rxHunt (p : Port) (s : State) : State :=
  s.setPort p { s.port p with rx := .hunt, need := 0, body := [], lastEnd := s.now }

/-- The hold is refreshed when the port is the holder (R72). -/
def State.refresh (p : Port) (s : State) : State :=
  match s.auth.hold with
  | none => s
  | some h => if h.port = p then s.setAuth { s.auth with hold := some { h with lastContact := s.now } } else s

/-- The frame occupies its port's holding place with its reply fixed, and the reply's frame goes to the transmitter character by
character, each with even parity and a stop bit (R153, R157, R159). -/
def State.occupy (p : Port) (x : Held) (s : State) : State :=
  s.setPort p { s.port p with place := some x, tx := (replyFrame x.kind x.ref x.answer).map .of }

/-- A complete frame goes to the holding place (R157); found empty, it is delivered in the order of R158. -/
def State.deliver (kind : Byte) (wakes : Bool) (f : Frame) (h : Handler) (s : State) : State :=
  let s := s.rxHunt f.port
  if (s.port f.port).place.isSome then s.logEvent (.portOverrun f.port)
  else
    let s := s.refresh f.port
    let s := if wakes then s.wake .link else s
    let r := h f.port f.payload s
    r.1.occupy f.port { kind := kind, ref := f.ref, at_ := s.now, answer := r.2 }

/-- The command of a request row: the frame completes `dt` after the command before. A payload that no frame can carry is
an N outside 2..40, and the frame is abandoned (R154, R156). -/
def State.request (dt : Nat) (kind : Byte) (wakes : Bool) (f : Frame) (h : Handler) (s : State) : State :=
  if 38 < f.payload.length then (s.advance dt).rxHunt f.port
  else (s.advance dt).deliver kind wakes f h

/-- An answer OK. -/
def okAnswer (payload : List Byte) : Answer := { status := .ok, payload := payload }

/-- OK, or ADJUSTED when a value was clamped (R160). -/
def adjustedIf (b : Bool) (payload : List Byte) : Answer :=
  { status := if b then .adjusted else .ok, payload := payload }

end Sys2Proof.Machine
end

