-- ==== Sys2Proof/Machine/Inputs.lean ====
section
/-! DEFINITION. The input unit's commands: INPUT_CHANGE, TRIP_UNIT_EXPIRY, CLEAR_TRIP (07). -/

namespace Sys2Proof.Machine

/-! ## Switch inputs (R131, R132) -/

/-- The pin levels with one replaced. -/
def setLevel (l : Switches) (i : Input) (b : Bool) : Switches :=
  match i with
  | .stand => { l with stand := b }
  | .seat => { l with seat := b }
  | .brake => { l with brake := b }
  | .parkbtn => { l with parkbtn := b }
  | .lift => { l with lift := b }
  | .key => { l with key := b }

/-- The latch controller hears of a change of KEY (R128). -/
def LatchUnit.keyChanged (l : LatchUnit) (active : Bool) (now : Nat) : LatchUnit :=
  if active then { l with keyOffSince := none, autoPark := false } else { l with keyOffSince := some now }

/-- The latch controller hears of a change of an input: KEY's time, LIFT's permit, and waking (R124, R128, R129, R132). -/
def State.reportInput (i : Input) (active : Bool) (s : State) : State :=
  match i with
  | .key =>
    let s := s.setLatchUnit (s.latch.keyChanged active s.now)
    if s.params.wakeMask.getLsbD 1 then s.wake .key else s
  | .lift =>
    let s := if active then s else (s.endPermit .a).endPermit .b
    if s.params.wakeMask.getLsbD 2 then s.wake .input else s
  | .stand => if s.params.wakeMask.getLsbD 2 then s.wake .input else s
  | .seat => if s.params.wakeMask.getLsbD 2 then s.wake .input else s
  | .brake => if s.params.wakeMask.getLsbD 2 then s.wake .input else s
  | .parkbtn => if s.params.wakeMask.getLsbD 2 then s.wake .input else s

/-- A change of a debounced input, in the order of R132. -/
def State.inputChanged (i : Input) (level : Bool) (s : State) : State :=
  let s := s.setInputs (s.inputs.setSwitch i { active := level, differSince := none })
  let s := if s.params.inputEventMask.getLsbD (inputCode i) then s.logEvent (.inputChange i level) else s
  let s := s.handOn
  (s.reportInput i level).settle

/-- A sample of a switch input (R131). -/
def State.switchSample (i : Input) (level : Bool) (s : State) : State :=
  let r := s.inputs.switch i
  if level = r.active then s.setInputs (s.inputs.setSwitch i { r with differSince := none })
  else
    let since := r.differSince.getD s.now
    if since + msOf s.params.debounce ≤ s.now then s.inputChanged i level
    else s.setInputs (s.inputs.setSwitch i { r with differSince := some since })

/-- INPUT_CHANGE: the 1 ms sample of a switch input at which its differing time reaches DEBOUNCE; a sample that does not
reach it only counts (notes/assumptions/6.md). -/
def execInputChange (dt : Nat) (i : Input) (level : Bool) (s : State) : Host.Outcome State Fault Refusal :=
  let s := s.advance dt
  .next ((s.setPins { s.pins with switches := setLevel s.pins.switches i level }).switchSample i level)

/-! ## Trip units (R139) -/

/-- Does the timer of a trip unit reach its trip time with fired clear? -/
def State.tripUnitFires (s : State) (u : TripUnit) : Bool :=
  !(s.inputs.tripUnit u).fired &&
    reached (s.inputs.tripUnit u).since ((s.params.tripUnit u).time.ms * 1000) s.now

/-- TRIP_UNIT_EXPIRY: TRIP_1 or TRIP_2 fires with the unit's severity (R139). -/
def execTripUnitExpiry (dt : Nat) (u : TripUnit) (s : State) : Host.Outcome State Fault Refusal :=
  let s := s.advance dt
  if s.tripUnitFires u then .next (s.fireTripUnit u).settle else .next s

/-! ## CLEAR_TRIP (R144) -/

/-- The trips of the set whose cause is present, in the order of the set. -/
def State.presentCauses (s : State) : List Trip := s.inputs.trips.filter (fun t => s.causePresent t.id)

/-- The set is emptied; TRIP_CLEAR is logged when there was something to clear. -/
def State.clearTrips (s : State) : State :=
  if s.inputs.trips.isEmpty then s
  else ((s.setInputs { s.inputs with trips := [] }).logEvent .tripClear).settle

/-- CLEAR_TRIP's own checks and answers (R144). -/
def handleClearTrip : Handler := fun _ payload s =>
  if !payload.isEmpty then refuse s .badArg []
  else if s.still && s.presentCauses.isEmpty then (s.clearTrips, okAnswer [])
  else
    refuse s .notNow (byteOf s.presentCauses.length :: s.presentCauses.map (fun t => byteOf t.id.code))

/-- CLEAR_TRIP: the trip set is emptied at standstill with every cause gone. -/
def execClearTrip (dt : Nat) (f : Frame) (s : State) : Host.Outcome State Fault Refusal :=
  .next (s.request dt 0x13 true f handleClearTrip)

end Sys2Proof.Machine
end

