-- ==== Sys2Proof/Machine/Latch.lean ====
section
/-! DEFINITION. The latch controller's commands but for parking: the confirm switch, preload, pulses, windows, pauses, and
the three LOCK_DEMAND rows (06). -/

namespace Sys2Proof.Machine

/-! ## The confirm switch (R112, R114, R115, R120 to R122, R130) -/

/-- The 5 ms of the confirm debounce (R112), in microseconds. -/
def confirmDebounce : Nat := 5000

/-- A confirm edge to the target of the attempt set under way (R114, R115): success inside the window, a late completion
after a failed window; while the first pulse still waits for the coil it is judged at the window's opening. -/
def State.edgeInSet (x : AttemptSet) (s : State) : State :=
  match x.stage with
  | .waitCoil => s
  | .window _ => s.succeedSet x.direction
  | .waitPulse => (s.succeedSet x.direction).logEvent (.lockLate x.direction.reached)
  | .pause _ => (s.succeedSet x.direction).logEvent (.lockLate x.direction.reached)

/-- UNLATCHED_FAULT with LOCK_FAULT (SLIP); it ends a LOCK_TEST with FAIL_SLIP (R122, R102). -/
def State.slip (s : State) : State :=
  let s := s.setLatchUnit { s.latch with preloadEnd := none }
  let s := (s.setLatch .unlatchedFault).logEvent (.lockFault .slip)
  match s.slot with
  | .routine r => if r.kind = .lockTest then s.finishRoutine r.withPush .failSlip false else s
  | .free => s
  | .service _ _ => s
  | .storeProgramming _ => s

/-- Is the third pulse of a failed set, in this direction, still on the coil (R120, R121)? -/
def LatchUnit.lastPulse (l : LatchUnit) (d : Direction) : Bool :=
  l.pulse.any (fun p => p.direction = d && p.lastOfFailed)

/-- A confirm opening outside an attempt set, by the latch state (R120, R122). -/
def State.confirmOpened (s : State) : State :=
  match s.latch.state with
  | .engaged => if s.latch.pulsing .release then s else s.slip
  | .releasePreload => if s.latch.pulsing .release then s else s.slip
  | .jammed =>
    if s.latch.lastPulse .release then (s.setLatch .released).logEvent (.lockLate .released)
    else if s.latch.pulsing .release then s
    else s.slip
  | .releasing => s
  | .released => s
  | .engaging => s
  | .unlatchedFault => s

/-- The closing that made the latch ENGAGED was uncommanded (R122). -/
def State.markUncommanded (s : State) : State := s.setLatchUnit { s.latch with uncommanded := true }

/-- A confirm closing outside an attempt set, by the latch state (R121, R122). -/
def State.confirmClosed (s : State) : State :=
  match s.latch.state with
  | .released =>
    if s.latch.pulsing .engage then s
    else ((s.setLatch .engaged).logEvent (.lockFault .uncommanded)).markUncommanded
  | .unlatchedFault =>
    if s.latch.lastPulse .engage then (s.setLatch .engaged).logEvent (.lockLate .engaged) else s.setLatch .engaged
  | .engaged => s
  | .releasePreload => s
  | .releasing => s
  | .engaging => s
  | .jammed => s

/-- A confirm edge: the confirm level takes a value and the edge is taken by the set or by the latch state (R112). -/
def State.confirmChanged (closed : Bool) (s : State) : State :=
  let s := s.setLatchUnit { s.latch with closed := closed, differSince := none }
  match s.latch.set with
  | some x => if closed = x.direction.target then s.edgeInSet x else s
  | none => if closed then s.confirmClosed else s.confirmOpened

/-- A sample of the confirm switch after the first debounce (R112). -/
def State.confirmSample (closed : Bool) (s : State) : State :=
  if closed = s.latch.closed then s.setLatchUnit { s.latch with differSince := none }
  else
    match s.latch.differSince with
    | none => s.setLatchUnit { s.latch with differSince := some s.now }
    | some t => if t + confirmDebounce ≤ s.now then (s.confirmChanged closed).settle else s

/-- The confirm pin as sampled. -/
def State.setConfirmPin (closed : Bool) (s : State) : State := s.setPins { s.pins with closed := closed }

/-- CONFIRM_EDGE: the 1 ms sample of the confirm switch whose run of differing samples completes the debounce; a sample
that does not complete it only counts (notes/assumptions/6.md). -/
def execConfirmEdge (dt : Nat) (closed : Bool) (s : State) : Host.Outcome State Fault Refusal :=
  let s := (s.advance dt).setConfirmPin closed
  if s.latch.first.isSome then .next s else .next (s.confirmSample closed)

/-- The first latch state (R130): handed on like every other but with no LOCK_STATE record (R112), so that the tilt drive is off
at once where it is ENGAGED (R91); and a phase of a routine that waited for it asks for its set. A LOCK_TEST that runs meanwhile goes on where the switch is found OPEN: R102 ends it
at a confirm opening, and a first level is no opening; this is the model's choice (notes/assumptions/43.md). -/
def State.firstLatch (closed : Bool) (s : State) : State :=
  let s := s.setLatchUnit { s.latch with first := none, closed := closed, differSince := none }
  ((s.takeLatch (if closed then .engaged else .released)).askWaiting).settle

/-- A sample of the confirm switch during the first debounce (R130). -/
def State.firstSample (x : FirstDebounce) (closed : Bool) (s : State) : State :=
  if closed ≠ x.level then s.setLatchUnit { s.latch with first := some { level := closed, since := s.now } }
  else if x.since + confirmDebounce ≤ s.now then s.firstLatch closed
  else s

/-- FIRST_CONFIRM_DEBOUNCE: the 1 ms sample that completes the first debounce after a FULL reset (R130). -/
def execFirstConfirmDebounce (dt : Nat) (closed : Bool) (s : State) : Host.Outcome State Fault Refusal :=
  let s := (s.advance dt).setConfirmPin closed
  match s.latch.first with
  | none => .next s
  | some x => .next (s.firstSample x closed)

/-! ## Preload, pulses, windows and pauses (R113, R114, R117) -/

/-- PRELOAD_EXPIRY: the preload timer reaches PRELOAD_MS, and a release set begins (R117). -/
def execPreloadExpiry (dt : Nat) (s : State) : Host.Outcome State Fault Refusal :=
  let s := s.advance dt
  if s.latch.state = .releasePreload && dueBy s.latch.preloadEnd s.now then .next s.endPreload.settle else .next s

/-- A pulse leaves the coil: a waiting pulse starts, and a pause that waited for it begins (R113, R114). -/
def State.pulseOver (s : State) : State :=
  let s := s.setLatchUnit { s.latch with pulse := none }
  match s.latch.set with
  | none => s
  | some x =>
    match x.stage with
    | .waitCoil => s.openWindow x
    | .waitPulse => s.setSet (some { x with stage := .pause (s.now + 50000) })
    | .window _ => s
    | .pause _ => s

/-- The pulse on the coil whose phase `ph` has come to its end, if there is one. -/
def State.pulseDue (s : State) (ph : PulsePhase) : Option Pulse :=
  s.latch.pulse.filter (fun p => p.phase = ph && decide (p.phaseEnd ≤ s.now))

/-- PULLIN_END: the hold phase begins, or the pulse ends when LOCK_HOLD_MS was 0 at its start (R113). -/
def execPullinEnd (dt : Nat) (s : State) : Host.Outcome State Fault Refusal :=
  let s := s.advance dt
  match s.pulseDue .pullIn with
  | none => .next s
  | some p =>
    if p.holdMs = 0 then .next s.pulseOver.settle
    else .next (s.setLatchUnit { s.latch with
      pulse := some { p with phase := .hold, phaseEnd := p.phaseEnd + p.holdMs * 1000 } })

/-- PULSE_END: the hold phase and with it the pulse ends (R113). -/
def execPulseEnd (dt : Nat) (s : State) : Host.Outcome State Fault Refusal :=
  let s := s.advance dt
  match s.pulseDue .hold with
  | none => .next s
  | some _ => .next s.pulseOver.settle

/-- The set whose window has come to its close, if there is one. -/
def State.windowDue (s : State) : Option AttemptSet :=
  s.latch.set.filter (fun x => match x.stage with
    | .window t => decide (t ≤ s.now)
    | .waitCoil => false
    | .waitPulse => false
    | .pause _ => false)

/-- A window closes without success (R114): a third attempt fails the set, an earlier one pauses it, once its pulse is
over. -/
def State.windowFailed (x : AttemptSet) (s : State) : State :=
  if 3 ≤ x.attempt then s.failSet x
  else if s.latch.pulse.isSome then s.setSet (some { x with stage := .waitPulse })
  else s.setSet (some { x with stage := .pause (s.now + 50000) })

/-- CONFIRM_WINDOW_CLOSE: the confirm window of the attempt closes without success (R114). -/
def execConfirmWindowClose (dt : Nat) (s : State) : Host.Outcome State Fault Refusal :=
  let s := s.advance dt
  match s.windowDue with
  | none => .next s
  | some x => .next (s.windowFailed x).settle

/-- The set whose pause has come to its end, if there is one. -/
def State.pauseDue (s : State) : Option AttemptSet :=
  s.latch.set.filter (fun x => match x.stage with
    | .pause t => decide (t ≤ s.now)
    | .waitCoil => false
    | .waitPulse => false
    | .window _ => false)

/-- Is a set abandoned at the end of its pause (R117)? Only a release set of the latch controller's own can be. -/
def State.abandons (s : State) (x : AttemptSet) : Bool :=
  x.direction = .release && x.origin = .own && s.releaseOff

/-- A pause ends: the next attempt, or the set is abandoned and the latch returns to ENGAGED (R114, R117). -/
def State.pauseOver (x : AttemptSet) (s : State) : State :=
  if s.abandons x then (s.setSet none).setLatch .engaged
  else s.startAttempt { x with attempt := x.attempt + 1 }

/-- ATTEMPT_PAUSE_END: the 50 ms pause ends (R114). -/
def execAttemptPauseEnd (dt : Nat) (s : State) : Host.Outcome State Fault Refusal :=
  let s := s.advance dt
  match s.pauseDue with
  | none => .next s
  | some x => .next (s.pauseOver x).settle

/-! ## LOCK_DEMAND (R124) -/

/-- The payload of a LOCK_DEMAND answered OK (09, "Requests and replies"). -/
def State.demandBytes (s : State) : List Byte :=
  [byteOf s.latch.itemA.code, byteOf s.latch.itemB.code, byteOf (bit s.combined 0), byteOf s.latch.state.code]

/-- A LOCK_DEMAND carried out, answered from the state after it. That this is the state after the consequences in other blocks
too is the model's choice (R124, R159; notes/assumptions/48.md). -/
def demandAnswer (s : State) : State × Answer := (s, okAnswer s.demandBytes)

/-- The port's item takes a value; LOCK ends the other port's PERMIT (R124). -/
def State.demandItem (p : Port) (i : DemandItem) (s : State) : State :=
  let s := s.setLatchUnit (s.latch.setItem p i)
  if i = .lock then s.endPermit (otherPort p) else s

/-- LOCK_DEMAND with NONE. -/
def demandNone (p : Port) (s : State) : State × Answer := demandAnswer (s.demandItem p .none).settle

/-- In UNLATCHED_FAULT a LOCK begins a fresh engagement set where R119's conditions on speed and uprightness hold
(R121). -/
def State.lockRequest (s : State) : State :=
  if s.latch.state = .unlatchedFault && s.ownRules && s.mayEngage then s.beginEngage .own else s

/-- LOCK_DEMAND with LOCK. -/
def demandLock (p : Port) (s : State) : State × Answer := demandAnswer (s.demandItem p .lock).lockRequest.settle

/-- The conditions of a PERMIT (R124). -/
def State.permitReady (s : State) (p : Port) : Bool :=
  s.inputs.lift.active && s.still && s.grade = .none && s.latch.item (otherPort p) ≠ .lock

/-- LOCK_DEMAND with PERMIT: from the holder, on a lift, at standstill. -/
def demandPermit (p : Port) (s : State) : State × Answer :=
  if !s.holds p then refuse s .notHolder []
  else if !s.permitReady p then refuse s .notNow []
  else demandAnswer (s.demandItem p .permit).settle

/-- A LOCK_DEMAND of one value, whose payload holds nothing after the value. -/
def demandRow (act : Port → State → State × Answer) : Handler := fun p rest s =>
  if !rest.isEmpty then refuse s .badArg [] else act p s

/-- LOCK_DEMAND_NONE: the frame's payload is the value 0, then these bytes. -/
def execLockDemandNone (dt : Nat) (f : Frame) (s : State) : Host.Outcome State Fault Refusal :=
  if 37 < f.payload.length then .next ((s.advance dt).rxHunt f.port)
  else .next (s.request dt 0x14 true f (demandRow demandNone))

/-- LOCK_DEMAND_LOCK: the frame's payload is the value 1, then these bytes. -/
def execLockDemandLock (dt : Nat) (f : Frame) (s : State) : Host.Outcome State Fault Refusal :=
  if 37 < f.payload.length then .next ((s.advance dt).rxHunt f.port)
  else .next (s.request dt 0x14 true f (demandRow demandLock))

/-- LOCK_DEMAND_PERMIT: the frame's payload is the value 2, then these bytes. -/
def execLockDemandPermit (dt : Nat) (f : Frame) (s : State) : Host.Outcome State Fault Refusal :=
  if 37 < f.payload.length then .next ((s.advance dt).rxHunt f.port)
  else .next (s.request dt 0x14 true f (demandRow demandPermit))

/-- A LOCK_DEMAND with its value still in the payload. -/
def handleLockDemand : Handler := fun p payload s =>
  match payload with
  | [b] =>
    match b.toNat with
    | 0 => demandNone p s
    | 1 => demandLock p s
    | 2 => demandPermit p s
    | _ => refuse s .badArg []
  | _ => refuse s .badArg []

end Sys2Proof.Machine
end

