-- ==== Sys2Proof/Machine/LogCommands.lean ====
section
/-! DEFINITION. The log's commands: READ_EVENTS, REARM_GAP_END (08). -/

namespace Sys2Proof.Machine

/-- The log after a read of up to six records (R148, R151): a read that removes none changes neither line. -/
def EventLog.read (l : EventLog) (maskA maskB : Byte) (now : Nat) : EventLog :=
  if l.records.isEmpty then { l with overflow := false }
  else
    let l' := { l with records := l.records.drop 6, overflow := false }
    { l' with attnA := l.attnA.onRead (l'.wants maskA) now, attnB := l.attnB.onRead (l'.wants maskB) now }

/-- The payload of a READ_EVENTS reply (R148). -/
def EventLog.readBytes (l : EventLog) : List Byte :=
  byteOf (l.records.take 6).length :: ((l.records.take 6).flatMap EventRec.bytes ++
    [byteOf (l.records.drop 6).length, byteOf (bit l.overflow 0)])

/-- READ_EVENTS' own check and answer (R148). -/
def handleReadEvents : Handler := fun _ payload s =>
  if !payload.isEmpty then refuse s .badArg []
  else (s.setLog (s.log.read s.params.attnMaskA s.params.attnMaskB s.now), okAnswer s.log.readBytes)

/-- READ_EVENTS: up to six oldest records leave the log; it does not wake the part. -/
def execReadEvents (dt : Nat) (f : Frame) (s : State) : Host.Outcome State Fault Refusal :=
  .next (s.request dt 0x02 false f handleReadEvents)

/-- An attention line. -/
def EventLog.line (l : EventLog) : Port → AttnLine
  | .a => l.attnA
  | .b => l.attnB

/-- An attention line replaced. -/
def EventLog.setLine (l : EventLog) (p : Port) (x : AttnLine) : EventLog :=
  match p with
  | .a => { l with attnA := x }
  | .b => { l with attnB := x }

/-- REARM_GAP_END: a line's re-arm gap ends, and the line takes its condition as it then stands (R151). -/
def execRearmGapEnd (dt : Nat) (line : Port) (s : State) : Host.Outcome State Fault Refusal :=
  let s := s.advance dt
  if dueBy (s.log.line line).gapEnd s.now then
    .next (s.setLog (s.log.setLine line { asserted := s.log.wants (s.params.attnMask line), gapEnd := none }))
  else .next s

end Sys2Proof.Machine
end

