-- ==== Sys2Proof/Machine/PathOps.lean ====
section
/-! DEFINITION. Travel credit, running dry and the speed ceiling watch (03, R47 to R57). -/

namespace Sys2Proof.Machine

/-! ## The speed ceiling watch (R56) -/

/-- Is v above the current segment's ceiling plus OVERSPEED_MARGIN? -/
def State.tooFast (s : State) : Bool :=
  match s.path.queue with
  | [] => false
  | g :: _ =>
    match g.ceiling with
    | none => false
    | some c => decide ((c : Int) + s.params.overspeedMargin < s.speed.v)

/-- The watch evaluates because v has changed: the timer goes on, starts, or stops at 0. -/
def State.watchCeiling (s : State) : State :=
  s.setPath { s.path with ceilingSince := if s.tooFast then some (s.path.ceilingSince.getD s.now) else none }

/-- The watch starts afresh because the current segment has changed. -/
def State.restartCeiling (s : State) : State :=
  s.setPath { s.path with ceilingSince := if s.tooFast then some s.now else none }

/-! ## Credit (R48 to R53) -/

/-- What a credit does to the queue: the segments it completes, in order, the queue after it with the consumed distance of
its head, and what is left over. -/
structure Consumed where
  done : List Segment
  queue : List Segment
  pos : Nat
  left : Nat
  deriving DecidableEq, Repr

/-- A credit of `n` cm consumed through a queue whose head has `pos` consumed (R48). -/
def consume (pos : Nat) : List Segment → Nat → Consumed
  | [], n => { done := [], queue := [], pos := 0, left := n }
  | g :: rest, n =>
    if n < g.length - pos then { done := [], queue := g :: rest, pos := pos + n, left := 0 }
    else
      let r := consume 0 rest (n - (g.length - pos))
      { r with done := g :: r.done }

/-- PATH_DONE for each completed segment, in queue order (R48, R50). -/
def State.logDone (done : List Segment) (s : State) : State :=
  done.foldl (fun s g => s.logEvent (.pathDone g.tag)) s

/-- The dry count is checked against DRY_DISTANCE (R53). -/
def State.checkDry (s : State) : State :=
  if s.params.dryDistance ≤ s.path.dryCount then s.endHold .dry else s

/-- The queue has run out behind `last`: the hold ends, or the source becomes DRY (R51, R52). -/
def State.ranOut (last : Segment) (left : Nat) (s : State) : State :=
  if last.endRelease then s.endHold .done
  else
    let s := s.setPath { s.path with held := some last.k1, dryCount := left, ceilingSince := none }
    (s.logEvent (.pathDry false)).checkDry

/-- A credit is consumed through a queue that holds a current segment (R48, R50). -/
def State.consumeCredit (n : Nat) (s : State) : State :=
  let r := consume s.path.pos s.path.queue n
  let s := s.setPath { s.path with queue := r.queue, pos := r.pos }
  let s := s.logDone r.done
  match r.done.getLast? with
  | none => s
  | some last => if r.queue.isEmpty then s.ranOut last r.left else s.restartCeiling

/-- A credit from the speed unit (R48, R49): discarded without a hold, counted when dry, else consumed. What a hold that begins
together with a return to GOOD takes of such a credit stands in `SpeedUnit.passed` (R16; notes/assumptions/39.md). -/
def State.credit (n : Nat) (s : State) : State :=
  if n = 0 then s
  else
    match s.auth.hold, s.path.queue with
    | none, _ => s
    | some _, [] => (s.setPath { s.path with dryCount := s.path.dryCount + n }).checkDry
    | some _, _ :: _ => s.consumeCredit n

/-! ## Commits (R55, R65) -/

/-- Segments are appended at the tail of the queue; appended to an empty queue, the first becomes current at s = 0 and the
source becomes PATH (R55). -/
def State.appendSegments (segs : List Segment) (s : State) : State :=
  match s.path.queue, segs with
  | _, [] => s
  | [], g :: rest =>
    (s.setPath { s.path with queue := g :: rest, pos := 0, dryCount := 0, held := none }).restartCeiling
  | g :: rest, _ :: _ => s.setPath { s.path with queue := (g :: rest) ++ segs }

end Sys2Proof.Machine
end

