-- ==== Sys2Proof/Machine/Authority.lean ====
section
/-! DEFINITION. The authority unit's commands: TAKE_HOLD, DROP_HOLD, SILENCE_EXPIRY, HANDLEBAR_SAMPLE, TAKEOVER_EXPIRY,
HANDLEBAR_DROPOUT_EXPIRY (04). -/

namespace Sys2Proof.Machine

/-! ## Taking and dropping the hold (R73 to R76) -/

/-- A grant (R74, R54, R16): the record, HOLD_BEGIN, the held curvature from the solve's last period with a dry count of 0, and no
withheld travel. The condition HOLD_STANDS is handed on by `State.settle`. -/
def State.grant (p : Port) (s : State) : State :=
  let s := s.setAuth { s.auth with
    hold := some { port := p, thetaRef := s.auth.theta, lastContact := s.now, takeoverSince := none } }
  let s := s.logEvent (.holdBegin p)
  let s := s.setPath { PathUnit.empty with held := some s.solve.kc }
  s.setSpeed { s.speed with withheld := 0, passed := none }

/-- A grant where no hold stands. A return to GOOD taken just before it, at the same timebase count, has passed its withheld
credit to the path unit, which counts it as dry distance of the new hold (R16, R49, notes/assumptions/39.md) and checks it
(R53). -/
def State.grantFree (p : Port) (s : State) : State :=
  (((s.grant p).announce).credit (s.speed.passedAt s.now)).settle

/-- Preemption (R75): one hold ends and another begins in one handling; HOLD_STANDS is announced as false at the one and as
true at the other, and both changes are then handed on (R133, notes/assumptions/24.md). The credit of a return to GOOD taken
just before went into the queue of the hold that ends, and is lost with it (R16). -/
def State.preempt (p : Port) (s : State) : State :=
  (((s.dropHold .preempted).announce.grant p).announce).settle

/-- The flag byte of TAKE_HOLD: one byte with bits 1 to 7 clear; the answer is its PREEMPT flag (R73). -/
def takeFlags (payload : List Byte) : Option Bool :=
  match payload with
  | [b] => if b.toNat < 2 then some (b.toNat = 1) else none
  | _ => none

/-- TAKE_HOLD's own checks and answers, in the order of R73. The OK of a grant names the port that took the hold, also where a
trip unit with a trip time of 0 on HOLD_STANDS, or the dry distance of R16, ends the new hold in the same handling; the manual
does not say what the reply carries then (notes/assumptions/34.md). -/
def handleTakeHold : Handler := fun p payload s =>
  match takeFlags payload with
  | none => refuse s .badArg []
  | some preempt =>
    if s.holds p then (s, okAnswer [byteOf (portCode p)])
    else if s.grade ≠ .none || s.store.source = .defaults then refuse s .notNow []
    else if s.auth.hold.isNone then (s.grantFree p, okAnswer [byteOf (portCode p)])
    else if p = .a && preempt then (s.preempt p, okAnswer [byteOf (portCode p)])
    else refuse s .held [byteOf s.holderCode]

/-- TAKE_HOLD: a refresh, a refusal, a grant or a preemption. -/
def execTakeHold (dt : Nat) (f : Frame) (s : State) : Host.Outcome State Fault Refusal :=
  .next (s.request dt 0x20 true f handleTakeHold)

/-- DROP_HOLD's own checks and answers (R76). -/
def handleDropHold : Handler := fun p payload s =>
  if !payload.isEmpty then refuse s .badArg []
  else if !s.holds p then refuse s .notHolder []
  else ((s.endHold .dropped).settle, okAnswer [])

/-- DROP_HOLD: the holder ends the hold. -/
def execDropHold (dt : Nat) (f : Frame) (s : State) : Host.Outcome State Fault Refusal :=
  .next (s.request dt 0x21 true f handleDropHold)

/-! ## Losing the hold (R77, R79) -/

/-- Has the silence watch expired (R77)? -/
def State.silent (s : State) : Bool :=
  reached (s.auth.hold.map (·.lastContact)) (msOf s.params.holdTimeout) s.now

/-- SILENCE_EXPIRY: the hold ends with reason SILENT. -/
def execSilenceExpiry (dt : Nat) (s : State) : Host.Outcome State Fault Refusal :=
  let s := s.advance dt
  if s.silent then .next (s.endHold .silent).settle else .next s

/-- Has the takeover timer reached TAKEOVER_TIME, as read at the last valid sample (R79)? -/
def State.takenOver (s : State) : Bool :=
  reached (s.auth.hold.bind (·.takeoverSince)) (msOf s.auth.takeoverTime) s.now

/-- TAKEOVER_EXPIRY: the hold ends with reason TAKEOVER. -/
def execTakeoverExpiry (dt : Nat) (s : State) : Host.Outcome State Fault Refusal :=
  let s := s.advance dt
  if s.takenOver then .next (s.endHold .takeover).settle else .next s

/-! ## The handlebar (R84 to R87) -/

/-- Is a raw angle reading valid (R84, R88)? -/
def readingValid (reading : Int) : Bool := decide (-4800 ≤ reading) && decide (reading ≤ 4800)

/-- The rider demand of a handlebar angle (R84). -/
def riderDemandOf (theta gain : Int) : Int := clampSym 500 (roundDiv (clampSym 4500 theta * gain) 65536)

/-- The takeover timer after a valid sample (R79). -/
def Hold.takeoverAt (h : Hold) (theta angle : Int) (now : Nat) : Hold :=
  { h with takeoverSince := if angle < mag (theta - h.thetaRef) then some (h.takeoverSince.getD now) else none }

/-- The authority unit after a valid handlebar sample (R79, R84, R85, R86). -/
def AuthorityUnit.validSample (u : AuthorityUnit) (reading : Int) (p : Params) (now : Nat) : AuthorityUnit :=
  { u with theta := reading, riderDemand := riderDemandOf reading p.curvGain, valid := true, dropoutSince := none,
           dropoutFired := false, takeoverTime := p.takeoverTime, hold := u.hold.map (fun h => h.takeoverAt reading p.takeoverAngle now) }

/-- The authority unit after an invalid sample (R79, R85, R87): the takeover timer returns to 0, and in RUN the dropout
timer starts unless it runs or has fired in this spell. -/
def AuthorityUnit.invalidSample (u : AuthorityUnit) (parked : Bool) (now : Nat) : AuthorityUnit :=
  { u with valid := false,
           dropoutSince := if parked || u.dropoutFired then u.dropoutSince else some (u.dropoutSince.getD now),
           hold := u.hold.map (fun h => { h with takeoverSince := none }) }

/-- The handlebar sensor gives a reading at the present time. -/
def State.handlebarSampled (reading : Int) (s : State) : State :=
  let s := s.setPins { s.pins with handlebar := reading }
  if readingValid reading then s.setAuth (s.auth.validSample reading s.params s.now)
  else s.setAuth (s.auth.invalidSample (s.latch.run = .parked) s.now)

/-- HANDLEBAR_SAMPLE: the 1 ms sample of the handlebar sensor. -/
def execHandlebarSample (dt : Nat) (reading : Int) (s : State) : Host.Outcome State Fault Refusal :=
  .next ((s.advance dt).handlebarSampled reading)

/-- The 100 ms of the dropout timer (R85), in microseconds. -/
def dropoutLimit : Nat := 100000

/-- HANDLEBAR_DROPOUT_EXPIRY: HANDLEBAR fires, and the rider demand becomes 0 (R85). -/
def execHandlebarDropoutExpiry (dt : Nat) (s : State) : Host.Outcome State Fault Refusal :=
  let s := s.advance dt
  if reached s.auth.dropoutSince dropoutLimit s.now then
    let s := s.setAuth { s.auth with riderDemand := 0, dropoutSince := none, dropoutFired := true }
    .next (s.fireTrip .handlebar .degrade).settle
  else .next s

end Sys2Proof.Machine
end

