-- ==== Sys2Proof/Machine/Axes.lean ====
section
/-! DEFINITION. The axis controllers' commands outside sessions: AXIS_SAMPLE, TRACKING_EXPIRY, ENABLE (05). -/

namespace Sys2Proof.Machine

/-! ## The sample (R88 to R92) -/

/-- The tracking watch at a loop update with error `e` (R92). -/
def AxisCtl.watchTrack (a : AxisCtl) (limit e : Int) (now : Nat) : AxisCtl :=
  if limit < mag e then { a with trackSince := some (a.trackSince.getD now) }
  else { a with trackSince := none, trackFired := false }

/-- An axis whose drive is off or held at 0: no loop, no watch (R89, R91, R92). -/
def AxisCtl.undriven (a : AxisCtl) : AxisCtl := { a with drive := 0, trackSince := none, trackFired := false }

/-- A loop update in TRACK (R90, R92). -/
def State.trackSample (x : Axis) (s : State) : State :=
  let a := s.axis x
  let e := s.setpoint x - a.meas
  s.setAxis x ({ a with drive := loopDrive s.params x e }.watchTrack (s.params.trackErr x) e s.now)

/-- The drive value standing in a service session (R110). -/
def standingValue (d : Option StandingDrive) : Int := (d.map (·.value)).getD 0

/-- What the mode of an axis commands at a valid sample (R93). -/
def State.modeSample (x : Axis) (s : State) : State :=
  match (s.axis x).mode with
  | .off => s.setAxis x (s.axis x).undriven
  | .track => if s.driveOn x then s.trackSample x else s.setAxis x (s.axis x).undriven
  | .routine =>
    match s.slot with
    | .routine r => if r.axis = x then s.routineSample r else s
    | .free => s
    | .service _ _ => s
    | .storeProgramming _ => s
  | .service =>
    match s.slot with
    | .service y d => if y = x then s.setDrive x (standingValue d) else s
    | .free => s
    | .routine _ => s
    | .storeProgramming _ => s

/-- The sensor trip of an axis and its severity (R89, R141). -/
def sensorTrip : Axis → TripId × Severity
  | .tilt => (.sensorTilt, .lockdown)
  | .steer => (.sensorSteer, .degrade)

/-- A valid sample: the measurement, then what the mode commands (R88). -/
def State.validSample (x : Axis) (reading : Int) (s : State) : State :=
  (s.setAxis x { s.axis x with
    meas := reading - s.params.centre x, against := some (s.params.centre x), valid := true }).modeSample x

/-- An invalid sample (R89): the drive is forced to 0; the first of a spell fires the sensor trip. -/
def State.invalidSample (x : Axis) (s : State) : State :=
  let first := (s.axis x).valid
  let s := s.setAxis x { (s.axis x).undriven with valid := false }
  if first then s.fireTrip (sensorTrip x).1 (sensorTrip x).2 else s

/-- The pin reading of an axis. -/
def Pins.setAngle (p : Pins) (x : Axis) (reading : Int) : Pins :=
  match x with
  | .tilt => { p with tilt := reading }
  | .steer => { p with steer := reading }

/-- AXIS_SAMPLE: the 500 us sample of an axis's angle sensor. -/
def execAxisSample (dt : Nat) (x : Axis) (reading : Int) (s : State) : Host.Outcome State Fault Refusal :=
  let s := s.advance dt
  let s := s.setPins (s.pins.setAngle x reading)
  if readingValid reading then .next (s.validSample x reading).settle else .next (s.invalidSample x).settle

/-- The 300 ms of the tracking watch (R92), in microseconds. -/
def trackLimit : Nat := 300000

/-- The tracking trip of an axis and its severity (R92, R141). -/
def trackTrip : Axis → TripId × Severity
  | .tilt => (.trackTilt, .lockdown)
  | .steer => (.trackSteer, .degrade)

/-- Does the tracking watch of an axis fire now (R92)? -/
def State.trackFires (s : State) (x : Axis) : Bool :=
  (s.axis x).mode = .track && s.driveOn x && (s.axis x).valid && !(s.axis x).trackFired &&
    reached (s.axis x).trackSince trackLimit s.now

/-- TRACKING_EXPIRY: the tracking watch timer reaches 300 ms and fires (R92). -/
def execTrackingExpiry (dt : Nat) (x : Axis) (s : State) : Host.Outcome State Fault Refusal :=
  let s := s.advance dt
  if s.trackFires x then
    .next ((s.setAxis x { s.axis x with trackFired := true }).fireTrip (trackTrip x).1 (trackTrip x).2).settle
  else .next s

/-! ## ENABLE (R94) -/

/-- One axis at an ENABLE: OFF goes to TRACK with its setpoint seeded; a return mode of OFF becomes TRACK (R94, R35). -/
def State.enableAxis (x : Axis) (s : State) : State :=
  let a := s.axis x
  match a.mode with
  | .off => (s.setAxis x { a with mode := .track }).seedSetpoint x
  | .track => s
  | .routine => s.setAxis x { a with returnMode := some .track }
  | .service => s.setAxis x { a with returnMode := some .track }

/-- ENABLE's own checks and answer (R94). The OK carries the modes as ENABLE itself leaves them, also where a consequence in the
same handling changes one: a release begins as the tilt axis enters TRACK, a trip unit with a trip time of 0 on LOCKED makes
SAFE entry, and a session of the steer axis ends. The manual does not say which modes the reply carries then (R94, R159;
notes/assumptions/47.md). -/
def handleEnable : Handler := fun _ payload s =>
  if !payload.isEmpty then refuse s .badArg []
  else if s.store.source = .defaults then refuse s .notReady []
  else
    let s := (s.enableAxis .tilt).enableAxis .steer
    (s.settle, okAnswer [byteOf s.tilt.mode.code, byteOf s.steer.mode.code])

/-- ENABLE: each axis in OFF moves to TRACK. -/
def execEnable (dt : Nat) (f : Frame) (s : State) : Host.Outcome State Fault Refusal :=
  .next (s.request dt 0x10 true f handleEnable)

end Sys2Proof.Machine
end

