-- ==== Sys2Proof/Machine/Routines.lean ====
section
/-! DEFINITION. Routines and service sessions: START_ROUTINE to LEAVE_SERVICE (05, R96 to R111). -/

namespace Sys2Proof.Machine

/-! ## The slot (R96) -/

/-- Is the operation slot free? -/
def Slot.isFree : Slot → Bool
  | .free => true
  | .routine _ => false
  | .service _ _ => false
  | .storeProgramming _ => false

/-- BUSY, naming the occupant (R96, R160). -/
def refuseBusy (s : State) : State × Answer := refuse s .busy [byteOf s.slot.code]

/-- An axis enters ROUTINE or SERVICE with its present mode as return mode (R93, R97, R109). -/
def AxisCtl.enterSession (a : AxisCtl) (m : AxisMode) : AxisCtl :=
  { a with mode := m, returnMode := some (if a.mode = .track then .track else .off), trackSince := none,
           trackFired := false }

/-! ## Starting a routine (R97) -/

/-- The axis and kind of a START_ROUTINE; a kind that does not exist for the axis is malformed (R97). -/
def startArgs (payload : List Byte) : Option (Axis × RoutineKind) :=
  match payload with
  | [bx, bk] =>
    match axisOfCode bx.toNat, RoutineKind.ofCode bk.toNat with
    | some x, some k => if kindExists x k then some (x, k) else none
    | _, _ => none
  | _ => none

/-- The kind's own conditions at start (05, "Routines"). -/
def State.kindReady (s : State) (x : Axis) (k : RoutineKind) : Bool :=
  match x, k with
  | .steer, _ => true
  | .tilt, .home => s.inputs.lift.active && s.latch.state = .engaged
  | .tilt, .friction => s.inputs.lift.active && s.latch.state = .engaged
  | .tilt, .lockTest => (s.inputs.stand.active || s.inputs.lift.active) && s.latch.state = .engaged

/-- The conditions that START_ROUTINE and ENTER_SERVICE share (R97, R109). -/
def State.sessionReady (s : State) : Bool := s.path.isEmpty && s.grade = .none && s.still

/-- A routine as it starts, with no findings and the centre that is in force (R100). -/
def Routine.start (x : Axis) (k : RoutineKind) (centre : Int) : Routine :=
  { axis := x, kind := k, centre := centre, phase := firstPhase x k, held := none, target := 0, phaseStart := 0, reference := 0,
    stopSince := 0, rampSince := none, rampDrive := 0, firstRamp := none, maxDisp := 0, v1 := none, v2 := none,
    v3 := none, outcome := .none }

/-- A routine starts (R97): result record, mode, slot, first phase. -/
def State.startRoutine (x : Axis) (k : RoutineKind) (s : State) : State :=
  let a := (s.axis x).enterSession .routine
  let s := s.setAxis x { a with result := { ResultRec.empty with kind := some k } }
  s.beginPhase (.start x k (s.params.centre x)) (firstPhase x k)

/-- START_ROUTINE's own checks and answers, in the order of R97. -/
def handleStartRoutine : Handler := fun p payload s =>
  match startArgs payload with
  | none => refuse s .badArg []
  | some (x, k) =>
    if !s.holds p then refuse s .notHolder []
    else if !s.slot.isFree then refuseBusy s
    else if !(s.sessionReady && s.wheelsStopped && s.kindReady x k) then refuse s .notNow []
    else ((s.startRoutine x k).settle, okAnswer [])

/-- START_ROUTINE: the axis takes the slot and enters ROUTINE. -/
def execStartRoutine (dt : Nat) (f : Frame) (s : State) : Host.Outcome State Fault Refusal :=
  .next (s.request dt 0x30 true f handleStartRoutine)

/-! ## Events of phases (R99, R101, R102) -/

/-- The routine under way that is not suspended. -/
def Slot.running : Slot → Option Routine
  | .routine r => if r.held.isNone then some r else none
  | .free => none
  | .service _ _ => none
  | .storeProgramming _ => none

/-- Is the phase a sweep? -/
def Phase.isSweep : Phase → Bool
  | .sweepLeft => true
  | .sweepRight => true
  | _ => false

/-- Is the phase a ramp phase? -/
def Phase.isRamp : Phase → Bool
  | .rampLeft => true
  | .rampRight => true
  | _ => false

/-- Is the phase a push? -/
def Phase.isPush : Phase → Bool
  | .pushLeft => true
  | .pushRight => true
  | _ => false

/-- The 200 ms of the stop timer (R99), in microseconds. -/
def stopLimit : Nat := 200000

/-- The sweep whose stop timer has reached 200 ms, if there is one (R99). -/
def State.sweepDone (s : State) : Option Routine :=
  s.slot.running.filter (fun r => r.phase.isSweep && reached (some r.stopSince) stopLimit s.now)

/-- SWEEP_STOP_FOUND: the stop is the present measurement, against the centre at the routine's start, and the phase completes
(R99, R100). The timer of a sweep that did not begin at a sample reaches 200 ms between two samples; that the stop is found at
that very count, with the measurement of the last sample, is the model's choice (notes/assumptions/46.md). -/
def execSweepStopFound (dt : Nat) (s : State) : Host.Outcome State Fault Refusal :=
  let s := s.advance dt
  match s.sweepDone with
  | none => .next s
  | some r =>
    .next ((s.setDrive r.axis 0).completePhase (r.stopFound (r.stopAngle (s.axis r.axis)))).settle

/-- The 4 s limit of a phase (R99, R100, R101), in microseconds. -/
def phaseLimit : Nat := 4000000

/-- Is the phase one that must complete within 4 s: a sweep, CENTRE, or the holding part of a ramp phase? -/
def Routine.timed (r : Routine) : Bool :=
  r.phase.isSweep || r.phase = .centre || (r.phase.isRamp && r.rampSince.isNone)

/-- The routine whose phase has run out of time, if there is one. -/
def State.phaseOverdue (s : State) : Option Routine :=
  s.slot.running.filter (fun r => r.timed && reached (some r.phaseStart) phaseLimit s.now)

/-- PHASE_TIMEOUT: the routine ends with FAIL_TIMEOUT (R99, R100, R101). -/
def execPhaseTimeout (dt : Nat) (s : State) : Host.Outcome State Fault Refusal :=
  let s := s.advance dt
  match s.phaseOverdue with
  | none => .next s
  | some r => .next (s.finishRoutine r .failTimeout false).settle

/-- The 2 ms of a ramp step (R101), in microseconds. -/
def rampPeriod : Nat := 2000

/-- The routine whose ramp has a step due, if there is one. -/
def State.rampDue (s : State) : Option Routine :=
  s.slot.running.filter (fun r => r.phase.isRamp && reached r.rampSince rampPeriod s.now)

/-- The sign of a ramp's drive: positive to the left (R101). -/
def Phase.rampSign : Phase → Int
  | .rampRight => -1
  | _ => 1

/-- The breakaway drive of a ramp recorded for its direction (R101). -/
def Routine.brokeAway (r : Routine) : Routine :=
  if r.phase = .rampRight then { r with v2 := some r.rampDrive } else { r with v1 := some r.rampDrive }

/-- A ramp step (R101): breakaway, failure at DRIVE_MAX, or 2 per mille more. Where DRIVE_MAX has been written below the ramp's
present drive, the drive stays until this step, which fails the ramp unless the axis has moved; the manual does not say, and that is
the model's choice (notes/assumptions/44.md). -/
def State.stepRamp (r : Routine) (s : State) : State :=
  if 20 < mag ((s.axis r.axis).meas - r.reference) then (s.setDrive r.axis 0).completePhase r.brokeAway
  else if s.params.driveMax ≤ r.rampDrive then s.finishRoutine r .failNoMove false
  else
    let d := min s.params.driveMax (r.rampDrive + 2)
    (s.setSlot (.routine { r with rampDrive := d, rampSince := some s.now })).setDrive r.axis (r.phase.rampSign * d)

/-- RAMP_STEP: the 2 ms check of a FRICTION ramp (R101). -/
def execRampStep (dt : Nat) (s : State) : Host.Outcome State Fault Refusal :=
  let s := s.advance dt
  match s.rampDue with
  | none => .next s
  | some r => .next (s.stepRamp r).settle

/-- The 300 ms of a push (R102), in microseconds. -/
def pushTime : Nat := 300000

/-- The routine whose push has lasted its 300 ms, if there is one. -/
def State.pushDone (s : State) : Option Routine :=
  s.slot.running.filter (fun r => r.phase.isPush && reached (some r.phaseStart) pushTime s.now)

/-- PUSH_PHASE_END: the push's displacement is kept, and the next push begins or the routine passes (R102). -/
def execPushPhaseEnd (dt : Nat) (s : State) : Host.Outcome State Fault Refusal :=
  let s := s.advance dt
  match s.pushDone with
  | none => .next s
  | some r => .next ((s.setDrive r.axis 0).completePhase r.withPush).settle

/-! ## Suspend, resume, abort (R104 to R107) -/

/-- The routine under way, suspended or not. -/
def Slot.routine? : Slot → Option Routine
  | .routine r => some r
  | .free => none
  | .service _ _ => none
  | .storeProgramming _ => none

/-- SUSPEND_ROUTINE's own checks and answers (R104). -/
def handleSuspendRoutine : Handler := fun p payload s =>
  if !payload.isEmpty then refuse s .badArg []
  else if !s.holds p then refuse s .notHolder []
  else
    match s.slot.routine? with
    | none => refuse s .notNow []
    | some r => if r.held.isSome then (s, okAnswer []) else (s.suspend r, okAnswer [])

/-- SUSPEND_ROUTINE: the holder suspends the routine under way. -/
def execSuspendRoutine (dt : Nat) (f : Frame) (s : State) : Host.Outcome State Fault Refusal :=
  .next (s.request dt 0x31 true f handleSuspendRoutine)

/-- A suspended routine's phase begins again (R105). -/
def State.resume (r : Routine) (s : State) : State :=
  ((s.logEvent (.routineResume r.axis)).beginPhase r r.phase).settle

/-- RESUME_ROUTINE's own checks and answers (R105). -/
def handleResumeRoutine : Handler := fun p payload s =>
  if !payload.isEmpty then refuse s .badArg []
  else if !s.holds p then refuse s .notHolder []
  else
    match s.slot.routine? with
    | none => refuse s .notNow []
    | some r =>
      if r.held.isSome && s.still && s.wheelsStopped then (s.resume r, okAnswer []) else refuse s .notNow []

/-- RESUME_ROUTINE: the suspended phase begins again. -/
def execResumeRoutine (dt : Nat) (f : Frame) (s : State) : Host.Outcome State Fault Refusal :=
  .next (s.request dt 0x32 true f handleResumeRoutine)

/-- ABORT_ROUTINE's own checks and answers (R107). -/
def handleAbortRoutine : Handler := fun p payload s =>
  if !payload.isEmpty then refuse s .badArg []
  else if !s.holds p then refuse s .notHolder []
  else
    match s.slot.routine? with
    | none => refuse s .notNow []
    | some r => ((s.finishRoutine r .aborted false).settle, okAnswer [])

/-- ABORT_ROUTINE: the holder ends the routine with outcome ABORTED. -/
def execAbortRoutine (dt : Nat) (f : Frame) (s : State) : Host.Outcome State Fault Refusal :=
  .next (s.request dt 0x33 true f handleAbortRoutine)

/-- The axis of a one-byte payload. -/
def axisArg (payload : List Byte) : Option Axis :=
  match payload with
  | [b] => axisOfCode b.toNat
  | _ => none

/-- READ_RESULT's own checks and answers (R108); BUSY names occupant 0 (R160). -/
def handleReadResult : Handler := fun _ payload s =>
  match axisArg payload with
  | none => refuse s .badArg []
  | some x =>
    if (s.axis x).mode = .routine then refuse s .busy [0] else (s, okAnswer (s.axis x).result.bytes)

/-- READ_RESULT: an axis's result record; it does not wake the part. -/
def execReadResult (dt : Nat) (f : Frame) (s : State) : Host.Outcome State Fault Refusal :=
  .next (s.request dt 0x34 false f handleReadResult)

/-! ## Service sessions (R109 to R111) -/

/-- The tilt axis's own condition at ENTER_SERVICE (R109). -/
def State.serviceLatch (s : State) (x : Axis) : Bool :=
  x = .steer || s.latch.state = .released || s.latch.state = .unlatchedFault

/-- A service session starts, with drive 0 until the first SERVICE_DRIVE (R109). -/
def State.startService (x : Axis) (s : State) : State :=
  (s.setAxis x { (s.axis x).enterSession .service with drive := 0 }).setSlot (.service x none)

/-- ENTER_SERVICE's own checks and answers, in the order of R109. -/
def handleEnterService : Handler := fun p payload s =>
  match axisArg payload with
  | none => refuse s .badArg []
  | some x =>
    if !s.holds p then refuse s .notHolder []
    else if !s.slot.isFree then refuseBusy s
    else if !(s.sessionReady && s.serviceLatch x) then refuse s .notNow []
    else ((s.startService x).settle, okAnswer [])

/-- ENTER_SERVICE: the axis takes the slot and enters SERVICE with drive 0. -/
def execEnterService (dt : Nat) (f : Frame) (s : State) : Host.Outcome State Fault Refusal :=
  .next (s.request dt 0x38 true f handleEnterService)

/-- The axis of the service session under way. -/
def Slot.serviceAxis : Slot → Option Axis
  | .service x _ => some x
  | .free => none
  | .routine _ => none
  | .storeProgramming _ => none

/-- The 100 ms life of a service drive (R110), in microseconds. -/
def serviceLife : Nat := 100000

/-- A service drive value applied for 100 ms; a sensor fault holds the drive at 0 (R110, R89). -/
def State.applyDrive (x : Axis) (d : Int) (s : State) : State :=
  (s.setSlot (.service x (some { value := d, expiresAt := s.now + serviceLife }))).setDrive x
    (if (s.axis x).valid then d else 0)

/-- SERVICE_DRIVE's own checks and answers (R110). -/
def handleServiceDrive : Handler := fun p payload s =>
  match payload with
  | [lo, hi] =>
    if !s.holds p then refuse s .notHolder []
    else
      match s.slot.serviceAxis with
      | none => refuse s .notNow []
      | some x =>
        let d := clampSym s.params.driveMax (signed16 lo hi)
        (s.applyDrive x d, adjustedIf (d != signed16 lo hi) (le16 d))
  | _ => refuse s .badArg []

/-- SERVICE_DRIVE: a clamped drive value for the session's axis, for 100 ms. -/
def execServiceDrive (dt : Nat) (f : Frame) (s : State) : Host.Outcome State Fault Refusal :=
  .next (s.request dt 0x39 true f handleServiceDrive)

/-- The axis whose service drive has lived its 100 ms, if there is one (R110). -/
def State.serviceLapsed (s : State) : Option Axis :=
  match s.slot with
  | .service x (some d) => if d.expiresAt ≤ s.now then some x else none
  | .service _ none => none
  | .free => none
  | .routine _ => none
  | .storeProgramming _ => none

/-- SERVICE_DRIVE_EXPIRY: the drive returns to 0 and the session goes on (R110). -/
def execServiceDriveExpiry (dt : Nat) (s : State) : Host.Outcome State Fault Refusal :=
  let s := s.advance dt
  match s.serviceLapsed with
  | none => .next s
  | some x => .next ((s.setSlot (.service x none)).setDrive x 0)

/-- LEAVE_SERVICE's own checks and answers (R111). -/
def handleLeaveService : Handler := fun p payload s =>
  if !payload.isEmpty then refuse s .badArg []
  else if !s.holds p then refuse s .notHolder []
  else
    match s.slot.serviceAxis with
    | none => refuse s .notNow []
    | some x => ((s.finishService x).settle, okAnswer [])

/-- LEAVE_SERVICE: the holder ends the session. -/
def execLeaveService (dt : Nat) (f : Frame) (s : State) : Host.Outcome State Fault Refusal :=
  .next (s.request dt 0x3A true f handleLeaveService)

end Sys2Proof.Machine
end

