-- ==== Sys2Proof/Machine/Speed.lean ====
section
/-! DEFINITION. The speed unit's commands: WHEEL_EDGE, DECAY_STEP, STALL_EXPIRY, SUSPECT_TIMER_EXPIRY (01). -/

namespace Sys2Proof.Machine

/-! ## Recomputing the estimate (R7 to R13, R15) -/

/-- The tolerance at a median (R8). -/
def tolerance (median : Nat) : Nat := max 40 (median * 15 / 100)

/-- Is a wheel ODD at a median (R8)? -/
def oddAt (median speed : Nat) : Bool := decide (tolerance median < gap speed median)

/-- The estimate state while these wheels are ODD (R9). -/
def estimateOf (r l f : Bool) : EstimateState :=
  if (r && l) || (r && f) || (l && f) then .suspect else .good

/-- The travel source (R13). -/
def sourceOf (rearOdd : Bool) : TravelSource := if rearOdd then .frontL else .rear

/-- The suspect timer across a recomputation (R9). -/
def suspectTimer (old new : EstimateState) (since : Option Nat) (now : Nat) : Option Nat :=
  match old, new with
  | .good, .suspect => some now
  | .suspect, .good => none
  | _, _ => since

/-- The speed unit after a recomputation from its wheel speeds (R7, R8, R9, R13). -/
def SpeedUnit.recomputed (u : SpeedUnit) (now : Nat) : SpeedUnit :=
  let m := median3 u.rear.speed u.frontL.speed u.frontR.speed
  let r := oddAt m u.rear.speed
  let l := oddAt m u.frontL.speed
  let f := oddAt m u.frontR.speed
  let e := estimateOf r l f
  { u with
    rear := { u.rear with odd := r }, frontL := { u.frontL with odd := l }, frontR := { u.frontR with odd := f },
    median := m, estimate := e, v := if e = .good then m else u.v,
    suspectSince := suspectTimer u.estimate e u.suspectSince now, source := sourceOf r }

/-- WHEEL_ODD for a wheel whose ODD state has changed (R8). -/
def State.logOdd (w : Wheel) (old new : Bool) (s : State) : State :=
  if old != new then s.logEvent (.wheelOdd w new) else s

/-- The records of a recomputation in the order of R12. -/
def State.logRecomputed (old new : SpeedUnit) (s : State) : State :=
  let s := s.logOdd .rear old.rear.odd new.rear.odd
  let s := s.logOdd .frontL old.frontL.odd new.frontL.odd
  let s := s.logOdd .frontR old.frontR.odd new.frontR.odd
  let s := if old.estimate ≠ new.estimate then s.logEvent (.speedSuspect (new.estimate = .suspect)) else s
  if old.source ≠ new.source then s.logEvent (.travelSource new.source) else s

/-- The speed unit after the withheld count has been passed on: while no hold stands, the credit is kept as one that a hold
beginning at this timebase count still takes (R16, notes/assumptions/39.md). -/
def SpeedUnit.passOn (u : SpeedUnit) (held : Bool) (now : Nat) : SpeedUnit :=
  { u with withheld := 0,
           passed := if held || u.withheld = 0 then u.passed else some { cm := u.passedAt now + u.withheld, at_ := now } }

/-- On a return to GOOD the withheld count is passed to the path unit as one credit (R15). -/
def State.releaseWithheld (s : State) : State :=
  (s.setSpeed (s.speed.passOn s.auth.hold.isSome s.now)).credit s.speed.withheld

/-- The estimate is recomputed after a wheel speed has changed value (R7): the records, the changed conditions, and on a
return to GOOD the withheld credit (R12). -/
def State.recompute (s : State) : State :=
  let old := s.speed
  let new := old.recomputed s.now
  let s := s.setSpeed new
  let s := s.logRecomputed old new
  let s := if old.v ≠ new.v then s.watchCeiling else s
  let s := s.handOn
  if old.estimate = .suspect && new.estimate = .good then s.releaseWithheld else s

/-! ## One wheel (R1 to R5) -/

/-- The speed computed from a period in microseconds (R4). -/
def wheelSpeed (circ ppr : Int) (t : Nat) : Nat := min 2500 (circ.toNat * 100000 / (ppr.toNat * t))

/-- Is an edge at `now` rejected (R1)? -/
def WheelRec.rejects (r : WheelRec) (glitchMin : Int) (now : Nat) : Bool :=
  match r.lastEdge with
  | none => false
  | some t => decide (((now - t : Nat) : Int) < glitchMin)

/-- The time since a wheel's last accepted edge. -/
def WheelRec.elapsed (r : WheelRec) (now : Nat) : Nat := now - r.lastEdge.getD now

/-- A wheel after an accepted edge (R2). -/
def WheelRec.edge (r : WheelRec) (circ ppr : Int) (now : Nat) : WheelRec :=
  match r.mode with
  | .stalled => { r with mode := .armed, lastEdge := some now, period := none, speed := 0 }
  | .armed =>
    { r with mode := .running, lastEdge := some now, period := some (r.elapsed now),
             speed := wheelSpeed circ ppr (r.elapsed now) }
  | .running =>
    { r with mode := .running, lastEdge := some now, period := some (r.elapsed now),
             speed := wheelSpeed circ ppr (r.elapsed now) }

/-- Is this wheel the travel source? -/
def TravelSource.isWheel (x : TravelSource) (w : Wheel) : Bool :=
  match x, w with
  | .rear, .rear => true
  | .frontL, .frontL => true
  | _, _ => false

/-- The travel of an accepted edge of the source wheel (R14, R15): whole centimetres are credited, or withheld. -/
def State.addTravel (w : Wheel) (s : State) : State :=
  let acc := s.speed.accumulator + (s.params.circ w).toNat
  let unit := 10 * s.params.ppr.toNat
  let cm := acc / unit
  match s.speed.estimate with
  | .good => (s.setSpeed { s.speed with accumulator := acc % unit }).credit cm
  | .suspect => s.setSpeed { s.speed with accumulator := acc % unit, withheld := s.speed.withheld + cm }

/-- A wheel speed above 0 suspends a routine that is not suspended (R104). -/
def State.suspendIfMoving (s : State) : State :=
  match s.slot with
  | .routine r => if r.held.isNone && !s.wheelsStopped then s.suspend r else s
  | .free => s
  | .service _ _ => s
  | .storeProgramming _ => s

/-- A wheel record takes a new value; a changed speed recomputes the estimate (R4, R7). -/
def State.putWheel (w : Wheel) (r : WheelRec) (s : State) : State :=
  let old := (s.speed.wheel w).speed
  let s := s.setSpeed (s.speed.setWheel w r)
  if old ≠ r.speed then s.recompute else s

/-- An accepted edge wakes a parked part while WHEEL is in WAKE_MASK (R129). -/
def State.wheelWake (s : State) : State := if s.params.wakeMask.getLsbD 0 then s.wake .wheel else s

/-- An accepted edge: waking, then the three stages of R12, then what follows from the new speed. -/
def State.acceptEdge (w : Wheel) (s : State) : State :=
  let s := s.wheelWake
  let s := if s.speed.source.isWheel w then s.addTravel w else s
  let s := s.putWheel w ((s.speed.wheel w).edge (s.params.circ w) s.params.ppr s.now)
  s.suspendIfMoving.settle

/-- WHEEL_EDGE: a rising edge on a wheel input (R1, R2, R12). -/
def execWheelEdge (dt : Nat) (w : Wheel) (s : State) : Host.Outcome State Fault Refusal :=
  let s := s.advance dt
  if (s.speed.wheel w).rejects s.params.glitchMin s.now then .next s else .next (s.acceptEdge w)

/-! ## The checks at each whole millisecond (R3, R5) -/

/-- Has a wheel in ARMED or RUNNING been without an accepted edge for more than STALL_TIME (R3)? -/
def WheelRec.stalls (r : WheelRec) (stallTime : Int) (now : Nat) : Bool :=
  r.mode ≠ .stalled && decide (msOf stallTime < r.elapsed now)

/-- Does the speed of a wheel decay at this check (R5)? A check that finds the wheel stalled makes no decay step. -/
def WheelRec.decays (r : WheelRec) (stallTime : Int) (now : Nat) : Bool :=
  r.mode = .running && !r.stalls stallTime now && r.period.any (fun t => t < r.elapsed now)

/-- DECAY_STEP: the check of R5 on one wheel, at a whole millisecond of the timebase. -/
def execDecayStep (dt : Nat) (w : Wheel) (s : State) : Host.Outcome State Fault Refusal :=
  let s := s.advance dt
  let r := s.speed.wheel w
  if s.now % 1000 = 0 && r.decays s.params.stallTime s.now then
    .next (s.putWheel w { r with speed := wheelSpeed (s.params.circ w) s.params.ppr (r.elapsed s.now) }).suspendIfMoving.settle
  else .next s

/-- STALL_EXPIRY: the check of R3 on one wheel, at a whole millisecond of the timebase. -/
def execStallExpiry (dt : Nat) (w : Wheel) (s : State) : Host.Outcome State Fault Refusal :=
  let s := s.advance dt
  let r := s.speed.wheel w
  if s.now % 1000 = 0 && r.stalls s.params.stallTime s.now then
    .next (s.putWheel w { r with mode := .stalled, period := none, speed := 0 }).settle
  else .next s

/-- SUSPECT_LIMIT in microseconds (01, "The vehicle speed estimate"). -/
def suspectLimit : Nat := 500000

/-- SUSPECT_TIMER_EXPIRY: SPEED fires and the timer stops for the rest of the stretch (R10). -/
def execSuspectTimerExpiry (dt : Nat) (s : State) : Host.Outcome State Fault Refusal :=
  let s := s.advance dt
  if s.suspect && reached s.speed.suspectSince suspectLimit s.now then
    .next (((s.setSpeed { s.speed with suspectSince := none }).fireTrip .speed .degrade).settle)
  else .next s

end Sys2Proof.Machine
end

