-- ==== Sys2Proof/Machine/ParamCommands.lean ====
section
/-! DEFINITION. The parameter set's and the calibration store's commands: GET_PARAM, SET_PARAM, SOFT_RESTART, COMMIT_CAL,
STORE_DONE, RESTORE_CAL (10; R161 in 09). -/

namespace Sys2Proof.Machine

/-! ## GET_PARAM (R165) -/

/-- GET_PARAM's own checks and answers (R165). -/
def handleGetParam : Handler := fun _ payload s =>
  match payload with
  | [b] =>
    match ParamName.ofNumber b.toNat with
    | none => refuse s .badArg []
    | some name => (s, okAnswer (b :: s.params.valueBytes name))
  | _ => refuse s .badArg []

/-- GET_PARAM: the value in the working set; it does not wake the part. -/
def execGetParam (dt : Nat) (f : Frame) (s : State) : Host.Outcome State Fault Refusal :=
  .next (s.request dt 0x03 false f handleGetParam)

/-! ## SET_PARAM (R163, R164) -/

/-- Is a parameter refused NOT_NOW unless STILL holds (R163 point 4)? -/
def ParamName.needsStill : ParamName → Bool
  | .num .wheelCircRear => true
  | .num .wheelCircFront => true
  | .num .ppr => true
  | .num .curvGain => true
  | _ => false

/-- The travel accumulator zeroed (R14, notes/assumptions/16.md). -/
def State.zeroTravel (s : State) : State := s.setSpeed { s.speed with accumulator := 0 }

/-- A combiner's stored state cleared by a write of its item (R138). -/
def State.clearStored (i : CombinerId) (s : State) : State :=
  s.setInputs (s.inputs.setCombiner i { s.inputs.combiner i with stored := false })

/-- A trip unit's timer and fired cleared by a write of its item (R140). -/
def State.clearTripUnit (u : TripUnit) (s : State) : State :=
  s.setInputs (s.inputs.setTripUnit u { since := none, fired := false })

/-- An attention line evaluated because its mask was written (R150). -/
def State.evaluateLine (p : Port) (s : State) : State :=
  s.setLog (s.log.setLine p ((s.log.line p).onMask (s.log.wants (s.params.attnMask p))))

/-- What a write makes at the write itself (R163): the changes that `State.settle` does not bring about. `demand` is the combined
combiner demand before the write (R138, notes/assumptions/32.md). -/
def State.writeEffect (name : ParamName) (demand : Bool) (s : State) : State :=
  match name with
  | .num .ppr => s.zeroTravel
  | .num _ => s
  | .mask .attnA => s.evaluateLine .a
  | .mask .attnB => s.evaluateLine .b
  | .mask .inputEvent => s
  | .mask .wake => s
  | .combiner i => (s.clearStored i).evaluateInputs false demand
  | .tripUnit u => (s.clearTripUnit u).evaluateTripUnit u

/-- The working set after a write enters use (R163). -/
def State.writeParam (name : ParamName) (p : Params) (s : State) : State := ((s.setParams p).writeEffect name s.combined).settle

/-- A SET_PARAM's number, the parameter it names and the value bytes. -/
def setArgs (payload : List Byte) : Option (Byte × ParamName × List Byte) :=
  match payload with
  | [] => none
  | b :: value => (ParamName.ofNumber b.toNat).map fun name => (b, name, value)

/-- Does store programming occupy the slot? -/
def Slot.programming : Slot → Bool
  | .storeProgramming _ => true
  | .free => false
  | .routine _ => false
  | .service _ _ => false

/-- A SET_PARAM that has passed point 1 of R163: points 2 to 4, the write, and the reply. -/
def setChecked (p : Port) (b : Byte) (name : ParamName) (value : List Byte) (new : Params) (s : State) :
    State × Answer :=
  if s.heldByOther p then refuse s .held [byteOf s.holderCode]
  else if s.slot.programming then refuseBusy s
  else if name.needsStill && !s.still then refuse s .notNow []
  else (s.writeParam name new, adjustedIf (new.valueBytes name != value) (b :: new.valueBytes name))

/-- SET_PARAM's own checks and answers, in the order of R163. -/
def handleSetParam : Handler := fun p payload s =>
  match setArgs payload with
  | none => refuse s .badArg []
  | some (b, name, value) =>
    match s.params.write name value with
    | none => refuse s .badArg []
    | some new => setChecked p b name value new s

/-- SET_PARAM: one parameter of the working set written, clamped to its range and its couplings. -/
def execSetParam (dt : Nat) (f : Frame) (s : State) : Host.Outcome State Fault Refusal :=
  .next (s.request dt 0x04 true f handleSetParam)

/-! ## SOFT_RESTART (R161) -/

/-- The restart, block by block in the order of R161. -/
def State.softRestart (s : State) : State :=
  (((((s.endHold .restart).abortSession).axesOff).seedAll).logEvent .startSoft).settle

/-- SOFT_RESTART's own checks and answers. -/
def handleSoftRestart : Handler := fun _ payload s =>
  if !payload.isEmpty then refuse s .badArg []
  else if s.slot.programming then refuseBusy s
  else (s.softRestart, okAnswer [])

/-- SOFT_RESTART: the hold ends, both axes go OFF, the setpoints are seeded, START is logged. -/
def execSoftRestart (dt : Nat) (f : Frame) (s : State) : Host.Outcome State Fault Refusal :=
  .next (s.request dt 0x11 true f handleSoftRestart)

/-! ## COMMIT_CAL and STORE_DONE (R167) -/

/-- Programming starts: the slot is taken, and USER does not pass its check. -/
def State.startProgramming (s : State) : State :=
  (s.setStore { s.store with user := { s.store.user with passes := false } }).setSlot (.storeProgramming s.now)

/-- COMMIT_CAL's own checks and answers. -/
def handleCommitCal : Handler := fun _ payload s =>
  if !payload.isEmpty then refuse s .badArg []
  else if !s.slot.isFree then refuseBusy s
  else (s.startProgramming, okAnswer [])

/-- COMMIT_CAL: programming of USER starts. -/
def execCommitCal (dt : Nat) (f : Frame) (s : State) : Host.Outcome State Fault Refusal :=
  .next (s.request dt 0x40 true f handleCommitCal)

/-- The 60 ms of programming (R167), in microseconds. -/
def programmingTime : Nat := 60000

/-- Has programming lasted its 60 ms? -/
def State.programmed (s : State) : Bool :=
  match s.slot with
  | .storeProgramming t => decide (t + programmingTime ≤ s.now)
  | .free => false
  | .routine _ => false
  | .service _ _ => false

/-- The store after the read-back compare. -/
def CalStore.compared (c : CalStore) (p : Params) (matched : Bool) : CalStore :=
  if matched then { c with user := { set := p, passes := true }, source := .user } else c

/-- Programming ends with its read-back compare; STORE_DONE is logged and the slot freed (R167). -/
def State.endProgramming (matched : Bool) (s : State) : State :=
  ((s.setStore (s.store.compared s.params matched)).logEvent (.storeDone matched)).setSlot .free

/-- STORE_DONE: 60 ms after its start programming ends (R167). The operand is what the read-back compare finds
(notes/assumptions/18.md). -/
def execStoreDone (dt : Nat) (matched : Bool) (s : State) : Host.Outcome State Fault Refusal :=
  let s := s.advance dt
  if s.programmed then .next (s.endProgramming matched) else .next s

/-! ## RESTORE_CAL (R168, R166) -/

/-- A set enters the working set and every item takes effect as if written (R166). The manual gives no order of these effects;
the model clears the three stored states and the two timers, evaluates combiners and trip units on the conditions as they were
last handed on, lets the latch controller hear where the combined demand is no longer that before the load
(notes/assumptions/32.md), and takes the conditions that the new V_ENG and LEAN_LIMIT change in the settling after
(notes/assumptions/35.md). -/
def State.load (p : Params) (s : State) : State :=
  let demand := s.combined
  let s := (s.setParams p.loaded).zeroTravel
  let s := ((s.clearStored .c0).clearStored .c1).clearStored .c2
  let s := (s.clearTripUnit .t1).clearTripUnit .t2
  ((s.evaluateInputs false demand).evaluateLine .a).evaluateLine .b

/-- FACTORY is loaded, and is the calibration source. -/
def State.restore (s : State) : State :=
  ((s.setStore { s.store with source := .factory }).load s.store.factory.set).settle

/-- RESTORE_CAL's own checks and answers, in the order of R168. -/
def handleRestoreCal : Handler := fun p payload s =>
  if !payload.isEmpty then refuse s .badArg []
  else if !s.slot.isFree then refuseBusy s
  else if s.heldByOther p then refuse s .held [byteOf s.holderCode]
  else if !(s.still && s.store.factory.passes) then refuse s .notNow []
  else (s.restore, okAnswer [])

/-- RESTORE_CAL: FACTORY is loaded into the working set. -/
def execRestoreCal (dt : Nat) (f : Frame) (s : State) : Host.Outcome State Fault Refusal :=
  .next (s.request dt 0x41 true f handleRestoreCal)

end Sys2Proof.Machine
end

