-- ==== Sys2Proof/Machine/Parking.lean ====
section
/-! DEFINITION. Parking: PARK, KEY_OFF_EXPIRY, AUTO_PARK (06, "Run states"). -/

namespace Sys2Proof.Machine

/-- The conditions that PARK and the auto-park share (R126, R128). -/
def State.parkable (s : State) : Bool :=
  s.latch.run = .run && s.still && s.latch.state = .engaged && s.slot.isFree && s.grade ≠ .lockdown

/-- PARK's own checks and answers (R126). -/
def handlePark : Handler := fun _ payload s =>
  if !payload.isEmpty then refuse s .badArg []
  else if s.parkable && s.auth.hold.isNone then (s.parkNow, okAnswer [])
  else refuse s .notNow []

/-- PARK: both axes OFF, the run state PARKED. -/
def execPark (dt : Nat) (f : Frame) (s : State) : Host.Outcome State Fault Refusal :=
  .next (s.request dt 0x12 true f handlePark)

/-- The 2000 ms of the key-off time (R128), in microseconds. -/
def keyOffLimit : Nat := 2000000

/-- KEY_OFF_EXPIRY: an auto-park becomes pending (R128). -/
def execKeyOffExpiry (dt : Nat) (s : State) : Host.Outcome State Fault Refusal :=
  let s := s.advance dt
  if reached s.latch.keyOffSince keyOffLimit s.now then
    .next (s.setLatchUnit { s.latch with autoPark := true })
  else .next s

/-- Does a pending auto-park park now (R128)? -/
def State.autoParks (s : State) : Bool := s.latch.autoPark && s.parkable

/-- AUTO_PARK: any hold ends with reason PARK, and the part parks (R128). -/
def execAutoPark (dt : Nat) (s : State) : Host.Outcome State Fault Refusal :=
  let s := s.advance dt
  if s.autoParks then .next (s.endHold .park).parkNow else .next s

end Sys2Proof.Machine
end

