-- ==== Sys2Proof/Machine/Path.lean ====
section
/-! DEFINITION. The path unit's commands: OVERSPEED_EXPIRY, the four LOAD_PATH rows, FLUSH_PATH (03). -/

namespace Sys2Proof.Machine

/-- The 200 ms of the speed ceiling timer (R56), in microseconds. -/
def overspeedLimit : Nat := 200000

/-- OVERSPEED_EXPIRY: the speed ceiling timer reaches 200 ms, and the hold ends (R56, R57). -/
def execOverspeedExpiry (dt : Nat) (s : State) : Host.Outcome State Fault Refusal :=
  let s := s.advance dt
  if reached s.path.ceilingSince overspeedLimit s.now then .next (s.endHold .overspeed).settle else .next s

/-! ## LOAD_PATH (R58 to R65) -/

/-- The three counts that every LOAD_PATH reply carries (R59). -/
def PathUnit.counts (u : PathUnit) : List Byte :=
  [byteOf u.queue.length, byteOf u.staging.length, byteOf (bit u.batchOpen 0)]

/-- A LOAD_PATH answer from the state after the request. -/
def loadAnswer (s : State) (status : Status) (more : List Byte) : State × Answer :=
  (s, { status := status, payload := s.path.counts ++ more })

/-- The staging area discarded (R58). -/
def State.discardStaging (s : State) : State := s.setPath { s.path with staging := [], batchOpen := false }

/-- Checks 1 to 3 of R59, then the batch position's own handling of the frame's segments. -/
def loadPath (act : List ReadSegment → State → State × Answer) : Handler := fun p payload s =>
  if !s.holds p then loadAnswer s .notHolder []
  else if s.axisBusy then loadAnswer s .notNow []
  else
    match readSegments payload with
    | none => loadAnswer s.discardStaging .badArg []
    | some segs => act segs s

/-- Was a value of the frame clamped (R45)? -/
def anyClamped (segs : List ReadSegment) : Bool := segs.any (fun r => r.clamped)

/-- The status of a LOAD_PATH that is carried out (R45). -/
def loadStatus (segs : List ReadSegment) : Status := if anyClamped segs then .adjusted else .ok

/-- The frame's segments staged behind those already staged. -/
def State.stage (segs : List ReadSegment) (s : State) : State :=
  s.setPath { s.path with staging := s.path.staging ++ segs.map (·.seg), batchOpen := true }

/-- FULL, naming STAGING and what it had free; the staging area is discarded (R64). -/
def stagingFull (s : State) : State × Answer :=
  loadAnswer s.discardStaging .full [byteOf 1, byteOf (8 - s.path.staging.length)]

/-- A commit of a batch (R65): appended whole, or refused FULL naming QUEUE; the staging area is emptied either way. -/
def commitBatch (batch : List Segment) (status : Status) (s : State) : State × Answer :=
  let free := 16 - s.path.queue.length
  if batch.length ≤ free then loadAnswer (s.discardStaging.appendSegments batch) status []
  else loadAnswer s.discardStaging .full [byteOf 2, byteOf free]

/-- Position FIRST (R60). -/
def loadFirst (segs : List ReadSegment) (s : State) : State × Answer :=
  loadAnswer (s.discardStaging.stage segs) (loadStatus segs) []

/-- Position MIDDLE (R61, R64). -/
def loadMiddle (segs : List ReadSegment) (s : State) : State × Answer :=
  if !s.path.batchOpen then loadAnswer s .notNow []
  else if 8 < s.path.staging.length + segs.length then stagingFull s
  else loadAnswer (s.stage segs) (loadStatus segs) []

/-- Position LAST (R62, R64). -/
def loadLast (segs : List ReadSegment) (s : State) : State × Answer :=
  if !s.path.batchOpen then loadAnswer s .notNow []
  else if 8 < s.path.staging.length + segs.length then stagingFull s
  else commitBatch (s.path.staging ++ segs.map (·.seg)) (loadStatus segs) s

/-- Position ONLY (R63). -/
def loadOnly (segs : List ReadSegment) (s : State) : State × Answer :=
  commitBatch (segs.map (·.seg)) (loadStatus segs) s

/-- LOAD_PATH_FIRST: the frame's payload is the position byte 0, then these bytes. -/
def execLoadPathFirst (dt : Nat) (f : Frame) (s : State) : Host.Outcome State Fault Refusal :=
  if 37 < f.payload.length then .next ((s.advance dt).rxHunt f.port)
  else .next (s.request dt 0x22 true f (loadPath loadFirst))

/-- LOAD_PATH_MIDDLE: the frame's payload is the position byte 1, then these bytes. -/
def execLoadPathMiddle (dt : Nat) (f : Frame) (s : State) : Host.Outcome State Fault Refusal :=
  if 37 < f.payload.length then .next ((s.advance dt).rxHunt f.port)
  else .next (s.request dt 0x22 true f (loadPath loadMiddle))

/-- LOAD_PATH_LAST: the frame's payload is the position byte 2, then these bytes. -/
def execLoadPathLast (dt : Nat) (f : Frame) (s : State) : Host.Outcome State Fault Refusal :=
  if 37 < f.payload.length then .next ((s.advance dt).rxHunt f.port)
  else .next (s.request dt 0x22 true f (loadPath loadLast))

/-- LOAD_PATH_ONLY: the frame's payload is the position byte 3, then these bytes. -/
def execLoadPathOnly (dt : Nat) (f : Frame) (s : State) : Host.Outcome State Fault Refusal :=
  if 37 < f.payload.length then .next ((s.advance dt).rxHunt f.port)
  else .next (s.request dt 0x22 true f (loadPath loadOnly))

/-- A LOAD_PATH with its position byte still in the payload; a position that does not exist is malformed (R59). -/
def handleLoadPath : Handler := fun p payload s =>
  match payload with
  | b :: rest =>
    match b.toNat with
    | 0 => loadPath loadFirst p rest s
    | 1 => loadPath loadMiddle p rest s
    | 2 => loadPath loadLast p rest s
    | 3 => loadPath loadOnly p rest s
    | _ => loadPath (fun _ s => loadAnswer s.discardStaging .badArg []) p [] s
  | [] => loadPath (fun _ s => loadAnswer s.discardStaging .badArg []) p [] s

/-! ## FLUSH_PATH (R66) -/

/-- The queue and the staging area emptied; a source PATH becomes DRY on the present k_path with PATH_DRY. -/
def State.flush (s : State) : State :=
  match s.path.queue with
  | [] => s.discardStaging
  | _ :: _ =>
    (s.setPath { s.path with queue := [], pos := 0, staging := [], batchOpen := false, held := some s.path.kPath,
                             dryCount := 0, ceilingSince := none }).logEvent (.pathDry true)

/-- FLUSH_PATH's own checks and answer (R66). -/
def handleFlushPath : Handler := fun p payload s =>
  if !payload.isEmpty then refuse s .badArg []
  else if !s.holds p then refuse s .notHolder []
  else (s.flush, okAnswer [byteOf s.path.queue.length, byteOf s.path.staging.length])

/-- FLUSH_PATH: the holder empties the queue and the staging area. -/
def execFlushPath (dt : Nat) (f : Frame) (s : State) : Host.Outcome State Fault Refusal :=
  .next (s.request dt 0x23 true f handleFlushPath)

end Sys2Proof.Machine
end

