-- ==== Sys2Proof/Machine/Link.lean ====
section
/-! DEFINITION. The link ports' commands: STATUS, UNKNOWN, RECEIVED_CHARACTER, FRAME_ABANDON, FRAME_GAP_TIMEOUT,
PORT_OVERRUN, REPLY_SENT (09). -/

namespace Sys2Proof.Machine

/-! ## STATUS (R162) and dispatch by kind (R158) -/

/-- STATUS' own check and answer. -/
def handleStatus : Handler := fun _ payload s =>
  if !payload.isEmpty then refuse s .badArg [] else (s, okAnswer s.statusRecord)

/-- STATUS: the status record; it does not wake the part. -/
def execStatus (dt : Nat) (f : Frame) (s : State) : Host.Outcome State Fault Refusal :=
  .next (s.request dt 0x01 false f handleStatus)

/-- The answer to a kind that is not a request (R158 step 2). -/
def handleUnknown : Handler := fun _ _ s => refuse s .unknown []

/-- What a kind of frame is: whether it wakes a parked part, and what its owner does (09, "Requests and replies"). -/
def handlerOf (kind : Nat) : Bool × Handler :=
  match kind with
  | 0x01 => (false, handleStatus)
  | 0x02 => (false, handleReadEvents)
  | 0x03 => (false, handleGetParam)
  | 0x04 => (true, handleSetParam)
  | 0x10 => (true, handleEnable)
  | 0x11 => (true, handleSoftRestart)
  | 0x12 => (true, handlePark)
  | 0x13 => (true, handleClearTrip)
  | 0x14 => (true, handleLockDemand)
  | 0x20 => (true, handleTakeHold)
  | 0x21 => (true, handleDropHold)
  | 0x22 => (true, handleLoadPath)
  | 0x23 => (true, handleFlushPath)
  | 0x30 => (true, handleStartRoutine)
  | 0x31 => (true, handleSuspendRoutine)
  | 0x32 => (true, handleResumeRoutine)
  | 0x33 => (true, handleAbortRoutine)
  | 0x34 => (false, handleReadResult)
  | 0x38 => (true, handleEnterService)
  | 0x39 => (true, handleServiceDrive)
  | 0x3A => (true, handleLeaveService)
  | 0x40 => (true, handleCommitCal)
  | 0x41 => (true, handleRestoreCal)
  | _ => (false, handleUnknown)

/-- UNKNOWN: a frame whose kind is not a request, answered UNKNOWN without waking the part. A kind that is a request is
no such frame and goes to its owner. -/
def execUnknown (dt : Nat) (kind : Byte) (f : Frame) (s : State) : Host.Outcome State Fault Refusal :=
  .next (s.request dt kind (handlerOf kind.toNat).1 f (handlerOf kind.toNat).2)

/-! ## The receiver (R153, R154, R156) -/

/-- Has the gap inside a frame grown beyond 2 ms at `now` (R156)? -/
def PortRec.gapped (r : PortRec) (now : Nat) : Bool := r.rx ≠ .hunt && decide (r.lastEnd + 2000 < now)

/-- A character takes 44 us, so one that ends now began 44 us ago: did it come too late for its frame (R153, R156)? -/
def PortRec.late (r : PortRec) (now : Nat) : Bool := r.rx ≠ .hunt && decide (r.lastEnd + 2044 < now)

/-- Is a byte an N that a frame can have (R154)? -/
def validLength (n : Byte) : Bool := 2 ≤ n.toNat && n.toNat ≤ 40

/-- The CRC that the frame under reception must end with (R155). -/
def PortRec.crc (r : PortRec) : Byte := crc8 (r.need :: r.body)

/-- The receiver after a byte that neither completes nor abandons a frame, at its end `now` (R154). -/
def PortRec.take (r : PortRec) (b : Byte) (now : Nat) : PortRec :=
  match r.rx with
  | .hunt => if b = 0x5A#8 then { r with rx := .length, need := 0, body := [], lastEnd := now }
             else { r with lastEnd := now }
  | .length => { r with rx := .body, need := b, body := [], lastEnd := now }
  | .body =>
    { r with rx := if r.need.toNat ≤ r.body.length + 1 then .check else .body, body := r.body ++ [b], lastEnd := now }
  | .check => r

/-- A frame with a matching CRC goes to the holding place, and to its owner by its kind (R154, R157, R158). -/
def State.complete (p : Port) (s : State) : State :=
  match (s.port p).body with
  | kind :: ref :: payload =>
    s.deliver kind (handlerOf kind.toNat).1 { port := p, ref := ref, payload := payload } (handlerOf kind.toNat).2
  | _ => s.rxHunt p

/-- A byte reaches a receiver whose frame, if it has one, is not abandoned for its gap. -/
def State.receive (p : Port) (b : Byte) (s : State) : State :=
  let r := s.port p
  match r.rx with
  | .hunt => s.setPort p (r.take b s.now)
  | .length => if validLength b then s.setPort p (r.take b s.now) else s.rxHunt p
  | .body => s.setPort p (r.take b s.now)
  | .check => if b = r.crc then s.complete p else s.rxHunt p

/-- A character reaches a receiver: its parity and its stop bit are checked. A character error abandons the frame under
reception, and in HUNT it is discarded with its byte (R153, R156). -/
def State.receiveCharacter (p : Port) (c : Character) (s : State) : State :=
  if c.good then s.receive p c.data else s.rxHunt p

/-- RECEIVED_CHARACTER: a character ends on a port (R153, R154). One that began more than 2 ms after the one before it
finds its frame abandoned (R156). -/
def execReceivedCharacter (dt : Nat) (p : Port) (c : Character) (s : State) : Host.Outcome State Fault Refusal :=
  let s := s.advance dt
  if (s.port p).late s.now then .next ((s.rxHunt p).receiveCharacter p c) else .next (s.receiveCharacter p c)

/-- Does the cause abandon the frame that the receiver has (R156)? -/
def PortRec.abandons (r : PortRec) (cause : AbandonCause) : Bool :=
  match cause with
  | .characterError c => r.rx ≠ .hunt && !c.good
  | .badLength n => r.rx = .length && !validLength n
  | .badCrc c => r.rx = .check && c ≠ r.crc

/-- FRAME_ABANDON: the frame is discarded without a reply and the receiver returns to HUNT (R156). In HUNT there is no
frame: the character is discarded and the receiver stays. -/
def execFrameAbandon (dt : Nat) (p : Port) (cause : AbandonCause) (s : State) : Host.Outcome State Fault Refusal :=
  let s := s.advance dt
  if (s.port p).abandons cause then .next (s.rxHunt p) else .next s

/-- FRAME_GAP_TIMEOUT: more than 2 ms have passed inside a frame, and it is abandoned (R156). -/
def execFrameGapTimeout (dt : Nat) (p : Port) (s : State) : Host.Outcome State Fault Refusal :=
  let s := s.advance dt
  if (s.port p).gapped s.now then .next (s.rxHunt p) else .next s

/-! ## The holding place (R157, R159) -/

/-- PORT_OVERRUN: a complete frame finds the holding place occupied and is discarded (R157). On an empty place there is no
overrun. -/
def execPortOverrun (dt : Nat) (p : Port) (s : State) : Host.Outcome State Fault Refusal :=
  let s := s.advance dt
  if (s.port p).place.isSome then .next ((s.rxHunt p).logEvent (.portOverrun p)) else .next s

/-- The time the characters of a reply take: six bytes around its payload, 44 us each (R153; 09, "Frames"). -/
def Held.sendTime (h : Held) : Nat := 44 * (6 + h.answer.payload.length)

/-- Can the last byte of the reply have been sent by `now`? No reply begins before its request is complete (R159,
notes/assumptions/19.md). -/
def PortRec.replyOver (r : PortRec) (now : Nat) : Bool := r.place.any (fun h => decide (h.at_ + h.sendTime ≤ now))

/-- REPLY_SENT: the last byte of the reply is sent, and the transmitter and the holding place become empty (R157). -/
def execReplySent (dt : Nat) (p : Port) (s : State) : Host.Outcome State Fault Refusal :=
  let s := s.advance dt
  if (s.port p).replyOver s.now then .next (s.setPort p { s.port p with place := none, tx := [] }) else .next s

end Sys2Proof.Machine
end

