-- ==== Sys2Proof/Machine/Solve.lean ====
section
/-! DEFINITION. The balance solve: SOLVE_PERIOD (02). -/

namespace Sys2Proof.Machine

/-- Stage 1: the acceleration ceiling (R21). -/
def ceilingA (p : Params) (g : Grade) : Nat := if g = .none then p.aMax.toNat else p.aSafe.toNat

/-- Stage 2: the curvature ceiling (R22). -/
def kMax (kGeom : Int) (a v : Nat) : Nat := if v = 0 then kGeom.toNat else min kGeom.toNat (a * 10000 / (v * v))

/-- Stage 3: the lateral acceleration (R24). -/
def lateral (v : Nat) (kc : Int) : Nat := v * v * kc.natAbs / 10000

/-- Stage 4: the lean magnitude, interpolated in the lean table (R25). -/
def leanMagnitude (p : Params) (a : Nat) : Int :=
  let i := a / 1250
  let f := a % 1250
  if 8 ≤ i then p.lean 8
  else p.lean i + ((p.lean (i + 1) - p.lean i) * f + 625) / 1250

/-- Stage 4: the magnitude with the sign of k_c (R26). -/
def signedLean (kc m : Int) : Int := if kc = 0 then 0 else if 0 < kc then m else -m

/-- Stage 6: is the lean held upright (R29)? -/
def State.gated (s : State) : Bool := s.latch.state ≠ .released || s.slow || s.grade = .lockdown

/-- Stage 7: the steer target (R30). -/
def steerTarget (kc gain steerMax : Int) : Int := clampSym steerMax (roundDiv (kc * 65536) gain)

/-- One rate-limited step (R31). -/
def rateStep (s t r : Int) : Int := if mag (t - s) ≤ r then t else if s < t then s + r else s - r

/-- Stage 8: the lean setpoint by the latch state (R32, R33). -/
def leanSetpoint (l : LatchState) (phiS phiT captured meas rate : Int) : Int :=
  match l with
  | .engaged => meas
  | .jammed => meas
  | .releasePreload => captured
  | .releasing => captured
  | .released => rateStep phiS phiT rate
  | .engaging => rateStep phiS phiT rate
  | .unlatchedFault => rateStep phiS phiT rate

/-- Stage 8: the steer setpoint by the steer axis mode (R34). -/
def steerSetpoint (m : AxisMode) (deltaS deltaT meas rate : Int) : Int :=
  match m with
  | .off => meas
  | .track => rateStep deltaS deltaT rate
  | .routine => rateStep deltaS deltaT rate
  | .service => rateStep deltaS deltaT rate

/-- Every stage of a period computed from the state as its snapshot (R19 to R34, R44). -/
def State.solved (s : State) : SolveUnit :=
  let p := s.params
  let kd := s.demand
  let kmax : Int := kMax p.kGeom (ceilingA p s.grade) s.speed.v
  let kc := clampSym kmax kd
  let a := lateral s.speed.v kc
  let phiRaw := signedLean kc (leanMagnitude p a) + s.camber
  let phiLim := clampSym p.leanLimit phiRaw
  let phiT := if s.gated then 0 else phiLim
  let deltaT := steerTarget kc p.curvGain p.steerMax
  { s.solve with
    kc := kc, a := a, phiT := phiT, deltaT := deltaT,
    curvLimited := kc != kd, leanLimited := phiLim != phiRaw, upright := s.gated,
    phiS := leanSetpoint s.latch.state s.solve.phiS phiT s.solve.captured s.tilt.meas p.leanRate,
    deltaS := steerSetpoint s.steer.mode s.solve.deltaS deltaT s.steer.meas p.steerRate }

/-- Is a period due? Periods start every 2 ms in RUN (R18). -/
def State.periodNow (s : State) : Bool := s.latch.run = .run && decide (s.solve.periodDue ≤ s.now)

/-- SOLVE_PERIOD: one period, taken whole (R19, R20). The lean setpoint reaches the latch controller's engage
conditions. -/
def execSolvePeriod (dt : Nat) (s : State) : Host.Outcome State Fault Refusal :=
  let s := s.advance dt
  if s.periodNow then
    .next (s.setSolve { s.solved with periodDue := s.solve.periodDue + 2000 }).settle
  else .next s

end Sys2Proof.Machine
end

