-- ==== Sys2Proof/Machine/Clock.lean ====
section
/-! DEFINITION. The clock of an idle part: what the step does when no command waits (notes/assumptions/3.md). Time moves on
by one count of the timebase, and the commands that the part's own clock and its sampled pins present at that count are put
into the queue. -/

namespace Sys2Proof.Machine

/-- A command that is presented when a condition holds. -/
def presentIf (b : Bool) (c : Instr) : List Instr := if b then [c] else []

/-- The checks of R3 and R5 that do something on a wheel at this count. -/
def State.wheelEvents (s : State) (w : Wheel) : List Instr :=
  presentIf ((s.speed.wheel w).decays s.params.stallTime s.now) (.decayStep 0 w) ++
    presentIf ((s.speed.wheel w).stalls s.params.stallTime s.now) (.stallExpiry 0 w)

/-- The samples of a whole millisecond: handlebar, switches, confirm switch (R84, R131, R112, R130). -/
def State.millisecondEvents (s : State) : List Instr :=
  s.wheelEvents .rear ++ s.wheelEvents .frontL ++ s.wheelEvents .frontR ++
    [.handlebarSample 0 s.pins.handlebar,
      .inputChange 0 .stand s.pins.switches.stand, .inputChange 0 .seat s.pins.switches.seat,
      .inputChange 0 .brake s.pins.switches.brake, .inputChange 0 .parkbtn s.pins.switches.parkbtn,
      .inputChange 0 .lift s.pins.switches.lift, .inputChange 0 .key s.pins.switches.key,
      if s.latch.first.isSome then .firstConfirmDebounce 0 s.pins.closed else .confirmEdge 0 s.pins.closed]

/-- The samples of the two angle sensors (R88). -/
def State.angleEvents (s : State) : List Instr :=
  [.axisSample 0 .tilt s.pins.tilt, .axisSample 0 .steer s.pins.steer]

/-- The periodic events of this count. -/
def State.periodicEvents (s : State) : List Instr :=
  (if s.now % 1000 = 0 then s.millisecondEvents else []) ++
    (if s.now % 500 = 0 then s.angleEvents else []) ++ presentIf s.periodNow (.solvePeriod 0)

/-- The expiries of the speed, path and authority units. -/
def State.demandExpiries (s : State) : List Instr :=
  presentIf (s.suspect && reached s.speed.suspectSince suspectLimit s.now) (.suspectTimerExpiry 0) ++
    presentIf (reached s.path.ceilingSince overspeedLimit s.now) (.overspeedExpiry 0) ++
    presentIf s.silent (.silenceExpiry 0) ++ presentIf s.takenOver (.takeoverExpiry 0) ++
    presentIf (reached s.auth.dropoutSince dropoutLimit s.now) (.handlebarDropoutExpiry 0)

/-- The expiries of the axes and of the slot's occupant. -/
def State.axisExpiries (s : State) : List Instr :=
  presentIf (s.trackFires .tilt) (.trackingExpiry 0 .tilt) ++
    presentIf (s.trackFires .steer) (.trackingExpiry 0 .steer) ++
    presentIf s.sweepDone.isSome (.sweepStopFound 0) ++ presentIf s.phaseOverdue.isSome (.phaseTimeout 0) ++
    presentIf s.rampDue.isSome (.rampStep 0) ++ presentIf s.pushDone.isSome (.pushPhaseEnd 0) ++
    presentIf s.serviceLapsed.isSome (.serviceDriveExpiry 0)

/-- The expiries of the latch controller. -/
def State.latchExpiries (s : State) : List Instr :=
  presentIf (s.latch.state = .releasePreload && dueBy s.latch.preloadEnd s.now) (.preloadExpiry 0) ++
    presentIf (s.pulseDue .pullIn).isSome (.pullinEnd 0) ++ presentIf (s.pulseDue .hold).isSome (.pulseEnd 0) ++
    presentIf s.windowDue.isSome (.confirmWindowClose 0) ++ presentIf s.pauseDue.isSome (.attemptPauseEnd 0) ++
    presentIf (!s.latch.autoPark && reached s.latch.keyOffSince keyOffLimit s.now) (.keyOffExpiry 0) ++
    presentIf s.autoParks (.autoPark 0)

/-- Does the answer in a port's holding place end at this count? The start of the reply is a free value within 1 ms of the
delivery (R159, notes/assumptions/19.md). -/
def State.replyEnds (s : State) (p : Port) : Bool :=
  (s.port p).place.any (fun h =>
    decide (h.at_ + min 1000 (Config.replyDelay (portCode p) h.at_) + h.sendTime ≤ s.now))

/-- The events of a port's own clock. The gap of R156 lasts until the next character starts, and a character that started in
time has ended 44 us later: only then does the clock know that none did (notes/assumptions/20.md). -/
def State.portEvents (s : State) (p : Port) : List Instr :=
  presentIf ((s.port p).late s.now) (.frameGapTimeout 0 p) ++ presentIf (s.replyEnds p) (.replySent 0 p) ++
    presentIf (dueBy (s.log.line p).gapEnd s.now) (.rearmGapEnd 0 p)

/-- The expiries of the trip units, of store programming and of the ports. The idle clock takes the read-back to match
(notes/assumptions/18.md). -/
def State.otherExpiries (s : State) : List Instr :=
  presentIf (s.tripUnitFires .t1) (.tripUnitExpiry 0 .t1) ++ presentIf (s.tripUnitFires .t2) (.tripUnitExpiry 0 .t2) ++
    presentIf s.programmed (.storeDone 0 true) ++ s.portEvents .a ++ s.portEvents .b

/-- Everything that the clock presents at this count, in the order in which it is taken. -/
def State.clockEvents (s : State) : List Instr :=
  s.periodicEvents ++ s.demandExpiries ++ s.axisExpiries ++ s.latchExpiries ++ s.otherExpiries

/-- The first handlebar sample, which the part takes as it starts (R87): a sensor that is absent then fires HANDLEBAR 100 ms
after the FULL reset. -/
def State.startSample (s : State) : State := if s.now = 0 then s.handlebarSampled s.pins.handlebar else s

/-- One count of the timebase with no command waiting. -/
def State.tick (s : State) : State :=
  let s := s.startSample.advance 1
  s.setPending s.clockEvents

end Sys2Proof.Machine
end

