-- ==== Sys2Proof/Machine/Startup.lean ====
section
/-! DEFINITION. Start-up: FULL_RESET (R169 and the "after a FULL reset" of every chapter). -/

namespace Sys2Proof.Machine

/-- The calibration source of a start-up (R169 step 1). -/
def CalStore.startSource (c : CalStore) : CalSource :=
  if c.user.passes then .user else if c.factory.passes then .factory else .defaults

/-- The set that start-up loads (R169 step 1). -/
def CalStore.startSet (c : CalStore) : Params :=
  if c.user.passes then c.user.set else if c.factory.passes then c.factory.set else .builtin

/-- Every block at its state after a FULL reset, with the working set loaded and the first raw levels taken; the log is
empty. The queue of commands, the angle pins and the store's regions are not touched. -/
def State.cleared (l : Switches) (closed : Bool) (s : State) : State where
  pending := s.pending
  now := 0
  pins := { s.pins with switches := l, closed := closed }
  speed := .reset
  solve := .reset
  path := .empty
  auth := .reset
  tilt := .reset
  steer := .reset
  slot := .free
  latch := .reset l.key closed
  inputs := .reset l
  log := .empty
  portA := .reset
  portB := .reset
  params := s.store.startSet.loaded
  store := { s.store with source := s.store.startSource }

/-- START (FULL) is logged, then the combiners and trip units are evaluated once without COMBINER records (R169 steps 3
and 4, R138, R140). -/
def State.started (l : Switches) (closed : Bool) (s : State) : State :=
  let s := (s.cleared l closed).logEvent (.startFull s.store.startSource)
  s.evaluateInputs true s.combined

/-- FULL_RESET: power-on or the reset pin, with the raw levels that the first samples find. -/
def execFullReset (levels : Switches) (closed : Bool) (s : State) : Host.Outcome State Fault Refusal :=
  .next (s.started levels closed)

end Sys2Proof.Machine
end

