-- ==== Sys2Proof/Machine/Dispatch.lean ====
section
/-! DEFINITION. Each command goes to its meaning. -/

namespace Sys2Proof.Machine

def exec (i : Instr) (s : State) : Host.Outcome State Fault Refusal :=
  match i with
  | .fullReset levels closed => Sys2Proof.Machine.execFullReset levels closed s
  | .firstConfirmDebounce dt closed => Sys2Proof.Machine.execFirstConfirmDebounce dt closed s
  | .wheelEdge dt w => Sys2Proof.Machine.execWheelEdge dt w s
  | .decayStep dt w => Sys2Proof.Machine.execDecayStep dt w s
  | .stallExpiry dt w => Sys2Proof.Machine.execStallExpiry dt w s
  | .suspectTimerExpiry dt => Sys2Proof.Machine.execSuspectTimerExpiry dt s
  | .solvePeriod dt => Sys2Proof.Machine.execSolvePeriod dt s
  | .overspeedExpiry dt => Sys2Proof.Machine.execOverspeedExpiry dt s
  | .loadPathFirst dt f => Sys2Proof.Machine.execLoadPathFirst dt f s
  | .loadPathMiddle dt f => Sys2Proof.Machine.execLoadPathMiddle dt f s
  | .loadPathLast dt f => Sys2Proof.Machine.execLoadPathLast dt f s
  | .loadPathOnly dt f => Sys2Proof.Machine.execLoadPathOnly dt f s
  | .flushPath dt f => Sys2Proof.Machine.execFlushPath dt f s
  | .takeHold dt f => Sys2Proof.Machine.execTakeHold dt f s
  | .dropHold dt f => Sys2Proof.Machine.execDropHold dt f s
  | .silenceExpiry dt => Sys2Proof.Machine.execSilenceExpiry dt s
  | .handlebarSample dt reading => Sys2Proof.Machine.execHandlebarSample dt reading s
  | .takeoverExpiry dt => Sys2Proof.Machine.execTakeoverExpiry dt s
  | .handlebarDropoutExpiry dt => Sys2Proof.Machine.execHandlebarDropoutExpiry dt s
  | .axisSample dt x reading => Sys2Proof.Machine.execAxisSample dt x reading s
  | .trackingExpiry dt x => Sys2Proof.Machine.execTrackingExpiry dt x s
  | .enable dt f => Sys2Proof.Machine.execEnable dt f s
  | .startRoutine dt f => Sys2Proof.Machine.execStartRoutine dt f s
  | .sweepStopFound dt => Sys2Proof.Machine.execSweepStopFound dt s
  | .phaseTimeout dt => Sys2Proof.Machine.execPhaseTimeout dt s
  | .rampStep dt => Sys2Proof.Machine.execRampStep dt s
  | .pushPhaseEnd dt => Sys2Proof.Machine.execPushPhaseEnd dt s
  | .suspendRoutine dt f => Sys2Proof.Machine.execSuspendRoutine dt f s
  | .resumeRoutine dt f => Sys2Proof.Machine.execResumeRoutine dt f s
  | .abortRoutine dt f => Sys2Proof.Machine.execAbortRoutine dt f s
  | .readResult dt f => Sys2Proof.Machine.execReadResult dt f s
  | .enterService dt f => Sys2Proof.Machine.execEnterService dt f s
  | .serviceDrive dt f => Sys2Proof.Machine.execServiceDrive dt f s
  | .serviceDriveExpiry dt => Sys2Proof.Machine.execServiceDriveExpiry dt s
  | .leaveService dt f => Sys2Proof.Machine.execLeaveService dt f s
  | .confirmEdge dt closed => Sys2Proof.Machine.execConfirmEdge dt closed s
  | .preloadExpiry dt => Sys2Proof.Machine.execPreloadExpiry dt s
  | .pullinEnd dt => Sys2Proof.Machine.execPullinEnd dt s
  | .pulseEnd dt => Sys2Proof.Machine.execPulseEnd dt s
  | .confirmWindowClose dt => Sys2Proof.Machine.execConfirmWindowClose dt s
  | .attemptPauseEnd dt => Sys2Proof.Machine.execAttemptPauseEnd dt s
  | .lockDemandNone dt f => Sys2Proof.Machine.execLockDemandNone dt f s
  | .lockDemandLock dt f => Sys2Proof.Machine.execLockDemandLock dt f s
  | .lockDemandPermit dt f => Sys2Proof.Machine.execLockDemandPermit dt f s
  | .park dt f => Sys2Proof.Machine.execPark dt f s
  | .keyOffExpiry dt => Sys2Proof.Machine.execKeyOffExpiry dt s
  | .autoPark dt => Sys2Proof.Machine.execAutoPark dt s
  | .inputChange dt input level => Sys2Proof.Machine.execInputChange dt input level s
  | .tripUnitExpiry dt u => Sys2Proof.Machine.execTripUnitExpiry dt u s
  | .clearTrip dt f => Sys2Proof.Machine.execClearTrip dt f s
  | .readEvents dt f => Sys2Proof.Machine.execReadEvents dt f s
  | .rearmGapEnd dt line => Sys2Proof.Machine.execRearmGapEnd dt line s
  | .frameAbandon dt p cause => Sys2Proof.Machine.execFrameAbandon dt p cause s
  | .frameGapTimeout dt p => Sys2Proof.Machine.execFrameGapTimeout dt p s
  | .portOverrun dt p => Sys2Proof.Machine.execPortOverrun dt p s
  | .replySent dt p => Sys2Proof.Machine.execReplySent dt p s
  | .unknown dt kind f => Sys2Proof.Machine.execUnknown dt kind f s
  | .status dt f => Sys2Proof.Machine.execStatus dt f s
  | .getParam dt f => Sys2Proof.Machine.execGetParam dt f s
  | .setParam dt f => Sys2Proof.Machine.execSetParam dt f s
  | .softRestart dt f => Sys2Proof.Machine.execSoftRestart dt f s
  | .commitCal dt f => Sys2Proof.Machine.execCommitCal dt f s
  | .storeDone dt matched => Sys2Proof.Machine.execStoreDone dt matched s
  | .restoreCal dt f => Sys2Proof.Machine.execRestoreCal dt f s
  | .receivedCharacter dt p c => Sys2Proof.Machine.execReceivedCharacter dt p c s

end Sys2Proof.Machine
end

