-- ==== Sys2Proof/Laws/PerInstr.lean ====
section
/-! SUPPORT. The family FrameFits: a well-formed request carries a payload that a frame has room for (09, "Frames"). -/

namespace Sys2Proof.Laws.FrameFits

/-- The payload of a well-formed request is at most 38 bytes. -/
def Statement (i : Instr) : Prop := i.wf = true → ∀ f, i.frame? = some f → f.payload.length ≤ 38

/-- A command without a frame. -/
theorem of_none (i : Instr) (h : i.frame? = none) : Statement i := fun _ f hf => by simp [h] at hf

/-- A request with all its payload. -/
theorem of_fits (i : Instr) (f : Frame) (h : i.frame? = some f) (k : i.wf = true → f.fits = true) : Statement i :=
  fun w g hg => by
    rw [h] at hg
    cases hg
    simpa [Frame.fits] using k w

/-- A request whose row fixes its first payload byte. -/
theorem of_tailFits (i : Instr) (f : Frame) (h : i.frame? = some f) (k : i.wf = true → f.tailFits = true) :
    Statement i :=
  fun w g hg => by
    rw [h] at hg
    cases hg
    have := k w
    simp only [Frame.tailFits, decide_eq_true_eq] at this
    omega

theorem fullReset (levels : Switches) (closed : Bool) : Statement (.fullReset levels closed) := of_none _ rfl

theorem firstConfirmDebounce (dt : Nat) (closed : Bool) : Statement (.firstConfirmDebounce dt closed) := of_none _ rfl

theorem wheelEdge (dt : Nat) (w : Wheel) : Statement (.wheelEdge dt w) := of_none _ rfl

theorem decayStep (dt : Nat) (w : Wheel) : Statement (.decayStep dt w) := of_none _ rfl

theorem stallExpiry (dt : Nat) (w : Wheel) : Statement (.stallExpiry dt w) := of_none _ rfl

theorem suspectTimerExpiry (dt : Nat) : Statement (.suspectTimerExpiry dt) := of_none _ rfl

theorem solvePeriod (dt : Nat) : Statement (.solvePeriod dt) := of_none _ rfl

theorem overspeedExpiry (dt : Nat) : Statement (.overspeedExpiry dt) := of_none _ rfl

theorem loadPathFirst (dt : Nat) (f : Frame) : Statement (.loadPathFirst dt f) := of_tailFits _ f rfl id

theorem loadPathMiddle (dt : Nat) (f : Frame) : Statement (.loadPathMiddle dt f) := of_tailFits _ f rfl id

theorem loadPathLast (dt : Nat) (f : Frame) : Statement (.loadPathLast dt f) := of_tailFits _ f rfl id

theorem loadPathOnly (dt : Nat) (f : Frame) : Statement (.loadPathOnly dt f) := of_tailFits _ f rfl id

theorem flushPath (dt : Nat) (f : Frame) : Statement (.flushPath dt f) := of_fits _ f rfl id

theorem takeHold (dt : Nat) (f : Frame) : Statement (.takeHold dt f) := of_fits _ f rfl id

theorem dropHold (dt : Nat) (f : Frame) : Statement (.dropHold dt f) := of_fits _ f rfl id

theorem silenceExpiry (dt : Nat) : Statement (.silenceExpiry dt) := of_none _ rfl

theorem handlebarSample (dt : Nat) (reading : Int) : Statement (.handlebarSample dt reading) := of_none _ rfl

theorem takeoverExpiry (dt : Nat) : Statement (.takeoverExpiry dt) := of_none _ rfl

theorem handlebarDropoutExpiry (dt : Nat) : Statement (.handlebarDropoutExpiry dt) := of_none _ rfl

theorem axisSample (dt : Nat) (x : Axis) (reading : Int) : Statement (.axisSample dt x reading) := of_none _ rfl

theorem trackingExpiry (dt : Nat) (x : Axis) : Statement (.trackingExpiry dt x) := of_none _ rfl

theorem enable (dt : Nat) (f : Frame) : Statement (.enable dt f) := of_fits _ f rfl id

theorem startRoutine (dt : Nat) (f : Frame) : Statement (.startRoutine dt f) := of_fits _ f rfl id

theorem sweepStopFound (dt : Nat) : Statement (.sweepStopFound dt) := of_none _ rfl

theorem phaseTimeout (dt : Nat) : Statement (.phaseTimeout dt) := of_none _ rfl

theorem rampStep (dt : Nat) : Statement (.rampStep dt) := of_none _ rfl

theorem pushPhaseEnd (dt : Nat) : Statement (.pushPhaseEnd dt) := of_none _ rfl

theorem suspendRoutine (dt : Nat) (f : Frame) : Statement (.suspendRoutine dt f) := of_fits _ f rfl id

theorem resumeRoutine (dt : Nat) (f : Frame) : Statement (.resumeRoutine dt f) := of_fits _ f rfl id

theorem abortRoutine (dt : Nat) (f : Frame) : Statement (.abortRoutine dt f) := of_fits _ f rfl id

theorem readResult (dt : Nat) (f : Frame) : Statement (.readResult dt f) := of_fits _ f rfl id

theorem enterService (dt : Nat) (f : Frame) : Statement (.enterService dt f) := of_fits _ f rfl id

theorem serviceDrive (dt : Nat) (f : Frame) : Statement (.serviceDrive dt f) := of_fits _ f rfl id

theorem serviceDriveExpiry (dt : Nat) : Statement (.serviceDriveExpiry dt) := of_none _ rfl

theorem leaveService (dt : Nat) (f : Frame) : Statement (.leaveService dt f) := of_fits _ f rfl id

theorem confirmEdge (dt : Nat) (closed : Bool) : Statement (.confirmEdge dt closed) := of_none _ rfl

theorem preloadExpiry (dt : Nat) : Statement (.preloadExpiry dt) := of_none _ rfl

theorem pullinEnd (dt : Nat) : Statement (.pullinEnd dt) := of_none _ rfl

theorem pulseEnd (dt : Nat) : Statement (.pulseEnd dt) := of_none _ rfl

theorem confirmWindowClose (dt : Nat) : Statement (.confirmWindowClose dt) := of_none _ rfl

theorem attemptPauseEnd (dt : Nat) : Statement (.attemptPauseEnd dt) := of_none _ rfl

theorem lockDemandNone (dt : Nat) (f : Frame) : Statement (.lockDemandNone dt f) := of_tailFits _ f rfl id

theorem lockDemandLock (dt : Nat) (f : Frame) : Statement (.lockDemandLock dt f) := of_tailFits _ f rfl id

theorem lockDemandPermit (dt : Nat) (f : Frame) : Statement (.lockDemandPermit dt f) := of_tailFits _ f rfl id

theorem park (dt : Nat) (f : Frame) : Statement (.park dt f) := of_fits _ f rfl id

theorem keyOffExpiry (dt : Nat) : Statement (.keyOffExpiry dt) := of_none _ rfl

theorem autoPark (dt : Nat) : Statement (.autoPark dt) := of_none _ rfl

theorem inputChange (dt : Nat) (i : Input) (level : Bool) : Statement (.inputChange dt i level) := of_none _ rfl

theorem tripUnitExpiry (dt : Nat) (u : TripUnit) : Statement (.tripUnitExpiry dt u) := of_none _ rfl

theorem clearTrip (dt : Nat) (f : Frame) : Statement (.clearTrip dt f) := of_fits _ f rfl id

theorem readEvents (dt : Nat) (f : Frame) : Statement (.readEvents dt f) := of_fits _ f rfl id

theorem rearmGapEnd (dt : Nat) (line : Port) : Statement (.rearmGapEnd dt line) := of_none _ rfl

theorem frameAbandon (dt : Nat) (p : Port) (cause : AbandonCause) : Statement (.frameAbandon dt p cause) := of_none _ rfl

theorem frameGapTimeout (dt : Nat) (p : Port) : Statement (.frameGapTimeout dt p) := of_none _ rfl

theorem portOverrun (dt : Nat) (p : Port) : Statement (.portOverrun dt p) := of_none _ rfl

theorem replySent (dt : Nat) (p : Port) : Statement (.replySent dt p) := of_none _ rfl

theorem unknown (dt : Nat) (kind : Byte) (f : Frame) : Statement (.unknown dt kind f) := of_fits _ f rfl fun h => by
  simp only [Instr.wf, Bool.and_eq_true] at h
  exact h.1

theorem status (dt : Nat) (f : Frame) : Statement (.status dt f) := of_fits _ f rfl id

theorem getParam (dt : Nat) (f : Frame) : Statement (.getParam dt f) := of_fits _ f rfl id

theorem setParam (dt : Nat) (f : Frame) : Statement (.setParam dt f) := of_fits _ f rfl id

theorem softRestart (dt : Nat) (f : Frame) : Statement (.softRestart dt f) := of_fits _ f rfl id

theorem commitCal (dt : Nat) (f : Frame) : Statement (.commitCal dt f) := of_fits _ f rfl id

theorem storeDone (dt : Nat) (matched : Bool) : Statement (.storeDone dt matched) := of_none _ rfl

theorem restoreCal (dt : Nat) (f : Frame) : Statement (.restoreCal dt f) := of_fits _ f rfl id

theorem receivedCharacter (dt : Nat) (p : Port) (c : Character) : Statement (.receivedCharacter dt p c) := of_none _ rfl

end Sys2Proof.Laws.FrameFits
end

