-- ==== Sys2Proof/Safety.lean ====
section
/-! DEFINITION. The words in which statements about the part are said: what a command leaves alone, what it logs and
replies, and the invariants that every step keeps. -/

namespace Sys2Proof.Machine

/-! ## What a command leaves alone -/

/-- The queue, the pins, both ports and the calibration store. -/
structure SameOutside (s t : State) : Prop where
  pending : t.pending = s.pending
  pins : t.pins = s.pins
  portA : t.portA = s.portA
  portB : t.portB = s.portB
  store : t.store = s.store

/-- The speed unit, but that a hold end may discard the withheld count (R16). -/
def SameSpeed (s t : State) : Prop := t.speed = s.speed ∨ t.speed = { s.speed with withheld := 0 }

/-- The targets, k_c, a, the flags and the timing of the solve: what only a period, a reset or waking changes. -/
def SameTargets (s t : State) : Prop :=
  { t.solve with phiS := 0, deltaS := 0, captured := 0 } = { s.solve with phiS := 0, deltaS := 0, captured := 0 }

/-- The authority unit, but that the hold may have ended. -/
def SameRider (s t : State) : Prop := t.auth = s.auth ∨ t.auth = { s.auth with hold := none }

/-- The measurements of both axes and the validity of their readings. -/
def SameAngles (s t : State) : Prop :=
  t.tilt.meas = s.tilt.meas ∧ t.tilt.valid = s.tilt.valid ∧ t.steer.meas = s.steer.meas ∧ t.steer.valid = s.steer.valid

/-- The six debounced inputs. -/
def SameSwitches (s t : State) : Prop := ∀ i, t.inputs.switch i = s.inputs.switch i

/-- The set with the four parameters that routines write at 0. -/
def Params.unlearned (p : Params) : Params :=
  { p with tiltCentre := 0, steerCentre := 0, frictionTilt := 0, frictionSteer := 0 }

/-- The working set, but for the four parameters that a passing routine writes (R100, R101). -/
def SameSettings (s t : State) : Prop := t.params.unlearned = s.params.unlearned

/-- The confirm switch's debouncing, the run state, the key-off time and a pending auto-park. -/
def SameLatchClock (s t : State) : Prop :=
  t.latch.closed = s.latch.closed ∧ t.latch.differSince = s.latch.differSince ∧ t.latch.first = s.latch.first ∧
  t.latch.run = s.latch.run ∧ t.latch.keyOffSince = s.latch.keyOffSince ∧ t.latch.autoPark = s.latch.autoPark

/-- The log and the trip set only grow at their tails. -/
def OnlyGrows (s t : State) : Prop :=
  s.log.records <+: t.log.records ∧ s.inputs.trips <+: t.inputs.trips

/-- `t` differs from `s` by consequences inside the part only: conditions taken, decisions of the latch controller, trips
of the trip units, ends of holds and sessions. -/
structure Consequence (s t : State) : Prop where
  now : t.now = s.now
  outside : SameOutside s t
  speed : SameSpeed s t
  targets : SameTargets s t
  rider : SameRider s t
  angles : SameAngles s t
  switches : SameSwitches s t
  settings : SameSettings s t
  latchClock : SameLatchClock s t
  grows : OnlyGrows s t

/-- The port that a request came in on is the only one that changed. -/
def SameOtherPort (p : Port) (s t : State) : Prop := t.port (otherPort p) = s.port (otherPort p)

/-- What a request on port `p` that goes through leaves alone, beside what its own rule names: the other port, the pins, the
measurements, the debounced inputs, the solve's targets, the latch controller's clocks; the log only grows. -/
structure RequestFrame (dt : Nat) (p : Port) (s t : State) : Prop where
  now : t.now = s.now + dt
  pending : t.pending = s.pending
  pins : t.pins = s.pins
  other : SameOtherPort p s t
  targets : SameTargets s t
  angles : SameAngles s t
  switches : SameSwitches s t
  latchClock : SameLatchClock s t
  records : s.log.records <+: t.log.records
  rider : { t.auth with hold := none } = { s.auth with hold := none }

/-! ## What a command logs and replies -/

/-- The state in which the owner of a request on port `p` finds the part in RUN: the time has come, the receiver is in HUNT,
and a holder is refreshed (R154, R158 step 1). -/
def State.delivered (dt : Nat) (p : Port) (s : State) : State := ((s.advance dt).rxHunt p).refresh p

/-- The holding place of port `p` occupied, with the reply fixed now (R157, R159). -/
def State.answered (p : Port) (kind ref : Byte) (status : Status) (payload : List Byte) (s : State) : State :=
  s.occupy p { kind := kind, ref := ref, at_ := s.now, answer := { status := status, payload := payload } }

/-- These events, stamped with the present time, are the first that the log has taken since `s`, as far as the log had room
for them (R146, R147). -/
def LoggedFirst (s : State) (es : List Event) (t : State) : Prop :=
  (s.log.records ++ es.map (fun e => ({ event := e, stamp := stampOf t.now } : EventRec))).take 16 <+: t.log.records

/-- The port's holding place is occupied by a frame of this kind and reference, with this reply, and the reply's frame with its
CRC is on the transmitter (R155, R157, R159). -/
def Replied (t : State) (p : Port) (kind ref : Byte) (status : Status) (payload : List Byte) : Prop :=
  (t.port p).place =
    some { kind := kind, ref := ref, at_ := t.now, answer := { status := status, payload := payload } } ∧
  (t.port p).tx = (replyFrame kind ref { status := status, payload := payload }).map .of

/-- The request's port can deliver it, and the part is in RUN, so that delivery wakes nothing. -/
def Ready (s : State) (p : Port) : Prop := (s.port p).place = none ∧ s.latch.run = .run

/-- No trip unit is set to fire at the very change that makes its selections true (R139). -/
def Params.noInstantTrip (p : Params) : Prop := ∀ u, (p.tripUnit u).enabled = true → (p.tripUnit u).time.ms ≠ 0

/-- No routine occupies the operation slot. -/
def State.noRoutine (s : State) : Prop := s.slot.routine? = none

/-- No phase of a routine can complete because of the latch: there is no routine, it is suspended, or its phase is neither
RELEASE nor ENGAGE (R98). -/
def State.NotWaiting (s : State) : Prop := ∀ r, s.slot = .routine r → r.held ≠ none ∨ r.phase.awaits = none

/-- The combined combiner demand (R125) stands as it is while the latch moves: no combiner has the action LOCK_HOLD; or no change
of a condition waits, no combiner selects LOCKED, and each has the output and the stored state that its selections give it
(R134, R135), as the combiners of the default set have at rest. -/
def State.DemandSteady (s : State) : Prop :=
  (∀ i, (s.params.combiner i).action ≠ .lockHold) ∨
  (s.waitingChanges = [] ∧ ∀ i, (s.params.combiner i).a.cond ≠ .locked ∧ (s.params.combiner i).b.cond ≠ .locked ∧
    (s.params.combiner i).c.cond ≠ .locked ∧
    s.inputs.evaluate (s.params.combiner i) (s.inputs.combiner i) = s.inputs.combiner i)

/-- Nothing but the latch controller's own conditions can move the latch while a command settles: no trip unit is set to fire at
once (R139), the combined combiner demand, true or false, stands as it is (R125, R137), and no phase of a routine waits for the
latch (R98). -/
structure State.LatchAlone (s : State) : Prop where
  trips : s.params.noInstantTrip
  combiners : s.DemandSteady
  phases : s.NotWaiting

/-- A pulse that starts at `now` with the values of the working set (R113). -/
def Pulse.started (p : Params) (d : Direction) (now : Nat) : Pulse :=
  { direction := d, phase := .pullIn, phaseEnd := now + p.lockPullinMs.toNat * 1000, pullDuty := p.lockPullinDuty,
    holdMs := p.lockHoldMs.toNat, holdDuty := p.lockHoldDuty, lastOfFailed := false }

/-- The first attempt of a set has started at `now`: its pulse is on the coil and its confirm window is open (R113, R114). -/
def LatchUnit.AttemptOpen (l : LatchUnit) (p : Params) (d : Direction) (origin : SetOrigin) (now : Nat) : Prop :=
  l.pulse = some (Pulse.started p d now) ∧
  l.set = some { direction := d, attempt := 1, stage := .window (now + p.lockConfirmMs.toNat * 1000), origin := origin }

/-- A trip has fired: it stands behind the trips of before; a new LOCKDOWN abandons a preload; at SAFE entry TRIP and, where a
hold stood, HOLD_END (SAFE) are logged and there is no hold. The latch controller hears of the grade before the authority unit
does (R142, R143): HOLD_END follows TRIP at once save in the latch states in which a new LOCKDOWN can be acted on. -/
structure TripFired (id : TripId) (sev : Severity) (s t : State) : Prop where
  trips : s.inputs.trips ++ [{ id := id, severity := sev }] <+: t.inputs.trips
  logged : LoggedFirst s [.trip id] t
  entry : s.grade = .none → t.auth.hold = none
  ended : s.grade = .none → s.auth.hold ≠ none →
    sev = .degrade ∨ (s.latch.state ≠ .releasePreload ∧ s.latch.state ≠ .released ∧ s.latch.state ≠ .jammed) →
    LoggedFirst s [.trip id, .holdEnd .safe] t
  abandoned : s.grade ≠ .lockdown → sev = .lockdown → s.latch.state = .releasePreload → s.latch.first = none →
    LoggedFirst s (.trip id :: .lockState .engaged ::
      if s.grade = .none ∧ s.auth.hold.isSome then [.holdEnd .safe] else []) t

/-- A hold has ended for a reason, with the consequences of R80. -/
structure HoldEnded (reason : EndReason) (h : Hold) (s t : State) : Prop where
  auth : t.auth = { s.auth with hold := none }
  path : t.path = .empty
  speed : t.speed = { s.speed with withheld := 0 }
  logged : LoggedFirst s [.holdEnd reason] t
  permit : t.latch.item h.port ≠ .permit
  aborted : ∀ r, s.slot = .routine r → t.slot = .free ∧ (t.axis r.axis).result.outcome = .aborted ∧
    t.setpoint r.axis = (s.axis r.axis).meas ∧ LoggedFirst s [.holdEnd reason, .routineEnd r.axis r.kind .aborted] t
  source : t.source = .rider
  ended : ∀ x d, s.slot = .service x d → t.slot = .free ∧ t.setpoint x = (s.axis x).meas
  programming : ∀ n, s.slot = .storeProgramming n → t.slot = .storeProgramming n

/-- The drive of the position loop for an error (R90). -/
def Params.loop (p : Params) (x : Axis) (e : Int) : Int :=
  let f := if 20 < e then p.friction x else if e < -20 then -p.friction x else 0
  clampSym p.driveMax (Int.tdiv (p.kp x * e) 64 + f)

/-- What the end of a routine with an outcome leaves, by R103: its record filled, its axis in its return mode with the drive at 0
and the setpoint seeded to the measurement (R35), the slot free. -/
structure RoutineClosed (r : Routine) (o : RoutineOutcome) (s t : State) : Prop where
  slot : t.slot = .free
  mode : (t.axis r.axis).mode = returnedMode (s.axis r.axis).returnMode
  drive : (t.axis r.axis).drive = 0
  setpoint : t.setpoint r.axis = (t.axis r.axis).meas
  result : (t.axis r.axis).result = { kind := some r.kind, outcome := o, v1 := r.v1, v2 := r.v2, v3 := r.v3 }

/-- A routine has ended with an outcome, and ROUTINE_END is the first record since (R103). -/
structure RoutineEnded (r : Routine) (o : RoutineOutcome) (s t : State) : Prop extends RoutineClosed r o s t where
  logged : LoggedFirst s [.routineEnd r.axis r.kind o] t

/-- The wheel records, the median, the ODD states, the estimate, v, the suspect timer and the source fit together as a
recomputation at `now` leaves them, from a speed unit `u` before it (R7, R8, R9, R13). -/
def RecomputedFrom (now : Nat) (u v : SpeedUnit) : Prop :=
  v.median = max (min v.rear.speed v.frontL.speed) (min (max v.rear.speed v.frontL.speed) v.frontR.speed) ∧
  (∀ w, (v.wheel w).odd = decide
    (max 40 (v.median * 15 / 100) < (v.wheel w).speed - v.median + (v.median - (v.wheel w).speed))) ∧
  (v.estimate = .suspect ↔ ∃ w x, w ≠ x ∧ (v.wheel w).odd = true ∧ (v.wheel x).odd = true) ∧
  (v.estimate = .good → v.v = v.median ∧ v.suspectSince = none ∨ u.estimate = .good ∧ v.v = v.median) ∧
  (v.estimate = .suspect → v.v = u.v ∧ v.suspectSince = if u.estimate = .good then some now else u.suspectSince) ∧
  (v.source = .frontL ↔ v.rear.odd = true)

/-- The records of a recomputation that takes `u` to `v`, in the order of R12. -/
def recomputedEvents (u v : SpeedUnit) : List Event :=
  ([.rear, .frontL, .frontR].filter (fun w => (u.wheel w).odd != (v.wheel w).odd)).map
    (fun w => .wheelOdd w (v.wheel w).odd) ++
  (if u.estimate = v.estimate then [] else [.speedSuspect (v.estimate = .suspect)]) ++
  (if u.source = v.source then [] else [.travelSource v.source])

/-- Between `s` and `t` the hold and the path have taken a credit of `n` cm, and nothing else but a start or stop of the speed
ceiling timer, of which `CeilingTimed` speaks (R48, R49, R56). -/
def Credited (n : Nat) (s t : State) : Prop :=
  t.auth = (s.credit n).auth ∧ { t.path with ceilingSince := none } = { (s.credit n).path with ceilingSince := none }

/-- v is above the sum of the current segment's ceiling and OVERSPEED_MARGIN (R56). -/
def State.AboveCeiling (s : State) : Prop :=
  ∃ g rest c, s.path.queue = g :: rest ∧ g.ceiling = some c ∧ (c : Int) + s.params.overspeedMargin < s.speed.v

/-- What becomes of the speed ceiling timer between `s` and `t` (R56): it stands as it is while neither v nor the current segment
changes; at a change of v above the sum it runs on, or starts; at a change of the current segment it starts afresh where v is
above the new sum; and where v is at the sum or below it, or there is no sum, it stops. -/
structure CeilingTimed (s t : State) : Prop where
  stands : t.path.queue = s.path.queue → t.speed.v = s.speed.v → t.path.ceilingSince = s.path.ceilingSince
  runs : t.path.queue = s.path.queue → t.speed.v ≠ s.speed.v → t.AboveCeiling →
    t.path.ceilingSince = some (s.path.ceilingSince.getD t.now)
  fresh : t.path.queue ≠ s.path.queue → t.AboveCeiling → t.path.ceilingSince = some t.now
  stops : t.path.queue ≠ s.path.queue ∨ t.speed.v ≠ s.speed.v → ¬t.AboveCeiling → t.path.ceilingSince = none

/-- The records of the combiners between two input units, in the order of R137. -/
def combinerEvents (p : Params) (u v : InputUnit) : List Event :=
  ([.c0, .c1, .c2].filter (fun i => (u.combiner i).output != (v.combiner i).output && (p.combiner i).action ≠ .none)).map
    (fun i => .combiner i (v.combiner i).output)

/-- The condition of a switch input (07, "Conditions"). -/
def condOf : Input → Cond
  | .stand => .stand
  | .seat => .seat
  | .brake => .brake
  | .parkbtn => .parkbtn
  | .lift => .lift
  | .key => .key

/-- The input unit after the combiners have been evaluated in their order, each on the outputs of those before it (R136). -/
def InputUnit.evaluated (p : Params) (u : InputUnit) : InputUnit :=
  let u := { u with c0 := u.evaluate p.c0 u.c0 }
  let u := { u with c1 := u.evaluate p.c1 u.c1 }
  { u with c2 := u.evaluate p.c2 u.c2 }

/-- The input unit after condition `c` has taken the value `b` and the combiners have been evaluated (R133, R136). -/
def InputUnit.afterChange (p : Params) (c : Cond) (b : Bool) (u : InputUnit) : InputUnit :=
  ({ u with conds := u.conds.put c b } : InputUnit).evaluated p

/-- The path unit after a batch that fits is committed (R65, R55): behind a queue with a head the batch joins the tail; in an
empty queue its first segment becomes current at s = 0, the dry count is 0, the held curvature is absent, and the speed ceiling
watch starts afresh. -/
def CommittedPath (s : State) (now : Nat) (batch : List Segment) (u : PathUnit) : Prop :=
  u.staging = [] ∧ u.batchOpen = false ∧ u.queue = s.path.queue ++ batch ∧
  (s.path.queue ≠ [] ∨ batch = [] → u.pos = s.path.pos ∧ u.held = s.path.held ∧ u.dryCount = s.path.dryCount ∧
    u.ceilingSince = s.path.ceilingSince) ∧
  (s.path.queue = [] → ∀ g rest, batch = g :: rest → u.pos = 0 ∧ u.held = none ∧ u.dryCount = 0 ∧
    (u.ceilingSince = some now ∨ u.ceilingSince = none) ∧
    (u.ceilingSince = some now ↔ ∃ c, g.ceiling = some c ∧ (c : Int) + s.params.overspeedMargin < s.speed.v))

/-! ## Layouts (09, "Record layouts") -/

/-- The number of a latch state in replies and records. -/
def LatchState.number (l : LatchState) : Nat :=
  [LatchState.engaged, .releasePreload, .releasing, .released, .engaging, .jammed, .unlatchedFault].idxOf l

/-- The number of an axis in requests and records. -/
def axisNumber (x : Axis) : Nat := [Axis.tilt, .steer].idxOf x

/-- The number of a routine kind in requests and records. -/
def RoutineKind.number (k : RoutineKind) : Nat := [RoutineKind.home, .friction, .lockTest].idxOf k

/-- The number of an outcome in result records and in ROUTINE_END. -/
def RoutineOutcome.number (o : RoutineOutcome) : Nat :=
  [RoutineOutcome.none, .pass, .failSpan, .failNoMove, .failTimeout, .failSlip, .aborted].idxOf o

/-- The number of the slot's occupant (09, "The status record"). -/
def Slot.number : Slot → Nat
  | .free => 0
  | .routine r => if r.axis = .tilt then 1 else 2
  | .service x _ => if x = .tilt then 3 else 4
  | .storeProgramming _ => 5

/-- The state byte of a record that asserts or clears (09, "The event record"). -/
def onOff (on : Bool) : Nat := if on then 1 else 2

/-- The code, the state and the argument of an event (09, "The event record"). -/
def Event.fields : Event → Nat × Nat × Nat
  | .inputChange i on => (0x01, onOff on, [Input.stand, .seat, .brake, .parkbtn, .lift, .key].idxOf i)
  | .combiner i on => (0x02, onOff on, [CombinerId.c0, .c1, .c2].idxOf i)
  | .wheelOdd w on => (0x10, onOff on, [Wheel.rear, .frontL, .frontR].idxOf w)
  | .speedSuspect on => (0x11, onOff on, 0)
  | .travelSource x => (0x12, 0, [TravelSource.rear, .frontL].idxOf x)
  | .pathDone tag => (0x20, 0, tag.toNat)
  | .pathDry flushed => (0x21, 0, if flushed then 2 else 1)
  | .holdBegin p => (0x30, 0, if p = .a then 1 else 2)
  | .holdEnd r => (0x31, 0, 1 + [EndReason.dropped, .preempted, .silent, .takeover, .dry, .done, .overspeed, .safe, .restart,
      .park].idxOf r)
  | .routineEnd x k o => (0x40, 0, 128 * axisNumber x + 16 * k.number + o.number)
  | .routineSuspend x => (0x41, 0, axisNumber x)
  | .routineResume x => (0x42, 0, axisNumber x)
  | .lockState l => (0x50, 0, l.number)
  | .lockFault f => (0x51, 0, 1 + [LockFault.jammed, .unlatched, .slip, .uncommanded].idxOf f)
  | .lockLate l => (0x52, 0, l.number)
  | .trip id => (0x60, 0, 1 + [TripId.trackTilt, .trackSteer, .sensorTilt, .sensorSteer, .handlebar, .speed, .trip1,
      .trip2].idxOf id)
  | .tripClear => (0x61, 0, 0)
  | .startFull c => (0x70, 0, [CalSource.user, .factory, .defaults].idxOf c)
  | .startSoft => (0x70, 0, 128)
  | .wake x => (0x71, 0, 1 + [WakeSource.wheel, .key, .input, .link].idxOf x)
  | .portOverrun p => (0x72, 0, if p = .a then 1 else 2)
  | .storeDone pass => (0x73, 0, if pass then 1 else 2)

/-- A selection byte (09, "Result record and configuration items"; the numbers of 07, "Conditions"). -/
def Selection.layout (y : Selection) : Byte :=
  byteOf ([Cond.stand, .seat, .brake, .parkbtn, .lift, .key, .still, .slow, .suspect, .locked, .holdStands, .leanHigh, .c0,
    .c1, .c2, .true_].idxOf y.cond + 16 * y.inverted.toNat)

/-- A combiner item (09, "Result record and configuration items"). -/
def CombinerCfg.layout (x : CombinerCfg) : List Byte :=
  [x.a.layout, x.b.layout, x.c.layout,
    byteOf ([CombinerFn.never, .all, .any, .odd, .majority, .aOnly, .latch].idxOf x.fn + 8 * x.inverted.toNat +
      16 * [CombinerAction.none, .event, .lockHold].idxOf x.action)]

/-- A trip unit item with this byte 2 (09, "Result record and configuration items"). -/
def TripCfg.layout (x : TripCfg) (third : Byte) : List Byte :=
  [x.a.layout, x.b.layout, third,
    byteOf (x.enabled.toNat + 2 * [TripTime.ms0, .ms20, .ms50, .ms100, .ms200, .ms500, .ms1000, .ms2000].idxOf x.time +
      16 * [Severity.degrade, .lockdown].idxOf x.severity)]

/-- The combiner conditions that a combiner may not select: its own and those above it (R136). -/
def CombinerId.barred : CombinerId → List Cond
  | .c0 => [.c0, .c1, .c2]
  | .c1 => [.c1, .c2]
  | .c2 => [.c2]

/-- These are the segments that the bytes hold, read one behind the other to the end (R59; 09, "The segment encoding"). -/
def SegmentsRead : List Byte → List ReadSegment → Prop
  | bs, [] => bs = []
  | bs, g :: gs => ∃ rest, readSegment bs = some (g, rest) ∧ SegmentsRead rest gs

/-! ## Invariants -/

/-- The log holds at most 16 records (R147). -/
def State.LogBounded (s : State) : Prop := s.log.records.length ≤ 16

/-- Every wheel speed, the median and v lie within 0..2500 cm/s (R7). -/
def State.SpeedsBounded (s : State) : Prop :=
  (∀ w, (s.speed.wheel w).speed ≤ 2500) ∧ s.speed.median ≤ 2500 ∧ s.speed.v ≤ 2500

/-- While the estimate is GOOD, v is the median (R7). -/
def State.MedianTaken (s : State) : Prop := s.speed.estimate = .good → s.speed.v = s.speed.median

/-- A segment as R45 settles it. -/
structure Segment.Settled (g : Segment) : Prop where
  length : 10 ≤ g.length
  k0 : -500 ≤ g.k0 ∧ g.k0 ≤ 500
  k1 : -500 ≤ g.k1 ∧ g.k1 ≤ 500
  ceiling : ∀ c ∈ g.ceiling, c ≤ 2500
  trim : ∀ c ∈ g.trim, -300 ≤ c ∧ c ≤ 300

/-- The queue, the staging area, the held curvature and the speed ceiling timer are as R46, R52, R55, R56, R58 and R67 keep
them. -/
structure State.PathShape (s : State) : Prop where
  queueRoom : s.path.queue.length ≤ 16
  stagingRoom : s.path.staging.length ≤ 8
  queueSettled : ∀ g ∈ s.path.queue, g.Settled
  stagingSettled : ∀ g ∈ s.path.staging, g.Settled
  within : ∀ g rest, s.path.queue = g :: rest → s.path.pos < g.length
  unheld : s.auth.hold = none → s.path = .empty
  dry : s.auth.hold ≠ none → (s.path.queue = [] ↔ s.path.held ≠ none)
  watched : s.path.ceilingSince ≠ none → ∃ g rest c, s.path.queue = g :: rest ∧ g.ceiling = some c

/-- Is an axis in ROUTINE or SERVICE? -/
def AxisCtl.inSession (a : AxisCtl) : Prop := a.mode = .routine ∨ a.mode = .service

/-- The slot's occupant and the modes of the axes say the same (R96), a routine or service session belongs to a hold (R80),
and under a SAFE grade there is no hold (R143). -/
structure State.SessionShape (s : State) : Prop where
  routine : ∀ x, (s.axis x).mode = .routine ↔ ∃ r, s.slot = .routine r ∧ r.axis = x
  service : ∀ x, (s.axis x).mode = .service ↔ ∃ d, s.slot = .service x d
  held : (∃ x, (s.axis x).inSession) → s.auth.hold ≠ none
  safe : s.grade ≠ .none → s.auth.hold = none
  parked : s.latch.run = .parked → s.auth.hold = none ∧ s.tilt.mode = .off ∧ s.steer.mode = .off

/-- Every numeric parameter is in its range and the couplings hold (R164, R166). -/
structure Params.Valid (p : Params) : Prop where
  ranges : ∀ x : Param, x.range.1 ≤ p.get x ∧ p.get x ≤ x.range.2
  speeds : p.vEng ≤ p.vRel - 30
  ceilings : p.aSafe ≤ p.aMax
  table : 0 ≤ p.lean1 ∧ p.lean1 ≤ p.lean2 ∧ p.lean2 ≤ p.lean3 ∧ p.lean3 ≤ p.lean4 ∧ p.lean4 ≤ p.lean5 ∧
    p.lean5 ≤ p.lean6 ∧ p.lean6 ≤ p.lean7 ∧ p.lean7 ≤ p.lean8 ∧ p.lean8 ≤ 4500

/-- No trip id stands twice in the trip set (R142). -/
def State.TripsOnce (s : State) : Prop := (s.inputs.trips.map (·.id)).Nodup

/-- Less than one centimetre of travel stands in the accumulator (R14). -/
def State.TravelBounded (s : State) : Prop := s.params.Valid ∧ (s.speed.accumulator : Int) < 10 * s.params.ppr

end Sys2Proof.Machine
end

