-- ==== Sys2Proof/Certificates/Slice0/Obligations.lean ====
section
/-! DEFINITION. The statements about the part. Each is a proposition; none is proved here. -/

section Statements

open Sys2Proof Sys2Proof.Machine

/-! ## The queue and the clock -/

/-- A step takes the command at the front of the queue and runs it on the state with the queue's rest. -/
def Obligations.StepRunsTheFrontCommand : Prop :=
  ∀ (c : Instr) (rest : List Instr) (s : State), step (s.setPending (c :: rest)) = exec c (s.setPending rest)

/-- Every command is carried out in every state: none stops the part, and none touches the commands that wait. The model's
choice: that nothing stops the part (notes/assumptions/29.md), that a command comes `dt` microseconds after the one before
(notes/assumptions/1.md), and that a FULL reset starts the time again at 0 (notes/assumptions/21.md). -/
def Obligations.EveryCommandCompletes : Prop :=
  ∀ (c : Instr) (s : State), ∃ t, exec c s = .next t ∧ t.pending = s.pending ∧
    (t.now = s.now + c.delay ∨ ∃ l b, c = .fullReset l b ∧ t.now = 0)

/-- A request touches no port but the one it came in on, no pin, and no FACTORY region. -/
def Obligations.RequestsTouchOnlyTheirOwnPort : Prop :=
  ∀ (c : Instr) (f : Frame) (s t : State), c.frame? = some f → exec c s = .next t →
    SameOtherPort f.port s t ∧ t.pins = s.pins ∧ t.store.factory = s.store.factory

/-- A frame that finds its port's holding place occupied is discarded, whatever its kind: the receiver returns to HUNT and
PORT_OVERRUN is logged, and nothing else happens (R157). -/
def Obligations.OccupiedPlaceDiscardsEveryRequest : Prop :=
  ∀ (c : Instr) (f : Frame) (s : State), c.frame? = some f → c.wf = true → (s.port f.port).place ≠ none →
    exec c s = .next (((s.advance c.delay).rxHunt f.port).logEvent (.portOverrun f.port))

/-- What waking does: RUN, WAKE logged, every output of the solve seeded, its timing restarted, both dropout marks cleared, and
nothing else but what the rules of the other blocks then decide (R129, R36, R18, R87). A parked part wakes at every request but
STATUS, READ_EVENTS, GET_PARAM, READ_RESULT and unknown kinds: WAKE with source LINK is the first record that the log takes,
the solve is seeded and its next period is due 2 ms after the request, the dropout marks are cleared, and the part is in RUN
after the request, save after a PARK, which may park it again (R129, R158 step 3, R126). -/
def Obligations.OtherRequestsWakeAParkedPart : Prop :=
  (∀ (src : WakeSource) (s : State),
    s.wakeNow src =
      (((s.setLatchUnit { s.latch with run := .run }).setAuth
          { s.auth with dropoutSince := none, dropoutFired := false }).logEvent (.wake src)).setSolve
        { phiT := 0, deltaT := 0, phiS := s.tilt.meas, deltaS := s.steer.meas, kc := 0, a := 0, curvLimited := false,
          leanLimited := false, upright := false, captured := s.tilt.meas, periodDue := s.now + 2000 } ∧
    (s.latch.run = .run → s.wake src = s) ∧ (s.latch.run = .parked → s.wake src = (s.wakeNow src).settle)) ∧
  ∀ (c : Instr) (f : Frame) (s : State), c.frame? = some f → c.wf = true →
    (∀ dt, c ≠ .status dt f ∧ c ≠ .readEvents dt f ∧ c ≠ .getParam dt f ∧ c ≠ .readResult dt f) →
    (∀ dt k, c ≠ .unknown dt k f) → (s.port f.port).place = none → s.latch.run = .parked →
    ∃ t, exec c s = .next t ∧ LoggedFirst s [.wake .link] t ∧ SameOtherPort f.port s t ∧ (t.port f.port).place ≠ none ∧
      ((∀ dt, c ≠ .park dt f) → t.latch.run = .run) ∧
      t.solve = { phiT := 0, deltaT := 0, phiS := s.tilt.meas, deltaS := s.steer.meas, kc := 0, a := 0, curvLimited := false,
                  leanLimited := false, upright := false, captured := s.tilt.meas, periodDue := s.now + c.delay + 2000 } ∧
      t.auth.dropoutSince = none ∧ t.auth.dropoutFired = false

/-! ## Invariants of every step -/

/-- The event log never holds more than 16 records, and no trip id stands twice in the trip set (R147, R142). -/
def Obligations.StepKeepsTheLogAndTheTripSet : Prop :=
  ∀ s t : State, step s = .next t → (s.LogBounded → t.LogBounded) ∧ (s.TripsOnce → t.TripsOnce)

/-- Every wheel speed, the median and v stay within 0..2500 cm/s, and v stays the median while the estimate is GOOD (R7). -/
def Obligations.StepKeepsSpeedsBounded : Prop :=
  ∀ s t : State, step s = .next t → (s.SpeedsBounded → t.SpeedsBounded) ∧ (s.MedianTaken → t.MedianTaken)

/-- The queue holds at most 16 segments and the staging area at most 8, each as R45 settles it; without a hold the path unit is
empty; under a hold there is a held curvature exactly while the queue is empty; the speed ceiling timer runs only while the
current segment carries a ceiling (R46, R52, R55, R56, R58, R67). -/
def Obligations.StepKeepsThePathShape : Prop :=
  ∀ s t : State, s.PathShape → step s = .next t → t.PathShape

/-- The slot's occupant and the axis modes agree; a session belongs to a hold; under a SAFE grade there is no hold; a parked
part has no hold and both axes OFF (R71, R80, R93, R96, R126, R143). -/
def Obligations.StepKeepsTheSessionShape : Prop :=
  ∀ s t : State, s.SessionShape → step s = .next t → t.SessionShape

/-- The working set stays in its ranges and couplings at every write, and less than one centimetre stands in the travel
accumulator (R14, R164, R166). -/
def Obligations.StepKeepsTheWorkingSetCoupled : Prop :=
  ∀ s t : State, s.TravelBounded → step s = .next t → t.TravelBounded

/-- The state after a FULL reset meets every one of these invariants. -/
def Obligations.ResetMeetsTheInvariants : Prop :=
  State.reset.LogBounded ∧ State.reset.SpeedsBounded ∧ State.reset.PathShape ∧ State.reset.SessionShape ∧
  State.reset.TravelBounded ∧ State.reset.TripsOnce ∧ State.reset.MedianTaken

/-! ## Start-up -/

/-- FULL_RESET: the set that R169's table names is loaded with its source; every block is at its starting state; the conditions
have their starting values, and each combiner is evaluated once in order from a cleared stored state; the log holds START (FULL)
with the source, and no more unless a trip unit fires in the first evaluation, and the attention lines follow it. The model's
choice: the timebase restarts at 0 (notes/assumptions/21.md), the confirm level is CLOSED before the first debounce
(notes/assumptions/7.md), the angle and handlebar readings count as valid before the first sample
(notes/assumptions/22.md), and the takeover watch has read a time of 0 (notes/assumptions/38.md). -/
def Obligations.FullResetStartsThePart : Prop :=
  ∀ (l : Switches) (closed : Bool) (s : State), ∃ t, exec (.fullReset l closed) s = .next t ∧
    (s.store.user.passes = true → t.store.source = .user ∧ t.params = s.store.user.set.loaded) ∧
    (s.store.user.passes = false → s.store.factory.passes = true →
      t.store.source = .factory ∧ t.params = s.store.factory.set.loaded) ∧
    (s.store.user.passes = false → s.store.factory.passes = false →
      t.store.source = .defaults ∧ t.params = Params.builtin.loaded) ∧
    t.store.user = s.store.user ∧ t.store.factory = s.store.factory ∧ t.now = 0 ∧ t.speed = .reset ∧
    t.solve = .reset ∧ t.path = .empty ∧ t.auth = .reset ∧ t.tilt = .reset ∧ t.steer = .reset ∧ t.slot = .free ∧
    t.latch = .reset l.key closed ∧ t.portA = .reset ∧ t.portB = .reset ∧
    (∀ i, (t.inputs.switch i).differSince = none) ∧
    t.inputs.stand.active = l.stand ∧ t.inputs.seat.active = l.seat ∧ t.inputs.brake.active = l.brake ∧
    t.inputs.parkbtn.active = l.parkbtn ∧ t.inputs.lift.active = l.lift ∧ t.inputs.key.active = l.key ∧
    t.inputs.conds = { stand := l.stand, seat := l.seat, brake := l.brake, parkbtn := l.parkbtn, lift := l.lift,
                       key := l.key, still := true, slow := true, suspect := false, locked := true, holdStands := false,
                       leanHigh := false } ∧
    (let u0 := InputUnit.reset l
     let u1 := { u0 with c0 := u0.evaluate t.params.c0 { stored := false, output := false } }
     let u2 := { u1 with c1 := u1.evaluate t.params.c1 { stored := false, output := false } }
     t.inputs.c0 = u1.c0 ∧ t.inputs.c1 = u2.c1 ∧
       t.inputs.c2 = u2.evaluate t.params.c2 { stored := false, output := false }) ∧
    t.log.records.head? = some { event := .startFull t.store.source, stamp := 0 } ∧ t.log.overflow = false ∧
    (t.params.noInstantTrip →
      t.log.records = [{ event := .startFull t.store.source, stamp := 0 }] ∧ t.inputs.trips = [] ∧
      t.log.attnA = { asserted := t.params.attnMaskA.getLsbD (Event.startFull t.store.source).category,
                      gapEnd := none } ∧
      t.log.attnB = { asserted := t.params.attnMaskB.getLsbD (Event.startFull t.store.source).category,
                      gapEnd := none })

/-- FIRST_CONFIRM_DEBOUNCE: once the level has stood for 5 ms it is the confirm level, the first debounce is over, and the
first latch state is ENGAGED when CLOSED and RELEASED when OPEN; in the states named, where no rule of the latch controller
acts at once, it stays so (R130), and ENGAGED has the tilt drive in TRACK at 0 (R91). A RELEASE phase that waited for it then asks for its set (R98; that it waits is the model's
choice, notes/assumptions/33.md). An OPEN switch found while a LOCK_TEST runs makes the latch RELEASED like any other, and is
no slip (the model's choice, notes/assumptions/43.md). A sample that differs starts the count again (the model's choice,
notes/assumptions/7.md). -/
def Obligations.FirstConfirmDebounceGivesTheLatchState : Prop :=
  ∀ (dt : Nat) (closed : Bool) (x : FirstDebounce) (s : State), s.latch.first = some x →
    (closed = x.level → x.since + 5000 ≤ s.now + dt → ∃ t, exec (.firstConfirmDebounce dt closed) s = .next t ∧
      t.latch.first = none ∧ t.latch.closed = closed ∧ t.pins = { s.pins with closed := closed } ∧
      t.portA = s.portA ∧ t.portB = s.portB ∧ t.store = s.store ∧
      SameTargets s t ∧ SameRider s t ∧ SameAngles s t ∧ SameSwitches s t ∧ SameSettings s t ∧ OnlyGrows s t ∧
      (closed = true → s.fast = false → s.permit = false → s.NotWaiting → t.latch.state = .engaged ∧
        (s.tilt.mode = .track → t.tilt.drive = 0)) ∧
      (closed = false → s.params.uprightWindow < mag s.tilt.meas → s.NotWaiting → t.latch.state = .released) ∧
      (∀ r, s.slot = .routine r → r.held = none → r.phase = .release → closed = true → s.latch.set = none →
        t.latch.state = .releasing)) ∧
    (closed = x.level → s.now + dt < x.since + 5000 →
      exec (.firstConfirmDebounce dt closed) s = .next ((s.advance dt).setPins { s.pins with closed := closed })) ∧
    (closed ≠ x.level →
      exec (.firstConfirmDebounce dt closed) s = .next (((s.advance dt).setPins { s.pins with closed := closed }).setLatchUnit
        { s.latch with first := some { level := closed, since := s.now + dt } }))

/-! ## Speed and travel -/

/-- WHEEL_EDGE: an edge sooner than GLITCH_MIN after the last accepted one has no effect (R1). Accepted: the wheel's state,
last edge time, period and speed are as R2 and R4 give; a changed speed recomputes the estimate, from GOOD to SUSPECT with the
start of the suspect timer (R7, R8, R9), and its changes are logged in the order of R12, first of all where no hold end of the
credit comes between and the edge wakes nothing; the source wheel's travel goes into the accumulator (R14), and its whole
centimetres are credited while the estimate is GOOD, withheld while it is SUSPECT, and credited with the withheld count on the
return to GOOD (R14, R15); without a hold what a return to GOOD passes is kept with its time, for a hold that begins together
with it (R16; what together means is the model's choice, notes/assumptions/39.md); the speed ceiling timer runs on, starts or
stops with v and with the current segment (R56); a wheel speed above 0, of whichever wheel and in either state of the estimate,
suspends a routine that the credit has not ended with its hold (R104); a PARKED part wakes exactly when WHEEL is in WAKE_MASK
(R129). The other wheels' states, times, periods and speeds stand. That WAKE is the first record of a waking edge is the
model's choice (notes/assumptions/24.md). -/
def Obligations.EdgesMeasureTheWheel : Prop :=
  ∀ (dt : Nat) (w : Wheel) (s : State),
    (∀ e, (s.speed.wheel w).lastEdge = some e → ((s.now + dt - e : Nat) : Int) < s.params.glitchMin →
      exec (.wheelEdge dt w) s = .next (s.advance dt)) ∧
    ((∀ e, (s.speed.wheel w).lastEdge = some e → s.params.glitchMin ≤ ((s.now + dt - e : Nat) : Int)) →
    ∃ t, exec (.wheelEdge dt w) s = .next t ∧
      (t.speed.wheel w).lastEdge = some (s.now + dt) ∧
      ((s.speed.wheel w).mode = .stalled →
        (t.speed.wheel w).mode = .armed ∧ (t.speed.wheel w).period = none ∧ (t.speed.wheel w).speed = 0) ∧
      (∀ e, (s.speed.wheel w).mode ≠ .stalled → (s.speed.wheel w).lastEdge = some e →
        (t.speed.wheel w).mode = .running ∧ (t.speed.wheel w).period = some (s.now + dt - e) ∧
        (t.speed.wheel w).speed =
          min 2500 ((s.params.circ w).toNat * 100000 / (s.params.ppr.toNat * (s.now + dt - e)))) ∧
      (∀ x, x ≠ w → (t.speed.wheel x).mode = (s.speed.wheel x).mode ∧
        (t.speed.wheel x).lastEdge = (s.speed.wheel x).lastEdge ∧
        (t.speed.wheel x).period = (s.speed.wheel x).period ∧ (t.speed.wheel x).speed = (s.speed.wheel x).speed) ∧
      ((t.speed.wheel w).speed ≠ (s.speed.wheel w).speed → RecomputedFrom (s.now + dt) s.speed t.speed) ∧
      (s.latch.run = .run ∨ s.params.wakeMask.getLsbD 0 = false →
        s.speed.source.isWheel w = false ∨ s.speed.estimate = .suspect ∨ s.auth.hold = none →
        LoggedFirst s (recomputedEvents s.speed t.speed) t) ∧
      (s.speed.source.isWheel w = true →
        t.speed.accumulator = (s.speed.accumulator + (s.params.circ w).toNat) % (10 * s.params.ppr.toNat)) ∧
      (s.speed.source.isWheel w = false → t.speed.accumulator = s.speed.accumulator) ∧
      (s.latch.run = .run → s.params.noInstantTrip → ∀ n, n = (if s.speed.source.isWheel w then
          (s.speed.accumulator + (s.params.circ w).toNat) / (10 * s.params.ppr.toNat) else 0) →
        (s.speed.estimate = .good → Credited n (s.advance dt) t ∧
          (t.auth = s.auth → t.speed.withheld = s.speed.withheld)) ∧
        (s.speed.estimate = .suspect → t.speed.estimate = .suspect → t.auth = s.auth ∧ t.path = s.path ∧
          t.speed.withheld = s.speed.withheld + n) ∧
        (s.speed.estimate = .suspect → t.speed.estimate = .good → t.speed.withheld = 0 ∧
          Credited (s.speed.withheld + n) (s.advance dt) t ∧
          t.speed.passed = if s.auth.hold = none ∧ 0 < s.speed.withheld + n then
            some { cm := s.speed.passedAt (s.now + dt) + (s.speed.withheld + n), at_ := s.now + dt } else s.speed.passed) ∧
        (s.speed.estimate = .good ∨ t.speed.estimate = .suspect → t.speed.passed = s.speed.passed)) ∧
      (s.latch.run = .run → s.params.noInstantTrip → s.PathShape → CeilingTimed s t) ∧
      (∀ r, s.slot = .routine r → r.held = none → s.latch.run = .run → s.params.noInstantTrip → t.auth = s.auth →
        (∃ x, 0 < (t.speed.wheel x).speed) →
        t.slot = .routine { r with held := some (s.axis r.axis).meas, rampSince := none, rampDrive := 0,
                                   maxDisp := 0 } ∧
        (s.path.queue = [] → (∀ i, (s.params.combiner i).action = .none) →
          LoggedFirst s (recomputedEvents s.speed t.speed ++ [.routineSuspend r.axis]) t)) ∧
      (s.latch.run = .parked → s.params.wakeMask.getLsbD 0 = true → t.latch.run = .run ∧ LoggedFirst s [.wake .wheel] t) ∧
      (s.latch.run = .parked → s.params.wakeMask.getLsbD 0 = false → t.latch.run = .parked) ∧
      SameOutside s t ∧ SameAngles s t ∧ SameSwitches s t ∧ SameSettings s t ∧ OnlyGrows s t)

/-- DECAY_STEP and STALL_EXPIRY: at a whole millisecond a running wheel past its period takes the speed of the elapsed time,
and a wheel past STALL_TIME stalls, and makes no decay step; nothing else of the wheels changes but their ODD states (R3, R5).
A changed speed recomputes the estimate, with the suspect timer (R7, R8, R9) and the records of R12, and a return to GOOD
credits the withheld count (R15), which without a hold is kept with its time, for a hold that begins together with it (R16;
what together means is the model's choice, notes/assumptions/39.md). The speed ceiling timer runs on, starts or stops with v
and with the current segment (R56). -/
def Obligations.WheelsDecayAndStall : Prop :=
  ∀ (dt e : Nat) (w : Wheel) (s : State), (s.now + dt) % 1000 = 0 → (s.speed.wheel w).lastEdge = some e →
    (s.params.stallTime.toNat * 1000 < s.now + dt - e → exec (.decayStep dt w) s = .next (s.advance dt)) ∧
    (∀ T, (s.speed.wheel w).mode = .running → (s.speed.wheel w).period = some T → T < s.now + dt - e →
      s.now + dt - e ≤ s.params.stallTime.toNat * 1000 → ∃ t, exec (.decayStep dt w) s = .next t ∧
        t.speed.wheel w = { s.speed.wheel w with
          speed := min 2500 ((s.params.circ w).toNat * 100000 / (s.params.ppr.toNat * (s.now + dt - e))),
          odd := (t.speed.wheel w).odd } ∧
        (∀ x, x ≠ w → t.speed.wheel x = { s.speed.wheel x with odd := (t.speed.wheel x).odd }) ∧
        ((t.speed.wheel w).speed ≠ (s.speed.wheel w).speed → RecomputedFrom (s.now + dt) s.speed t.speed) ∧
        LoggedFirst s (recomputedEvents s.speed t.speed) t ∧
        (s.params.noInstantTrip →
          (s.speed.estimate = .suspect ∧ t.speed.estimate = .good →
            t.speed.withheld = 0 ∧ Credited s.speed.withheld (s.advance dt) t ∧
            t.speed.passed = if s.auth.hold = none ∧ 0 < s.speed.withheld then
              some { cm := s.speed.passedAt (s.now + dt) + s.speed.withheld, at_ := s.now + dt } else s.speed.passed) ∧
          (s.speed.estimate = .good ∨ t.speed.estimate = .suspect →
            t.speed.withheld = s.speed.withheld ∧ Credited 0 (s.advance dt) t ∧ t.speed.passed = s.speed.passed)) ∧
        (s.params.noInstantTrip → s.PathShape → CeilingTimed s t) ∧
        t.speed.accumulator = s.speed.accumulator ∧ SameOutside s t ∧ SameAngles s t ∧ SameSwitches s t ∧
        SameSettings s t ∧ OnlyGrows s t) ∧
    ((s.speed.wheel w).mode ≠ .stalled → s.params.stallTime.toNat * 1000 < s.now + dt - e →
      ∃ t, exec (.stallExpiry dt w) s = .next t ∧
        t.speed.wheel w = { mode := .stalled, lastEdge := some e, period := none, speed := 0,
                            odd := (t.speed.wheel w).odd } ∧
        (∀ x, x ≠ w → t.speed.wheel x = { s.speed.wheel x with odd := (t.speed.wheel x).odd }) ∧
        ((s.speed.wheel w).speed ≠ 0 → RecomputedFrom (s.now + dt) s.speed t.speed) ∧
        LoggedFirst s (recomputedEvents s.speed t.speed) t ∧
        (s.params.noInstantTrip →
          (s.speed.estimate = .suspect ∧ t.speed.estimate = .good →
            t.speed.withheld = 0 ∧ Credited s.speed.withheld (s.advance dt) t ∧
            t.speed.passed = if s.auth.hold = none ∧ 0 < s.speed.withheld then
              some { cm := s.speed.passedAt (s.now + dt) + s.speed.withheld, at_ := s.now + dt } else s.speed.passed) ∧
          (s.speed.estimate = .good ∨ t.speed.estimate = .suspect →
            t.speed.withheld = s.speed.withheld ∧ Credited 0 (s.advance dt) t ∧ t.speed.passed = s.speed.passed)) ∧
        (s.params.noInstantTrip → s.PathShape → CeilingTimed s t) ∧
        t.speed.accumulator = s.speed.accumulator ∧ SameOutside s t ∧ SameAngles s t ∧ SameSwitches s t ∧
        SameSettings s t ∧ OnlyGrows s t)

/-! ## The balance solve -/

/-- R22: the curvature ceiling of stage 2. -/
def Obligations.CurvatureCeiling : Prop :=
  (∀ K A v : Nat, (v = 0 → kMax K A v = K) ∧ (0 < v → kMax K A v = min K (A * 10000 / (v * v))) ∧
    kMax K 300 2500 = 0 ∧ (v ≤ 2500 → v * v ≤ 6250000) ∧ (A ≤ 9000 → A * 10000 ≤ 90000000)) ∧
  ∀ s : State, s.solved.kc.natAbs ≤ kMax s.params.kGeom (ceilingA s.params s.grade) s.speed.v

/-- R24: the lateral acceleration of stage 3. -/
def Obligations.LateralAccelerationStaysUnderTheCeiling : Prop :=
  ∀ s : State, s.params.Valid →
    s.solved.a = s.speed.v * s.speed.v * s.solved.kc.natAbs / 10000 ∧
    (s.speed.v = 0 ∨ s.solved.kc = 0 → s.solved.a = 0) ∧
    (0 < s.speed.v →
      s.solved.kc.natAbs ≤ ceilingA s.params s.grade * 10000 / (s.speed.v * s.speed.v) ∧
      s.speed.v * s.speed.v * s.solved.kc.natAbs ≤ ceilingA s.params s.grade * 10000) ∧
    s.solved.a ≤ ceilingA s.params s.grade ∧ s.solved.a ≤ 9000 ∧
    (s.gated = false → s.solved.phiT = clampSym s.params.leanLimit
      (signedLean s.solved.kc (leanMagnitude s.params s.solved.a) + s.camber)) ∧
    (s.statusRecord.drop 27).take 2 = le16 s.solve.a

/-- R25: the lean magnitude of stage 4. -/
def Obligations.LeanMagnitudeInterpolatesTheTable : Prop :=
  ∀ (p : Params) (a : Nat), p.Valid →
    (8 ≤ a / 1250 → leanMagnitude p a = p.lean 8) ∧
    (a / 1250 < 8 →
      leanMagnitude p a = p.lean (a / 1250) +
        ((p.lean (a / 1250 + 1) - p.lean (a / 1250)) * ((a - 1250 * (a / 1250) : Nat) : Int) + 625) / 1250 ∧
      a - 1250 * (a / 1250) ≤ 1249 ∧ 0 ≤ p.lean (a / 1250 + 1) - p.lean (a / 1250) ∧
      p.lean (a / 1250) ≤ leanMagnitude p a ∧ leanMagnitude p a ≤ p.lean (a / 1250 + 1)) ∧
    (∀ b, a ≤ b → leanMagnitude p a ≤ leanMagnitude p b) ∧ leanMagnitude p 0 = p.lean 0 ∧ p.lean 0 = 0

/-- R31: a setpoint moves toward its target by at most its rate, the lean setpoint at LEAN_RATE and the steer setpoint at
STEER_RATE of the period's working set. -/
def Obligations.SetpointsStepAtTheirRates : Prop :=
  (∀ x t r : Int, 0 ≤ r →
    (|t - x| ≤ r → rateStep x t r = t) ∧
    (r < |t - x| → x < t → rateStep x t r = x + r) ∧ (r < |t - x| → t < x → rateStep x t r = x - r)) ∧
  (∀ s : State, s.latch.state = .released ∨ s.latch.state = .engaging ∨ s.latch.state = .unlatchedFault →
    s.solved.phiS = rateStep s.solve.phiS s.solved.phiT s.params.leanRate) ∧
  (∀ s : State, s.steer.mode ≠ .off → s.solved.deltaS = rateStep s.solve.deltaS s.solved.deltaT s.params.steerRate) ∧
  State.reset.params.leanRate = 60 ∧ State.reset.params.steerRate = 80

/-- SOLVE_PERIOD, due in RUN: k_c, a, the targets and the flags are those of stages 1 to 7 on the state as it stands, and the
next period is due 2 ms after this one (R18 to R30). The demand of stage 1 is the rider's without a hold, the held curvature
under DRY, and under PATH the curvature of R47 along the head segment, whose trim is the camber of R27 (R83); `roundDiv` is the
nearest integer with halves away from zero. The speed unit keeps its estimate, and the ports, the inputs and the settings
stand. Before its time or in PARKED the row has no effect (R18). -/
def Obligations.SolvePeriodComputesTheTargets : Prop :=
  (∀ s : State,
    (s.auth.hold = none → s.demand = s.auth.riderDemand ∧ s.camber = 0) ∧
    (s.auth.hold ≠ none → ∀ k, s.path.queue = [] → s.path.held = some k → s.demand = k ∧ s.camber = 0) ∧
    (s.auth.hold ≠ none → ∀ g rest, s.path.queue = g :: rest →
      s.demand = g.k0 + Int.tdiv ((g.k1 - g.k0) * s.path.pos) g.length ∧ s.camber = g.trim.getD 0)) ∧
  (∀ n d : Int, 0 < d → 2 * |roundDiv n d * d - n| ≤ d ∧
    (2 * |roundDiv n d * d - n| = d → |n| ≤ |roundDiv n d * d|)) ∧
  ∀ (dt : Nat) (s : State),
    (s.latch.run = .parked ∨ s.now + dt < s.solve.periodDue → exec (.solvePeriod dt) s = .next (s.advance dt)) ∧
    (s.latch.run = .run → s.solve.periodDue ≤ s.now + dt → s.params.Valid →
    ∃ t, exec (.solvePeriod dt) s = .next t ∧
      (let v : Int := s.speed.v
       let A := if s.grade = .none then s.params.aMax else s.params.aSafe
       let kmax := if v = 0 then s.params.kGeom else min s.params.kGeom (A * 10000 / (v * v))
       let kc := max (-kmax) (min kmax s.demand)
       let a := v * v * |kc| / 10000
       let m := leanMagnitude s.params a.toNat
       let raw := (if kc = 0 then 0 else if 0 < kc then m else -m) + s.camber
       let lim := max (-s.params.leanLimit) (min s.params.leanLimit raw)
       let gated := s.latch.state ≠ .released ∨ s.slow = true ∨ s.grade = .lockdown
       t.solve.kc = kc ∧ (t.solve.a : Int) = a ∧ (t.solve.curvLimited = true ↔ kc ≠ s.demand) ∧
       (t.solve.leanLimited = true ↔ lim ≠ raw) ∧ (t.solve.upright = true ↔ gated) ∧
       (gated → t.solve.phiT = 0) ∧ (¬gated → t.solve.phiT = lim) ∧
       t.solve.deltaT =
         max (-s.params.steerMax) (min s.params.steerMax (roundDiv (kc * 65536) s.params.curvGain))) ∧
      t.solve.periodDue = s.solve.periodDue + 2000 ∧ t.now = s.now + dt ∧
      SameOutside s t ∧ SameSpeed s t ∧ SameRider s t ∧ SameAngles s t ∧ SameSwitches s t ∧ SameSettings s t ∧
      SameLatchClock s t ∧ OnlyGrows s t)

/-- SOLVE_PERIOD: what the setpoints are after the period, while no trip unit fires at once and no routine waits for the latch;
in RELEASE_PRELOAD the lean setpoint is the captured lean, where nothing abandons the preload in the same handling
(R32, R33, R34). -/
def Obligations.SolvePeriodMovesTheSetpoints : Prop :=
  ∀ (dt : Nat) (s : State), s.latch.run = .run → s.solve.periodDue ≤ s.now + dt → s.params.Valid →
    s.params.noInstantTrip → s.NotWaiting →
    ∃ t, exec (.solvePeriod dt) s = .next t ∧
      (s.steer.mode = .off → t.solve.deltaS = s.steer.meas) ∧
      (s.steer.mode ≠ .off → t.solve.deltaS = rateStep s.solve.deltaS t.solve.deltaT s.params.steerRate) ∧
      (s.latch.state = .engaged ∨ s.latch.state = .jammed → t.solve.phiS = s.tilt.meas) ∧
      (s.latch.state = .releasing → t.solve.phiS = s.solve.captured) ∧
      (s.latch.state = .releasePreload → t.solve.phiS = s.solve.captured ∨ t.solve.phiS = s.tilt.meas) ∧
      (s.latch.state = .releasePreload → s.preloadOff = false → s.DemandSteady →
        t.solve.phiS = s.solve.captured) ∧
      (s.latch.state = .released ∨ s.latch.state = .engaging ∨ s.latch.state = .unlatchedFault →
        t.solve.phiS = rateStep s.solve.phiS t.solve.phiT s.params.leanRate) ∧
      t.auth = s.auth ∧ t.path = s.path ∧ t.speed = s.speed ∧ t.slot = s.slot ∧ t.params = s.params

/-! ## The path unit -/

/-- The segment encoding: with any of the options present, each field is read from its own bytes, low byte first; what an
absent option leaves is as R45 settles it (09, "The segment encoding"; R45). A segment is malformed where the bytes end part
way through it, an option bit of 4 to 7 is set, the length is below 10 cm or the ceiling above 2500 cm/s (R45). The segments of
a frame are those that its bytes hold one behind the other to the end, four at most; bytes that hold no such list are malformed
(R59). -/
def Obligations.SegmentBytesReadAsLaidOut : Prop :=
  (∀ (tag : Byte) (n : Nat) (k0 : Int) (k1 : Option Int) (c : Option Nat) (trim : Option Int) (relEnd : Bool)
      (rest : List Byte),
    10 ≤ n → n < 65536 → -32768 ≤ k0 → k0 < 32768 → (∀ k ∈ k1, -32768 ≤ k ∧ k < 32768) → (∀ x ∈ c, x ≤ 2500) →
    (∀ x ∈ trim, -32768 ≤ x ∧ x < 32768) →
    readSegment (byteOf (k1.isSome.toNat + 2 * c.isSome.toNat + 4 * trim.isSome.toNat + 8 * relEnd.toNat) :: tag ::
        (le16 n ++ le16 k0 ++ k1.elim [] le16 ++ c.elim [] (fun x => le16 x) ++ trim.elim [] le16 ++ rest)) =
      some ({ seg := { tag := tag, length := n, k0 := clampSym 500 k0, k1 := clampSym 500 (k1.getD k0), ceiling := c,
                       trim := trim.map (clampSym 300), endRelease := relEnd },
              clamped := clampSym 500 k0 != k0 || k1.any (fun k => clampSym 500 k != k) ||
                trim.any (fun x => clampSym 300 x != x) }, rest)) ∧
  (∀ bytes : List Byte, bytes.length < 6 → readSegment bytes = none) ∧
  (∀ (options tag l0 l1 a b : Byte) (rest : List Byte),
    16 ≤ options.toNat ∨ l0.toNat + 256 * l1.toNat < 10 ∨
      rest.length < 2 * ((options.getLsbD 0).toNat + (options.getLsbD 1).toNat + (options.getLsbD 2).toNat) ∨
      (options.getLsbD 1 = true ∧ ∃ lo hi more, rest.drop (2 * (options.getLsbD 0).toNat) = lo :: hi :: more ∧
        2500 < lo.toNat + 256 * hi.toNat) →
    readSegment (options :: tag :: l0 :: l1 :: a :: b :: rest) = none) ∧
  ∀ (bytes : List Byte) (segs : List ReadSegment),
    readSegments bytes = some segs ↔ segs.length ≤ 4 ∧ SegmentsRead bytes segs

/-- R60: LOAD_PATH with position FIRST from the holder discards any open batch, opens a new one and stages the frame's
segments; the reply is OK or ADJUSTED with the counts. -/
def Obligations.LoadPathFirstOpensABatch : Prop :=
  ∀ (dt : Nat) (p : Port) (r : Byte) (bytes : List Byte) (segs : List ReadSegment) (s : State),
    bytes.length ≤ 37 → Ready s p → s.holds p = true → s.axisBusy = false → readSegments bytes = some segs →
    segs.length ≤ 4 ∧
    exec (.loadPathFirst dt { port := p, ref := r, payload := bytes }) s =
      .next (((s.delivered dt p).setPath
          { s.path with staging := segs.map (fun x => x.seg), batchOpen := true }).answered p 0x22 r
        (if segs.any (fun x => x.clamped) then .adjusted else .ok)
        [byteOf s.path.queue.length, byteOf segs.length, 1])

/-- R61 with R64: LOAD_PATH with position MIDDLE from the holder stages behind what is staged, is NOT_NOW with no batch open,
and is FULL naming STAGING, with the staging area discarded, when it would bring the staging area above 8. -/
def Obligations.LoadPathMiddleAddsToTheBatch : Prop :=
  ∀ (dt : Nat) (p : Port) (r : Byte) (bytes : List Byte) (segs : List ReadSegment) (s : State),
    bytes.length ≤ 37 → Ready s p → s.holds p = true → s.axisBusy = false → readSegments bytes = some segs →
    (s.path.batchOpen = false →
      exec (.loadPathMiddle dt { port := p, ref := r, payload := bytes }) s =
        .next ((s.delivered dt p).answered p 0x22 r .notNow
          [byteOf s.path.queue.length, byteOf s.path.staging.length, 0])) ∧
    (s.path.batchOpen = true → s.path.staging.length + segs.length ≤ 8 →
      exec (.loadPathMiddle dt { port := p, ref := r, payload := bytes }) s =
        .next (((s.delivered dt p).setPath
            { s.path with staging := s.path.staging ++ segs.map (fun x => x.seg) }).answered p 0x22 r
          (if segs.any (fun x => x.clamped) then .adjusted else .ok)
          [byteOf s.path.queue.length, byteOf (s.path.staging.length + segs.length), 1])) ∧
    (s.path.batchOpen = true → 8 < s.path.staging.length + segs.length →
      exec (.loadPathMiddle dt { port := p, ref := r, payload := bytes }) s =
        .next (((s.delivered dt p).setPath { s.path with staging := [], batchOpen := false }).answered p 0x22 r .full
          [byteOf s.path.queue.length, 0, 0, 1, byteOf (8 - s.path.staging.length)]))

/-- LOAD_PATH with position LAST and ONLY from the holder: a batch that the queue has room for is committed whole; one that it
has no room for is refused FULL naming QUEUE; the staging area is emptied either way (R62, R63, R65). A LAST that would bring
the staging area above 8 is refused FULL naming STAGING, and the staging area is discarded (R64). A frame of any position whose
bytes hold no list of four segments at most, and one whose position byte is missing or names no position, is BAD_ARG: an open
batch is discarded, and nothing of the frame is staged or committed (R59). Every other part of the state is as the delivery
left it. -/
def Obligations.LoadPathCommitsAWholeBatch : Prop :=
  (∀ (dt : Nat) (f : Frame) (s : State) (c : Instr),
    c = .loadPathFirst dt f ∨ c = .loadPathMiddle dt f ∨ c = .loadPathLast dt f ∨ c = .loadPathOnly dt f →
    f.payload.length ≤ 37 → Ready s f.port → s.holds f.port = true → s.axisBusy = false → readSegments f.payload = none →
    exec c s = .next (((s.delivered dt f.port).setPath { s.path with staging := [], batchOpen := false }).answered
      f.port 0x22 f.ref .badArg [byteOf s.path.queue.length, 0, 0])) ∧
  (∀ (dt : Nat) (p : Port) (ref : Byte) (bytes : List Byte) (x : Character) (s : State),
    Ready s p → s.holds p = true → s.axisBusy = false → (s.port p).rx = .check → s.now + dt ≤ (s.port p).lastEnd + 2044 →
    x.good = true → x.data = crc8 ((s.port p).need :: (s.port p).body) → (s.port p).body = 0x22 :: ref :: bytes →
    bytes = [] ∨ (∃ b more, bytes = b :: more ∧ 4 ≤ b.toNat) →
    exec (.receivedCharacter dt p x) s = .next (((s.delivered dt p).setPath
      { s.path with staging := [], batchOpen := false }).answered p 0x22 ref .badArg [byteOf s.path.queue.length, 0, 0])) ∧
  ∀ (dt : Nat) (p : Port) (r : Byte) (bytes : List Byte) (segs : List ReadSegment) (s : State),
    bytes.length ≤ 37 → Ready s p → s.holds p = true → s.axisBusy = false → readSegments bytes = some segs →
    (s.path.queue.length + segs.length ≤ 16 → ∃ u,
      exec (.loadPathOnly dt { port := p, ref := r, payload := bytes }) s =
        .next (((s.delivered dt p).setPath u).answered p 0x22 r
          (if segs.any (fun x => x.clamped) then .adjusted else .ok)
          [byteOf (s.path.queue.length + segs.length), 0, 0]) ∧
      CommittedPath s (s.now + dt) (segs.map (fun x => x.seg)) u) ∧
    (16 < s.path.queue.length + segs.length → s.path.queue.length ≤ 16 →
      exec (.loadPathOnly dt { port := p, ref := r, payload := bytes }) s =
        .next (((s.delivered dt p).setPath { s.path with staging := [], batchOpen := false }).answered p 0x22 r .full
          [byteOf s.path.queue.length, 0, 0, 2, byteOf (16 - s.path.queue.length)])) ∧
    (s.path.batchOpen = true → s.path.staging.length + segs.length ≤ 8 →
      s.path.queue.length + (s.path.staging.length + segs.length) ≤ 16 → ∃ u,
      exec (.loadPathLast dt { port := p, ref := r, payload := bytes }) s =
        .next (((s.delivered dt p).setPath u).answered p 0x22 r
          (if segs.any (fun x => x.clamped) then .adjusted else .ok)
          [byteOf (s.path.queue.length + (s.path.staging.length + segs.length)), 0, 0]) ∧
      CommittedPath s (s.now + dt) (s.path.staging ++ segs.map (fun x => x.seg)) u) ∧
    (s.path.batchOpen = true → s.path.staging.length + segs.length ≤ 8 →
      16 < s.path.queue.length + (s.path.staging.length + segs.length) → s.path.queue.length ≤ 16 →
      exec (.loadPathLast dt { port := p, ref := r, payload := bytes }) s =
        .next (((s.delivered dt p).setPath { s.path with staging := [], batchOpen := false }).answered p 0x22 r .full
          [byteOf s.path.queue.length, 0, 0, 2, byteOf (16 - s.path.queue.length)])) ∧
    (s.path.batchOpen = true → 8 < s.path.staging.length + segs.length →
      exec (.loadPathLast dt { port := p, ref := r, payload := bytes }) s =
        .next (((s.delivered dt p).setPath { s.path with staging := [], batchOpen := false }).answered p 0x22 r .full
          [byteOf s.path.queue.length, 0, 0, 1, byteOf (8 - s.path.staging.length)])) ∧
    (s.path.batchOpen = false →
      exec (.loadPathLast dt { port := p, ref := r, payload := bytes }) s =
        .next ((s.delivered dt p).answered p 0x22 r .notNow
          [byteOf s.path.queue.length, byteOf s.path.staging.length, 0]))

/-- FLUSH_PATH from the holder: queue and staging area are emptied and the reply counts what was removed; a source PATH becomes
DRY on the present path curvature with PATH_DRY (FLUSHED); a source DRY stays as it is (R66). -/
def Obligations.FlushPathEmptiesTheQueue : Prop :=
  ∀ (dt : Nat) (p : Port) (r : Byte) (s : State), Ready s p → s.holds p = true →
    (s.path.queue = [] → exec (.flushPath dt { port := p, ref := r, payload := [] }) s =
      .next (((s.delivered dt p).setPath { s.path with staging := [], batchOpen := false }).answered p 0x23 r .ok
        [0, byteOf s.path.staging.length])) ∧
    (s.path.queue ≠ [] → exec (.flushPath dt { port := p, ref := r, payload := [] }) s =
      .next ((((s.delivered dt p).setPath
          { queue := [], pos := 0, staging := [], batchOpen := false, held := some s.path.kPath, dryCount := 0,
            ceilingSince := none }).logEvent (.pathDry true)).answered p 0x23 r .ok
        [byteOf s.path.queue.length, byteOf s.path.staging.length]))

/-- A credit under a hold moves along the current segment, and at its end goes on in the next with PATH_DONE, through as many
segments as it covers; at the end of the queue the hold ends (DONE) with END_RELEASE, else the source becomes DRY with
PATH_DRY, and the hold ends (DRY) where what is left over reaches DRY_DISTANCE (R48, R50, R51, R52, R53). At a new current
segment the speed ceiling timer starts afresh where v is above its ceiling and margin, and else stands at 0 (R56). With an
empty queue a credit adds to the dry count, and the hold ends (DRY) when that reaches DRY_DISTANCE (R49, R53). -/
def Obligations.CreditConsumesTheQueue : Prop :=
  (∀ (n : Nat) (s : State), s.auth.hold ≠ none → s.path.queue = [] → 0 < n →
    (((s.path.dryCount + n : Nat) : Int) < s.params.dryDistance →
      s.credit n = s.setPath { s.path with dryCount := s.path.dryCount + n }) ∧
    (s.params.dryDistance ≤ ((s.path.dryCount + n : Nat) : Int) →
      (s.credit n).auth = { s.auth with hold := none } ∧ (s.credit n).path = .empty ∧
      LoggedFirst s [.holdEnd .dry] (s.credit n))) ∧
  ∀ (n : Nat) (s : State) (g : Segment) (rest : List Segment), s.auth.hold ≠ none → s.path.queue = g :: rest → 0 < n →
    (n < g.length - s.path.pos → s.credit n = s.setPath { s.path with pos := s.path.pos + n }) ∧
    (∀ g' rest', rest = g' :: rest' → g.length - s.path.pos ≤ n → n - (g.length - s.path.pos) < g'.length →
      (s.credit n).path.queue = rest ∧ (s.credit n).path.pos = n - (g.length - s.path.pos) ∧
      ((∃ c, g'.ceiling = some c ∧ (c : Int) + s.params.overspeedMargin < s.speed.v) →
        (s.credit n).path.ceilingSince = some s.now) ∧
      (¬(∃ c, g'.ceiling = some c ∧ (c : Int) + s.params.overspeedMargin < s.speed.v) →
        (s.credit n).path.ceilingSince = none) ∧
      (s.credit n).auth = s.auth ∧ (s.credit n).log = (s.logEvent (.pathDone g.tag)).log) ∧
    (∀ g' rest', rest = g' :: rest' → g.length - s.path.pos ≤ n → 0 < g'.length →
      g'.length ≤ n - (g.length - s.path.pos) →
      s.credit n = ((s.setPath { s.path with queue := rest, pos := 0 }).logEvent (.pathDone g.tag)).credit
        (n - (g.length - s.path.pos))) ∧
    (rest = [] → g.length - s.path.pos ≤ n → g.endRelease = false →
      s.params.dryDistance ≤ ((n - (g.length - s.path.pos) : Nat) : Int) →
      (s.credit n).auth = { s.auth with hold := none } ∧ (s.credit n).path = .empty ∧
      LoggedFirst s [.pathDone g.tag, .pathDry false, .holdEnd .dry] (s.credit n)) ∧
    (rest = [] → g.length - s.path.pos ≤ n → g.endRelease = true →
      (s.credit n).auth = { s.auth with hold := none } ∧ (s.credit n).path = .empty ∧
      LoggedFirst s [.pathDone g.tag, .holdEnd .done] (s.credit n)) ∧
    (rest = [] → g.length - s.path.pos ≤ n → g.endRelease = false →
      ((n - (g.length - s.path.pos) : Nat) : Int) < s.params.dryDistance →
      (s.credit n).path = { s.path with queue := [], pos := 0, held := some g.k1,
                                        dryCount := n - (g.length - s.path.pos), ceilingSince := none } ∧
      (s.credit n).auth = s.auth ∧
      (s.credit n).log = ((s.logEvent (.pathDone g.tag)).logEvent (.pathDry false)).log)

/-! ## Steering authority -/

/-- TAKE_HOLD with no holder, at grade NONE and a calibration source other than DEFAULTS: the hold record, HOLD_BEGIN, the held
curvature of the last period and the source DRY; the reply names the holder. The withheld credit that a return to GOOD passed
together with it, at the same timebase count, is the dry distance of the new hold, which ends (DRY) at once where that reaches
DRY_DISTANCE (R16, R53; what together means, and that the check applies, is the model's choice, notes/assumptions/39.md; so is
the port in that reply, notes/assumptions/34.md). Otherwise OK to the holder itself, NOT_NOW under a
SAFE grade or source DEFAULTS, HELD naming the holder in the other cases without PREEMPT of port A (R73, R74, R54, R16). -/
def Obligations.TakeHoldGrantsTheHold : Prop :=
  ∀ (dt : Nat) (p : Port) (r b : Byte) (s : State), b.toNat < 2 → Ready s p →
    (s.holds p = true → exec (.takeHold dt { port := p, ref := r, payload := [b] }) s =
      .next ((s.delivered dt p).answered p 0x20 r .ok [byteOf (portCode p)])) ∧
    (s.holds p = false → s.grade ≠ .none ∨ s.store.source = .defaults →
      exec (.takeHold dt { port := p, ref := r, payload := [b] }) s =
        .next ((s.delivered dt p).answered p 0x20 r .notNow [])) ∧
    (s.heldByOther p = true → s.grade = .none → s.store.source ≠ .defaults → p = .b ∨ b = 0 →
      exec (.takeHold dt { port := p, ref := r, payload := [b] }) s =
        .next ((s.delivered dt p).answered p 0x20 r .held [byteOf (portCode (otherPort p))])) ∧
    (s.auth.hold = none → s.grade = .none → s.store.source ≠ .defaults → s.params.noInstantTrip →
    ∃ t, exec (.takeHold dt { port := p, ref := r, payload := [b] }) s = .next t ∧
      (s.speed.passedAt (s.now + dt) = 0 ∨ (s.speed.passedAt (s.now + dt) : Int) < s.params.dryDistance →
        t.auth = { s.auth with hold := some { port := p, thetaRef := s.auth.theta, lastContact := s.now + dt,
                                              takeoverSince := none } } ∧
        t.path = { PathUnit.empty with held := some s.solve.kc, dryCount := s.speed.passedAt (s.now + dt) } ∧
        t.source = .dry ∧ t.demand = s.solve.kc) ∧
      (0 < s.speed.passedAt (s.now + dt) → s.params.dryDistance ≤ (s.speed.passedAt (s.now + dt) : Int) →
        t.auth = { s.auth with hold := none } ∧ t.path = .empty ∧ t.source = .rider ∧
        LoggedFirst s [.holdBegin p, .holdEnd .dry] t) ∧
      t.speed = { s.speed with withheld := 0, passed := none } ∧ LoggedFirst s [.holdBegin p] t ∧
      Replied t p 0x20 r .ok [byteOf (portCode p)] ∧ RequestFrame dt p s t ∧ SameSettings s t ∧ t.store = s.store ∧
      t.inputs.trips = s.inputs.trips)

/-- TAKE_HOLD from port A with PREEMPT while port B holds and no routine runs: B's hold ends with PREEMPTED and A's begins, in
one handling, with no withheld credit and a dry count of 0 (R75, R16). -/
def Obligations.PortAPreemptsPortB : Prop :=
  ∀ (dt : Nat) (r : Byte) (h : Hold) (s : State), s.auth.hold = some h → h.port = .b → Ready s .a → s.grade = .none →
    s.store.source ≠ .defaults → s.params.noInstantTrip → s.noRoutine →
    ∃ t, exec (.takeHold dt { port := .a, ref := r, payload := [1] }) s = .next t ∧
      t.auth = { s.auth with hold := some { port := .a, thetaRef := s.auth.theta, lastContact := s.now + dt,
                                            takeoverSince := none } } ∧
      t.path = { PathUnit.empty with held := some s.solve.kc } ∧
      t.speed = { s.speed with withheld := 0, passed := none } ∧
      LoggedFirst s [.holdEnd .preempted, .holdBegin .a] t ∧ t.latch.itemB ≠ .permit ∧
      Replied t .a 0x20 r .ok [1] ∧ RequestFrame dt .a s t ∧ SameSettings s t ∧ t.store = s.store

/-- DROP_HOLD: from the holder it ends the hold with reason DROPPED and is answered OK; from any other port it is NOT_HOLDER and
the record stands (R76, R80). -/
def Obligations.DropHoldEndsTheHold : Prop :=
  ∀ (dt : Nat) (p : Port) (r : Byte) (s : State), Ready s p →
    (∀ h, s.auth.hold = some h → h.port = p →
      ∃ t, exec (.dropHold dt { port := p, ref := r, payload := [] }) s = .next t ∧ HoldEnded .dropped h s t ∧
        Replied t p 0x21 r .ok [] ∧ RequestFrame dt p s t ∧ SameSettings s t ∧ t.store = s.store) ∧
    (s.holds p = false → exec (.dropHold dt { port := p, ref := r, payload := [] }) s =
      .next ((s.delivered dt p).answered p 0x21 r .notHolder []))

/-- SILENCE_EXPIRY, TAKEOVER_EXPIRY and OVERSPEED_EXPIRY, when their timers have come: the hold ends with the reason of the row
and every consequence of R80; before that, or without a hold, they have no effect. The takeover timer runs to TAKEOVER_TIME as
the last valid sample read it (R77, R79, R56, R80). -/
def Obligations.HoldTimersEndTheHold : Prop :=
  ∀ (dt : Nat) (s : State),
    (∀ h, s.auth.hold = some h →
      (h.lastContact + s.params.holdTimeout.toNat * 1000 ≤ s.now + dt →
        ∃ t, exec (.silenceExpiry dt) s = .next t ∧ HoldEnded .silent h s t ∧ Consequence (s.advance dt) t) ∧
      (∀ e, h.takeoverSince = some e → e + s.auth.takeoverTime.toNat * 1000 ≤ s.now + dt →
        ∃ t, exec (.takeoverExpiry dt) s = .next t ∧ HoldEnded .takeover h s t ∧ Consequence (s.advance dt) t) ∧
      (∀ e, s.path.ceilingSince = some e → e + 200000 ≤ s.now + dt →
        ∃ t, exec (.overspeedExpiry dt) s = .next t ∧ HoldEnded .overspeed h s t ∧ Consequence (s.advance dt) t) ∧
      (s.now + dt < h.lastContact + s.params.holdTimeout.toNat * 1000 →
        exec (.silenceExpiry dt) s = .next (s.advance dt)) ∧
      (h.takeoverSince = none → exec (.takeoverExpiry dt) s = .next (s.advance dt)) ∧
      (∀ e, h.takeoverSince = some e → s.now + dt < e + s.auth.takeoverTime.toNat * 1000 →
        exec (.takeoverExpiry dt) s = .next (s.advance dt)) ∧
      (∀ e, s.path.ceilingSince = some e → s.now + dt < e + 200000 →
        exec (.overspeedExpiry dt) s = .next (s.advance dt))) ∧
    (s.auth.hold = none →
      exec (.silenceExpiry dt) s = .next (s.advance dt) ∧ exec (.takeoverExpiry dt) s = .next (s.advance dt)) ∧
    (s.path.ceilingSince = none → exec (.overspeedExpiry dt) s = .next (s.advance dt))

/-- HANDLEBAR_SAMPLE: a valid reading is the handlebar angle and gives the rider demand, moves the takeover timer and reads its
TAKEOVER_TIME; an invalid one keeps both, starts the dropout timer in RUN and returns the takeover timer to 0; nothing else
changes (R79, R84, R85, R87). -/
def Obligations.HandlebarSampleFollowsTheBar : Prop :=
  ∀ (dt : Nat) (x : Int) (s : State),
    (-4800 ≤ x → x ≤ 4800 → exec (.handlebarSample dt x) s =
      .next (((s.advance dt).setPins { s.pins with handlebar := x }).setAuth
        { hold := s.auth.hold.map (fun h => { h with
            takeoverSince := if s.params.takeoverAngle < |x - h.thetaRef| then some (h.takeoverSince.getD (s.now + dt))
                             else none }),
          theta := x,
          riderDemand := max (-500) (min 500 (roundDiv (max (-4500) (min 4500 x) * s.params.curvGain) 65536)),
          valid := true, dropoutSince := none, dropoutFired := false, takeoverTime := s.params.takeoverTime })) ∧
    (x < -4800 ∨ 4800 < x → exec (.handlebarSample dt x) s =
      .next (((s.advance dt).setPins { s.pins with handlebar := x }).setAuth
        { s.auth with
          hold := s.auth.hold.map (fun h => { h with takeoverSince := none }), valid := false,
          dropoutSince := if s.latch.run = .parked ∨ s.auth.dropoutFired = true then s.auth.dropoutSince
                          else some (s.auth.dropoutSince.getD (s.now + dt)) }))

/-! ## Trips -/

/-- The rows that fire a trip, each with its own condition: SUSPECT_TIMER_EXPIRY (R10), HANDLEBAR_DROPOUT_EXPIRY (R85),
TRACKING_EXPIRY (R92), TRIP_UNIT_EXPIRY (R139). The trip joins the set, is logged, and at SAFE entry ends any hold (R142,
R143). -/
def Obligations.ExpiriesFireTheirTrips : Prop :=
  ∀ (dt e : Nat) (s : State), e ≤ s.now + dt →
    (s.speed.estimate = .suspect → s.speed.suspectSince = some e → e + 500000 ≤ s.now + dt →
      (∀ x ∈ s.inputs.trips, x.id ≠ .speed) →
      ∃ t, exec (.suspectTimerExpiry dt) s = .next t ∧ TripFired .speed .degrade s t ∧ t.speed.suspectSince = none ∧
        SameOutside s t ∧ SameTargets s t ∧ SameAngles s t ∧ SameSwitches s t ∧ SameSettings s t) ∧
    (s.auth.dropoutSince = some e → e + 100000 ≤ s.now + dt → (∀ x ∈ s.inputs.trips, x.id ≠ .handlebar) →
      ∃ t, exec (.handlebarDropoutExpiry dt) s = .next t ∧ TripFired .handlebar .degrade s t ∧
        t.auth.riderDemand = 0 ∧ t.auth.dropoutSince = none ∧ t.auth.dropoutFired = true ∧
        SameOutside s t ∧ SameSpeed s t ∧ SameTargets s t ∧ SameAngles s t ∧ SameSwitches s t ∧ SameSettings s t) ∧
    (∀ x, (s.axis x).mode = .track → (x = .tilt → s.latch.state ≠ .engaged ∧ s.latch.state ≠ .jammed) →
      (s.axis x).valid = true → (s.axis x).trackFired = false → (s.axis x).trackSince = some e →
      e + 300000 ≤ s.now + dt → (∀ y ∈ s.inputs.trips, y.id ≠ (trackTrip x).1) →
      ∃ t, exec (.trackingExpiry dt x) s = .next t ∧ TripFired (trackTrip x).1 (trackTrip x).2 s t ∧
        Consequence (s.advance dt) t) ∧
    (∀ u, (s.inputs.tripUnit u).fired = false → (s.inputs.tripUnit u).since = some e →
      e + (s.params.tripUnit u).time.ms * 1000 ≤ s.now + dt → (∀ y ∈ s.inputs.trips, y.id ≠ tripIdOf u) →
      ∃ t, exec (.tripUnitExpiry dt u) s = .next t ∧ TripFired (tripIdOf u) (s.params.tripUnit u).severity s t ∧
        Consequence (s.advance dt) t) ∧
    trackTrip .tilt = (.trackTilt, .lockdown) ∧ trackTrip .steer = (.trackSteer, .degrade)

/-- CLEAR_TRIP: at standstill with every cause absent the set is emptied and TRIP_CLEAR logged; an empty set is answered OK and
logs nothing; otherwise NOT_NOW lists the trips whose cause is present, in the order of the set (R144). -/
def Obligations.ClearTripEmptiesTheSet : Prop :=
  ∀ (dt : Nat) (p : Port) (r : Byte) (s : State), Ready s p →
    (s.still = true → s.inputs.trips ≠ [] → (∀ x ∈ s.inputs.trips, s.causePresent x.id = false) →
      s.params.noInstantTrip →
      ∃ t, exec (.clearTrip dt { port := p, ref := r, payload := [] }) s = .next t ∧ t.inputs.trips = [] ∧
        t.grade = .none ∧ LoggedFirst s [.tripClear] t ∧ Replied t p 0x13 r .ok [] ∧ RequestFrame dt p s t ∧
        SameSettings s t ∧ t.store = s.store ∧ t.speed = s.speed ∧ t.path = s.path) ∧
    (s.still = true → s.inputs.trips = [] → exec (.clearTrip dt { port := p, ref := r, payload := [] }) s =
      .next ((s.delivered dt p).answered p 0x13 r .ok [])) ∧
    (s.still = false ∨ (∃ x ∈ s.inputs.trips, s.causePresent x.id = true) →
      exec (.clearTrip dt { port := p, ref := r, payload := [] }) s =
        .next ((s.delivered dt p).answered p 0x13 r .notNow
          (byteOf (s.inputs.trips.filter (fun x => s.causePresent x.id)).length ::
            (s.inputs.trips.filter (fun x => s.causePresent x.id)).map (fun x => byteOf x.id.code))))

/-- INPUT_CHANGE: a sample that completes the debounce changes the input, logs INPUT_CHANGE when the input is in the mask, for
KEY stops or starts the key-off time, for LIFT becoming inactive ends every PERMIT, and wakes a PARKED part exactly when the
input's source is in WAKE_MASK; a differing sample short of it counts, an agreeing one ends the count (R131, R132, R124, R128,
R129). The other inputs, the ports, the speed unit's estimate and the settings stand. -/
def Obligations.InputSamplesDebounce : Prop :=
  ∀ (dt : Nat) (i : Input) (b : Bool) (s : State),
    (b ≠ (s.inputs.switch i).active →
      ((s.inputs.switch i).differSince.getD (s.now + dt)) + s.params.debounce.toNat * 1000 ≤ s.now + dt →
      ∃ t, exec (.inputChange dt i b) s = .next t ∧ t.inputs.switch i = { active := b, differSince := none } ∧
        t.pins = { s.pins with switches := setLevel s.pins.switches i b } ∧
        (∀ j, j ≠ i → t.inputs.switch j = s.inputs.switch j) ∧
        (s.params.inputEventMask.getLsbD (inputCode i) = true → LoggedFirst s [.inputChange i b] t) ∧
        (i = .key → t.latch.autoPark = (s.latch.autoPark && !b) ∧
          t.latch.keyOffSince = if b then none else some (s.now + dt)) ∧
        (i = .lift → b = false → t.latch.itemA ≠ .permit ∧ t.latch.itemB ≠ .permit) ∧
        (i ≠ .lift ∨ b = true → s.params.noInstantTrip →
          t.latch.itemA = s.latch.itemA ∧ t.latch.itemB = s.latch.itemB) ∧
        (i ≠ .key → t.latch.autoPark = s.latch.autoPark ∧ t.latch.keyOffSince = s.latch.keyOffSince) ∧
        (s.latch.run = .parked →
          t.latch.run = if s.params.wakeMask.getLsbD (if i = .key then 1 else 2) then .run else .parked) ∧
        t.portA = s.portA ∧ t.portB = s.portB ∧ t.store = s.store ∧ SameSpeed s t ∧ SameAngles s t ∧
        SameSettings s t ∧ OnlyGrows s t) ∧
    (b ≠ (s.inputs.switch i).active →
      s.now + dt < ((s.inputs.switch i).differSince.getD (s.now + dt)) + s.params.debounce.toNat * 1000 →
      exec (.inputChange dt i b) s =
        .next (((s.advance dt).setPins { s.pins with switches := setLevel s.pins.switches i b }).setInputs
          (s.inputs.setSwitch i { active := (s.inputs.switch i).active,
                                  differSince := some ((s.inputs.switch i).differSince.getD (s.now + dt)) }))) ∧
    (b = (s.inputs.switch i).active → exec (.inputChange dt i b) s =
      .next (((s.advance dt).setPins { s.pins with switches := setLevel s.pins.switches i b }).setInputs
        (s.inputs.setSwitch i { active := (s.inputs.switch i).active, differSince := none })))

/-- The functions of the combiners on their values a, b, c, with the LATCH clearing before it sets, and the output inversion
(R134, R135). A change of a condition is taken whole: C0, C1, C2 are evaluated in that order, each on the outputs of those
before it, their changes are logged in that order, a changed combined demand is handed to the latch controller, and each trip
unit's timer runs while its selections are true and its fired mark is cleared when they are not (R136, R137, R139). Waiting
changes are taken one after another, first come first taken (R133); that the order is that of the input unit's own list is the
model's choice (notes/assumptions/8.md). A debounced change of an input is such a change. -/
def Obligations.CombinersComputeTheirFunctions : Prop :=
  (∀ (u : InputUnit) (cfg : CombinerCfg) (r : CombinerRec),
    let a := u.cond cfg.a.cond != cfg.a.inverted
    let b := u.cond cfg.b.cond != cfg.b.inverted
    let c := u.cond cfg.c.cond != cfg.c.inverted
    let out := (u.evaluate cfg r).output != cfg.inverted
    (cfg.fn = .never → out = false) ∧ (cfg.fn = .all → out = (a && b && c)) ∧ (cfg.fn = .any → out = (a || b || c)) ∧
    (cfg.fn = .odd → (out = true ↔ (a.toNat + b.toNat + c.toNat) % 2 = 1)) ∧
    (cfg.fn = .majority → (out = true ↔ 2 ≤ a.toNat + b.toNat + c.toNat)) ∧ (cfg.fn = .aOnly → out = a) ∧
    (cfg.fn = .latch → out = (u.evaluate cfg r).stored ∧
      (b = true → (u.evaluate cfg r).stored = false) ∧
      (b = false → a = true → (u.evaluate cfg r).stored = true) ∧
      (b = false → a = false → (u.evaluate cfg r).stored = r.stored)) ∧
    (cfg.fn ≠ .latch → (u.evaluate cfg r).stored = r.stored)) ∧
  (∀ (c : Cond) (b : Bool) (s : State), s.params.noInstantTrip →
    let u := s.inputs.afterChange s.params c b
    let t := s.takeCond c b
    let heard := ((combinerEvents s.params s.inputs u).foldl (fun s e => s.logEvent e) (s.setInputs u)).hearLatch
    t.inputs.conds = s.inputs.conds.put c b ∧ (∀ i, t.inputs.combiner i = u.combiner i) ∧
      LoggedFirst s (combinerEvents s.params s.inputs u) t ∧
      ((s.setInputs u).combined = s.combined → t.latch = s.latch ∧ t.inputs.changes = s.inputs.changes) ∧
      ((s.setInputs u).combined ≠ s.combined → t.latch = heard.latch ∧ t.inputs.changes = heard.inputs.changes) ∧
      (∀ x, t.inputs.tripUnit x =
        if (s.params.tripUnit x).enabled = true ∧ u.tripSelected x (s.params.tripUnit x) = true then
          { since := some ((s.inputs.tripUnit x).since.getD s.now), fired := (s.inputs.tripUnit x).fired }
        else { since := none, fired := false })) ∧
  (∀ (n : Nat) (c : Cond) (b : Bool) (rest : List (Cond × Bool)) (s : State), s.waitingChanges = (c, b) :: rest →
    s.handOnN (n + 1) = ((s.setChanges rest).takeCond c b).handOnN n) ∧
  ∀ (dt : Nat) (i : Input) (b : Bool) (s : State), i ≠ .key → i ≠ .lift → b ≠ (s.inputs.switch i).active →
    ((s.inputs.switch i).differSince.getD (s.now + dt)) + s.params.debounce.toNat * 1000 ≤ s.now + dt →
    s.latch.run = .run → s.params.noInstantTrip → s.NotWaiting → (∀ k, (s.params.combiner k).action ≠ .lockHold) →
    s.decideLatch = none → s.waitingChanges = [] → s.inputs.cond (condOf i) ≠ b →
    ∃ t, exec (.inputChange dt i b) s = .next t ∧
      (∀ k, t.inputs.combiner k = (s.inputs.afterChange s.params (condOf i) b).combiner k) ∧
      (∀ k, t.inputs.cond k = (s.inputs.afterChange s.params (condOf i) b).cond k) ∧
      LoggedFirst s ((if s.params.inputEventMask.getLsbD (inputCode i) then [.inputChange i b] else []) ++
        combinerEvents s.params s.inputs (s.inputs.afterChange s.params (condOf i) b)) t ∧
      (∀ x, t.inputs.tripUnit x =
        if (s.params.tripUnit x).enabled = true ∧
            (s.inputs.afterChange s.params (condOf i) b).tripSelected x (s.params.tripUnit x) = true then
          { since := some ((s.inputs.tripUnit x).since.getD (s.now + dt)), fired := (s.inputs.tripUnit x).fired }
        else { since := none, fired := false })

/-! ## Axes -/

/-- AXIS_SAMPLE with a valid reading: the measurement is the reading less the centre; an axis in OFF or with its drive off has
drive 0; in TRACK with its drive on the drive is that of the position loop, and the tracking timer runs while the error is
beyond its limit (R92), the tilt axis RELEASED under SLOW or LOCKDOWN too, until its sample is upright: with the confirm switch
CLOSED the latch is then ENGAGED in the same handling and the drive off (R119, R114), which, like UNLATCHED_FAULT, is said for
a working set within its ranges and couplings; in SERVICE it is the standing drive value (R88, R90, R91, R93, R110). In
ROUTINE: a suspended routine is held where it was suspended (R104); RELEASE before the latch is RELEASED and ENGAGE until it is
ENGAGED hold the target (R98); a sweep drives at 300 per mille, or at DRIVE_MAX where that is less, and takes a new reference
at 10 cd (R99), and that a sweep and a push read DRIVE_MAX at every sample is the model's choice (notes/assumptions/45.md);
CENTRE goes to the middle, and at 20 cd its routine goes on, a steer HOME by ending, with the centre written on PASS alone, and
a tilt HOME by asking for its engage set (R98, R100); a ramp phase is held at its start angle and starts its ramp at 20 cd, and
a ramp that runs keeps its drive (R101), above a DRIVE_MAX written meanwhile too, which is the model's choice
(notes/assumptions/44.md); a push keeps its largest displacement and ends the LOCK_TEST at 30 cd with a slip (R102). With an
invalid reading the drive is forced to 0 and the measurement stands; the first of a spell fires SENSOR_TILT (LOCKDOWN) or
SENSOR_STEER (DEGRADE) (R89, R141). -/
def Obligations.AxisSampleDrivesTheAxis : Prop :=
  (∀ (dt : Nat) (x : Axis) (m : Int) (s : State), s.params.noInstantTrip → s.NotWaiting →
    (m < -4800 ∨ 4800 < m → ∃ t, exec (.axisSample dt x m) s = .next t ∧
      (t.axis x).drive = 0 ∧ (t.axis x).valid = false ∧ (t.axis x).meas = (s.axis x).meas ∧
      t.pins = s.pins.setAngle x m ∧
      ((s.axis x).valid = true → (∀ y ∈ s.inputs.trips, y.id ≠ (sensorTrip x).1) →
        TripFired (sensorTrip x).1 (sensorTrip x).2 s t) ∧
      ((s.axis x).valid = false → t.inputs.trips = s.inputs.trips) ∧
      sensorTrip .tilt = (.sensorTilt, .lockdown) ∧ sensorTrip .steer = (.sensorSteer, .degrade) ∧
      t.portA = s.portA ∧ t.portB = s.portB ∧ t.store = s.store ∧ SameSpeed s t ∧ SameTargets s t ∧ SameRider s t ∧
      SameSwitches s t ∧ SameSettings s t) ∧
    (-4800 ≤ m → m ≤ 4800 → ∃ t, exec (.axisSample dt x m) s = .next t ∧
      (t.axis x).meas = m - s.params.centre x ∧ (t.axis x).valid = true ∧ t.pins = s.pins.setAngle x m ∧
      ((s.axis x).mode = .off → (t.axis x).drive = 0) ∧
      ((s.axis x).mode = .track → x = .tilt → s.latch.state = .engaged ∨ s.latch.state = .jammed →
        (t.axis x).drive = 0) ∧
      ((s.axis x).mode = .track →
        x = .steer ∨ s.latch.state = .releasing ∨ s.latch.state = .engaging ∨
          (s.latch.state = .unlatchedFault ∧ s.params.Valid) ∨
          (s.latch.state = .released ∧ (s.latch.closed = false ∨ (s.params.Valid ∧
            ((s.slow = false ∧ s.grade ≠ .lockdown) ∨ s.params.uprightWindow < |m - s.params.centre x| ∨
              s.params.uprightWindow < |s.solve.phiS|)))) ∨
          (s.latch.state = .releasePreload ∧ s.preloadOff = false ∧
            ∀ i, (s.params.combiner i).action ≠ .lockHold) →
        (t.axis x).drive = s.params.loop x (s.setpoint x - (m - s.params.centre x)) ∧
        (s.params.trackErr x < |s.setpoint x - (m - s.params.centre x)| →
          (t.axis x).trackSince = some ((s.axis x).trackSince.getD (s.now + dt)) ∧
          (t.axis x).trackFired = (s.axis x).trackFired) ∧
        (|s.setpoint x - (m - s.params.centre x)| ≤ s.params.trackErr x →
          (t.axis x).trackSince = none ∧ (t.axis x).trackFired = false)) ∧
      ((s.axis x).mode = .track → x = .tilt → s.latch.state = .released → s.latch.closed = true → s.latch.pulse = none →
        s.latch.set = none → s.latch.first = none → s.latch.run = .run → s.slot.onTilt = false → s.params.Valid →
        (s.slow = true ∧ s.permit = false) ∨ s.grade = .lockdown → |m - s.params.centre x| ≤ s.params.uprightWindow →
        |s.solve.phiS| ≤ s.params.uprightWindow → t.latch.state = .engaged ∧ t.tilt.drive = 0) ∧
      (∀ d, (s.axis x).mode = .service → s.slot = .service x d → (t.axis x).drive = (d.map (·.value)).getD 0) ∧
      t.now = s.now + dt ∧ t.portA = s.portA ∧ t.portB = s.portB ∧ t.store = s.store ∧ t.auth = s.auth ∧
      t.path = s.path ∧ t.speed = s.speed ∧ SameTargets s t ∧ SameSwitches s t ∧ SameSettings s t)) ∧
  ∀ (dt : Nat) (r : Routine) (m mid : Int) (s : State), s.slot = .routine r → (s.axis r.axis).mode = .routine →
    s.params.noInstantTrip → -4800 ≤ m + s.params.centre r.axis → m + s.params.centre r.axis ≤ 4800 →
    ∃ t, exec (.axisSample dt r.axis (m + s.params.centre r.axis)) s = .next t ∧ (t.axis r.axis).meas = m ∧
      (∀ q, r.held = some q → (t.axis r.axis).drive = s.params.loop r.axis (q - m) ∧ t.slot = s.slot) ∧
      (r.held = none →
        (r.axis = .tilt → (r.phase = .release ∧ s.latch.state ≠ .released) ∨
            (r.phase = .engage ∧ (s.latch.state = .engaging ∨ s.latch.state = .unlatchedFault ∨
              s.latch.state = .released ∨ s.latch.state = .releasing)) →
          t.tilt.drive = s.params.loop .tilt (r.target - m) ∧ t.slot = s.slot) ∧
        (r.phase = .rampLeft ∨ r.phase = .rampRight → r.rampSince ≠ none →
          (t.axis r.axis).drive = (if r.phase = .rampRight then -1 else 1) * r.rampDrive ∧ t.slot = s.slot) ∧
        (r.phase = .sweepLeft ∨ r.phase = .sweepRight →
          (t.axis r.axis).drive = (if r.phase = .sweepRight then -1 else 1) * clampSym s.params.driveMax 300 ∧
          (10 ≤ |m - r.reference| → t.slot = .routine { r with reference := m, stopSince := s.now + dt }) ∧
          (|m - r.reference| < 10 → t.slot = s.slot)) ∧
        (r.phase = .centre → 20 < |r.target - m| →
          (t.axis r.axis).drive = s.params.loop r.axis (r.target - m) ∧ t.slot = s.slot) ∧
        (r.phase = .centre → |r.target - m| ≤ 20 → r.kind = .home → r.axis = .steer → r.v3 = some mid →
          (r.outcome = .pass → RoutineEnded r .pass s t ∧
            t.params = { s.params with steerCentre := max (-1000) (min 1000 (s.params.steerCentre + mid)) }) ∧
          (r.outcome = .failSpan → RoutineEnded r .failSpan s t ∧ t.params = s.params)) ∧
        (r.phase = .centre → |r.target - m| ≤ 20 → r.kind = .home → r.axis = .tilt → s.latch.state = .released →
          s.latch.set = none → s.latch.first = none → s.latch.closed = false →
          t.latch.state = .engaging ∧ t.params = s.params ∧
          ∃ q, t.slot = .routine q ∧ q.axis = .tilt ∧ q.kind = .home ∧ q.phase = .engage ∧ q.held = none ∧
            q.target = r.target ∧ q.v1 = r.v1 ∧ q.v2 = r.v2 ∧ q.v3 = r.v3 ∧ q.outcome = r.outcome) ∧
        (r.phase = .rampLeft ∨ r.phase = .rampRight → r.rampSince = none →
          (20 < |r.target - m| →
            (t.axis r.axis).drive = s.params.loop r.axis (r.target - m) ∧ t.slot = s.slot) ∧
          (|r.target - m| ≤ 20 → (t.axis r.axis).drive = 0 ∧
            t.slot = .routine { r with rampSince := some (s.now + dt), rampDrive := 0, reference := m })) ∧
        (r.phase = .pushLeft ∨ r.phase = .pushRight →
          (max r.maxDisp |m - r.reference| < 30 →
            (t.axis r.axis).drive = (if r.phase = .pushRight then -1 else 1) * clampSym s.params.driveMax 300 ∧
            t.slot = .routine { r with maxDisp := max r.maxDisp |m - r.reference| }) ∧
          (30 ≤ max r.maxDisp |m - r.reference| → t.slot = .free ∧ (t.axis r.axis).drive = 0 ∧ t.setpoint r.axis = m ∧
            (t.axis r.axis).mode = returnedMode (s.axis r.axis).returnMode ∧
            (t.axis r.axis).result =
              { kind := some r.kind, outcome := .failSlip,
                v1 := if r.phase = .pushLeft then some (max r.maxDisp |m - r.reference|) else r.v1,
                v2 := if r.phase = .pushRight then some (max r.maxDisp |m - r.reference|) else r.v2, v3 := r.v3 } ∧
            LoggedFirst s [.lockState .unlatchedFault, .lockFault .slip, .routineEnd r.axis r.kind .failSlip] t ∧
            (s.fast = false → t.latch.state = .unlatchedFault))))

/-- ENABLE: an axis in OFF goes to TRACK with its setpoint at its measurement, one in TRACK stays, one in ROUTINE or SERVICE
keeps its mode and returns to TRACK; the reply carries both modes; NOT_READY under source DEFAULTS (R94, R35). -/
def Obligations.EnableBringsAxesToTrack : Prop :=
  ∀ (dt : Nat) (p : Port) (r : Byte) (s : State), Ready s p →
    (s.store.source = .defaults → exec (.enable dt { port := p, ref := r, payload := [] }) s =
      .next ((s.delivered dt p).answered p 0x10 r .notReady [])) ∧
    (s.store.source ≠ .defaults → s.params.noInstantTrip → s.NotWaiting →
      ∃ t, exec (.enable dt { port := p, ref := r, payload := [] }) s = .next t ∧
        (∀ x, ((s.axis x).mode = .off → (t.axis x).mode = .track ∧ t.setpoint x = (s.axis x).meas) ∧
          ((s.axis x).mode = .track → (t.axis x).mode = .track) ∧
          ((s.axis x).mode = .routine → (t.axis x).mode = .routine ∧ (t.axis x).returnMode = some .track) ∧
          ((s.axis x).mode = .service → (t.axis x).mode = .service ∧ (t.axis x).returnMode = some .track)) ∧
        Replied t p 0x10 r .ok [byteOf t.tilt.mode.code, byteOf t.steer.mode.code] ∧ RequestFrame dt p s t ∧
        t.slot = s.slot ∧ t.params = s.params ∧ t.store = s.store ∧ t.path = s.path ∧ t.auth.hold.isSome = s.auth.hold.isSome)

/-! ## Routines and service sessions -/

/-- START_ROUTINE that passes every check of R97, with the confirm switch CLOSED and no attempt set under way: the axis is in
ROUTINE with its mode as return mode, its record holds the kind and outcome NONE, the slot holds the routine in its first phase
with the centre that is in force; a tilt HOME or FRICTION begins the release, but before the first confirm debounce the latch
stays ENGAGED (the model's choice, notes/assumptions/33.md). The reply is OK. A payload that names no axis and kind of the part
is BAD_ARG; from the holder an occupied slot is BUSY naming the occupant, and any condition that does not hold NOT_NOW; and
nothing changes (R96, R97). -/
def Obligations.StartRoutineTakesTheSlot : Prop :=
  (∀ (dt : Nat) (p : Port) (r : Byte) (bytes : List Byte) (s : State), bytes.length ≤ 38 → Ready s p →
    (∀ (x : Axis) (k : RoutineKind), (x = .steer ∧ k = .lockTest) ∨ bytes ≠ [byteOf (axisNumber x), byteOf k.number]) →
    exec (.startRoutine dt { port := p, ref := r, payload := bytes }) s =
      .next ((s.delivered dt p).answered p 0x30 r .badArg [])) ∧
  (∀ (dt : Nat) (p : Port) (r : Byte) (x : Axis) (k : RoutineKind) (s : State), ¬(x = .steer ∧ k = .lockTest) → Ready s p →
    s.holds p = true →
    (s.slot ≠ .free →
      exec (.startRoutine dt { port := p, ref := r, payload := [byteOf (axisNumber x), byteOf k.number] }) s =
        .next ((s.delivered dt p).answered p 0x30 r .busy [byteOf s.slot.number])) ∧
    (s.slot = .free →
      s.path.queue ≠ [] ∨ s.path.staging ≠ [] ∨ s.path.batchOpen = true ∨ s.grade ≠ .none ∨ s.still = false ∨
        (∃ w, (s.speed.wheel w).speed ≠ 0) ∨
        (x = .tilt ∧ (s.latch.state ≠ .engaged ∨
          (s.inputs.lift.active = false ∧ (k ≠ .lockTest ∨ s.inputs.stand.active = false)))) →
      exec (.startRoutine dt { port := p, ref := r, payload := [byteOf (axisNumber x), byteOf k.number] }) s =
        .next ((s.delivered dt p).answered p 0x30 r .notNow []))) ∧
  ∀ (dt : Nat) (p : Port) (r : Byte) (x : Axis) (k : RoutineKind) (s : State), ¬(x = .steer ∧ k = .lockTest) → Ready s p →
    s.holds p = true → s.slot = .free → s.path.queue = [] → s.path.staging = [] → s.path.batchOpen = false →
    s.grade = .none → s.still = true → (∀ w, (s.speed.wheel w).speed = 0) →
    (x = .tilt → s.latch.state = .engaged ∧
      (s.inputs.lift.active = true ∨ (k = .lockTest ∧ s.inputs.stand.active = true))) →
    s.params.noInstantTrip → s.latch.closed = true → s.latch.set = none →
    ∃ t rt, exec (.startRoutine dt { port := p, ref := r, payload := [byteOf (axisNumber x), byteOf k.number] }) s =
        .next t ∧
      t.slot = .routine rt ∧ rt.axis = x ∧ rt.kind = k ∧ rt.held = none ∧
      rt.phase = (if k = .lockTest then .pushLeft else if x = .tilt then .release else if k = .home then .sweepLeft
        else .rampLeft) ∧
      rt.phaseStart = s.now + dt ∧ rt.reference = (s.axis x).meas ∧ rt.v1 = none ∧ rt.v2 = none ∧ rt.v3 = none ∧
      rt.centre = s.params.centre x ∧ (t.axis x).mode = .routine ∧
      (t.axis x).returnMode = some (if (s.axis x).mode = .track then .track else .off) ∧
      (t.axis x).result = { kind := some k, outcome := .none, v1 := none, v2 := none, v3 := none } ∧
      (x = .tilt → k ≠ .lockTest → s.latch.first = none →
        t.latch.state = .releasing ∧ LoggedFirst s [.lockState .releasing] t) ∧
      (s.latch.first ≠ none → t.latch.state = s.latch.state) ∧
      Replied t p 0x30 r .ok [] ∧ RequestFrame dt p s t ∧ SameSettings s t ∧ t.store = s.store

/-- The requests that need the hold, from a port that is not the holder: NOT_HOLDER, and nothing changes (R59, R66, R97, R104,
R105, R107, R109, R110, R111, R124). LOAD_PATH of every position is also NOT_NOW from the holder while an axis is in ROUTINE or
SERVICE, and carries the counts either way (R59). -/
def Obligations.RequestsNeedTheHold : Prop :=
  (∀ (dt : Nat) (p : Port) (r lo hi : Byte) (x : Axis) (k : RoutineKind) (s : State), Ready s p → s.holds p = false →
    kindExists x k = true →
    exec (.flushPath dt { port := p, ref := r, payload := [] }) s =
      .next ((s.delivered dt p).answered p 0x23 r .notHolder []) ∧
    exec (.startRoutine dt { port := p, ref := r, payload := [byteOf (axisCode x), byteOf k.code] }) s =
      .next ((s.delivered dt p).answered p 0x30 r .notHolder []) ∧
    exec (.suspendRoutine dt { port := p, ref := r, payload := [] }) s =
      .next ((s.delivered dt p).answered p 0x31 r .notHolder []) ∧
    exec (.resumeRoutine dt { port := p, ref := r, payload := [] }) s =
      .next ((s.delivered dt p).answered p 0x32 r .notHolder []) ∧
    exec (.abortRoutine dt { port := p, ref := r, payload := [] }) s =
      .next ((s.delivered dt p).answered p 0x33 r .notHolder []) ∧
    exec (.enterService dt { port := p, ref := r, payload := [byteOf (axisCode x)] }) s =
      .next ((s.delivered dt p).answered p 0x38 r .notHolder []) ∧
    exec (.serviceDrive dt { port := p, ref := r, payload := [lo, hi] }) s =
      .next ((s.delivered dt p).answered p 0x39 r .notHolder []) ∧
    exec (.leaveService dt { port := p, ref := r, payload := [] }) s =
      .next ((s.delivered dt p).answered p 0x3A r .notHolder []) ∧
    exec (.lockDemandPermit dt { port := p, ref := r, payload := [] }) s =
      .next ((s.delivered dt p).answered p 0x14 r .notHolder [])) ∧
  ∀ (dt : Nat) (f : Frame) (s : State) (c : Instr),
    c = .loadPathFirst dt f ∨ c = .loadPathMiddle dt f ∨ c = .loadPathLast dt f ∨ c = .loadPathOnly dt f →
    f.payload.length ≤ 37 → Ready s f.port →
    (s.holds f.port = false → exec c s = .next ((s.delivered dt f.port).answered f.port 0x22 f.ref .notHolder
      s.path.counts)) ∧
    (s.holds f.port = true → s.axisBusy = true →
      exec c s = .next ((s.delivered dt f.port).answered f.port 0x22 f.ref .notNow s.path.counts))

/-- SWEEP_STOP_FOUND: when the measurement has stood for 200 ms, the left stop is kept and the right sweep begins, and the
right stop gives the middle and the outcome, PASS within the span and FAIL_SPAN outside it, and CENTRE begins; a stop is the
present measurement against the centre in force at the start of the routine (R99, R100). PHASE_TIMEOUT: a sweep, CENTRE or the
holding part of a ramp phase that has not completed within 4 s ends its routine with FAIL_TIMEOUT (R99, R100, R101, R103). The
model's choice: the drive of the sweep that begins is clamped to DRIVE_MAX as it stands then (notes/assumptions/45.md), and a
stop of a sweep that began between two samples is found at the very count of 200 ms, with the last sample's measurement
(notes/assumptions/46.md). -/
def Obligations.SweepsFindTheirStopsAndLatePhasesFail : Prop :=
  ∀ (dt : Nat) (r : Routine) (s : State), s.slot = .routine r → r.held = none → s.params.noInstantTrip →
    (r.phase = .sweepLeft ∨ r.phase = .sweepRight ∨ r.phase = .centre ∨
      ((r.phase = .rampLeft ∨ r.phase = .rampRight) ∧ r.rampSince = none) →
      r.phaseStart + 4000000 ≤ s.now + dt →
      ∃ t, exec (.phaseTimeout dt) s = .next t ∧ RoutineEnded r .failTimeout s t ∧ t.params = s.params ∧
        Consequence (s.advance dt) t) ∧
    (r.kind = .home → (s.axis r.axis).mode = .routine → r.stopSince + 200000 ≤ s.now + dt → r.phase = .sweepLeft →
      ∃ t rt, exec (.sweepStopFound dt) s = .next t ∧ t.slot = .routine rt ∧ rt.axis = r.axis ∧ rt.kind = .home ∧
      rt.phase = .sweepRight ∧
      rt.v1 = some ((s.axis r.axis).meas + (s.axis r.axis).against.getD r.centre - r.centre) ∧ rt.centre = r.centre ∧
      rt.held = none ∧ rt.phaseStart = s.now + dt ∧ rt.reference = (s.axis r.axis).meas ∧
      (t.axis r.axis).drive = -clampSym s.params.driveMax 300 ∧ Consequence (s.advance dt) t) ∧
    (∀ left right, r.kind = .home → (s.axis r.axis).mode = .routine → r.stopSince + 200000 ≤ s.now + dt →
      r.phase = .sweepRight → r.v1 = some left →
      right = (s.axis r.axis).meas + (s.axis r.axis).against.getD r.centre - r.centre →
      ∃ t rt, exec (.sweepStopFound dt) s = .next t ∧ t.slot = .routine rt ∧ rt.axis = r.axis ∧ rt.phase = .centre ∧
      rt.v1 = some left ∧ rt.v2 = some right ∧ rt.v3 = some (Int.tdiv (left + right) 2) ∧
      rt.target = Int.tdiv (left + right) 2 ∧ (rt.outcome = .pass ∨ rt.outcome = .failSpan) ∧
      (rt.outcome = .pass ↔ (r.axis = .tilt ∧ 7000 ≤ left - right ∧ left - right ≤ 9800) ∨
        (r.axis = .steer ∧ 6000 ≤ left - right ∧ left - right ≤ 9000)) ∧
      Consequence (s.advance dt) t)

/-- RAMP_STEP: 2 ms after the step before, the drive magnitude grows by 2 per mille up to DRIVE_MAX; at DRIVE_MAX without
movement the routine ends with FAIL_NO_MOVE, and so it does with the drive above a DRIVE_MAX written meanwhile, which is the
model's choice (notes/assumptions/44.md); beyond 20 cd of movement the direction's drive is kept, and after the second
direction of a steer FRICTION the routine passes and writes the larger into FRICTION_STEER (R101, R103). PUSH_PHASE_END: after
300 ms the push's largest displacement is kept; the right push follows the left one, with DRIVE_MAX as it stands then (the
model's choice, notes/assumptions/45.md), and after it the LOCK_TEST passes (R102, R103). -/
def Obligations.RampsAndPushesMeasure : Prop :=
  (∀ (dt : Nat) (r : Routine) (s : State), s.slot = .routine r → r.held = none → r.kind = .lockTest → r.axis = .tilt →
    (s.axis .tilt).mode = .routine → r.phaseStart + 300000 ≤ s.now + dt → s.params.noInstantTrip →
    (r.phase = .pushLeft → ∃ t rt, exec (.pushPhaseEnd dt) s = .next t ∧ t.slot = .routine rt ∧ rt.axis = .tilt ∧
      rt.phase = .pushRight ∧ rt.v1 = some r.maxDisp ∧ rt.maxDisp = 0 ∧ rt.reference = s.tilt.meas ∧
      rt.phaseStart = s.now + dt ∧ t.tilt.drive = -clampSym s.params.driveMax 300 ∧ Consequence (s.advance dt) t) ∧
    (r.phase = .pushRight → r.outcome = .none → ∃ t, exec (.pushPhaseEnd dt) s = .next t ∧
      RoutineEnded { r with v2 := some r.maxDisp } .pass s t ∧ t.params = s.params ∧ Consequence (s.advance dt) t)) ∧
  ∀ (dt e : Nat) (r : Routine) (s : State), s.slot = .routine r → r.held = none → r.rampSince = some e →
    e + 2000 ≤ s.now + dt → r.phase = .rampLeft ∨ r.phase = .rampRight → r.kind = .friction →
    (s.axis r.axis).mode = .routine → s.params.noInstantTrip →
    (mag ((s.axis r.axis).meas - r.reference) ≤ 20 → r.rampDrive < s.params.driveMax →
      ∃ t, exec (.rampStep dt) s = .next t ∧
        t.slot = .routine { r with rampDrive := min s.params.driveMax (r.rampDrive + 2), rampSince := some (s.now + dt) } ∧
        (t.axis r.axis).drive =
          (if r.phase = .rampRight then -1 else 1) * min s.params.driveMax (r.rampDrive + 2) ∧
        Consequence (s.advance dt) t) ∧
    (mag ((s.axis r.axis).meas - r.reference) ≤ 20 → s.params.driveMax ≤ r.rampDrive →
      ∃ t, exec (.rampStep dt) s = .next t ∧ RoutineEnded r .failNoMove s t ∧ Consequence (s.advance dt) t) ∧
    (20 < mag ((s.axis r.axis).meas - r.reference) → r.phase = .rampLeft →
      ∃ t rt, exec (.rampStep dt) s = .next t ∧ t.slot = .routine rt ∧ rt.axis = r.axis ∧ rt.phase = .rampRight ∧
        rt.v1 = some r.rampDrive ∧ rt.rampSince = none ∧ (t.axis r.axis).drive = 0 ∧ Consequence (s.advance dt) t) ∧
    (∀ left, 20 < mag ((s.axis r.axis).meas - r.reference) → r.phase = .rampRight → r.axis = .steer →
      r.v1 = some left → r.outcome = .none →
      ∃ t, exec (.rampStep dt) s = .next t ∧ RoutineEnded { r with v2 := some r.rampDrive } .pass s t ∧
        t.params = { s.params with frictionSteer := max 0 (min 300 (max left r.rampDrive)) } ∧
        Consequence (s.advance dt) t)

/-- SUSPEND_ROUTINE, RESUME_ROUTINE and ABORT_ROUTINE from the holder while a routine is under way: it is held where it stands;
the suspended phase begins again; it ends with ABORTED (R104, R105, R107). A RELEASE or ENGAGE phase that begins again
completes at once where the latch is already RELEASED or ENGAGED, waits for a set that still runs, and else asks for its own
(R98, R100, R101). With no routine under way the three are NOT_NOW, and so is a resume of a routine that is not suspended, or
without standstill; a payload is BAD_ARG (R104, R105, R107). The drive at the moment of suspension, the loop's for an error of
0, is the model's reading (notes/assumptions/25.md). -/
def Obligations.RoutinesSuspendResumeAbort : Prop :=
  (∀ (dt : Nat) (p : Port) (ref : Byte) (bytes : List Byte) (s : State), bytes.length ≤ 38 → Ready s p →
    (bytes ≠ [] →
      exec (.suspendRoutine dt { port := p, ref := ref, payload := bytes }) s =
        .next ((s.delivered dt p).answered p 0x31 ref .badArg []) ∧
      exec (.resumeRoutine dt { port := p, ref := ref, payload := bytes }) s =
        .next ((s.delivered dt p).answered p 0x32 ref .badArg []) ∧
      exec (.abortRoutine dt { port := p, ref := ref, payload := bytes }) s =
        .next ((s.delivered dt p).answered p 0x33 ref .badArg [])) ∧
    (s.holds p = true → (∀ r, s.slot ≠ .routine r) →
      exec (.suspendRoutine dt { port := p, ref := ref, payload := [] }) s =
        .next ((s.delivered dt p).answered p 0x31 ref .notNow []) ∧
      exec (.abortRoutine dt { port := p, ref := ref, payload := [] }) s =
        .next ((s.delivered dt p).answered p 0x33 ref .notNow [])) ∧
    (s.holds p = true →
      (∀ r, s.slot = .routine r → r.held = none ∨ s.still = false ∨ ∃ w, (s.speed.wheel w).speed ≠ 0) →
      exec (.resumeRoutine dt { port := p, ref := ref, payload := [] }) s =
        .next ((s.delivered dt p).answered p 0x32 ref .notNow []))) ∧
  (∀ (dt : Nat) (p : Port) (ref : Byte) (r : Routine) (s : State), Ready s p → s.holds p = true → s.slot = .routine r →
    r.axis = .tilt → r.held ≠ none → s.still = true → (∀ w, (s.speed.wheel w).speed = 0) → s.params.noInstantTrip →
    r.phase = .release ∨ r.phase = .engage →
    ∃ t, exec (.resumeRoutine dt { port := p, ref := ref, payload := [] }) s = .next t ∧
      LoggedFirst s [.routineResume .tilt] t ∧ Replied t p 0x32 ref .ok [] ∧ RequestFrame dt p s t ∧
      (s.latch.state = .releasing ∨ s.latch.state = .engaging → s.latch.set ≠ none →
        t.latch.state = s.latch.state ∧ t.latch.set = s.latch.set ∧ t.latch.pulse = s.latch.pulse ∧ t.params = s.params ∧
        ∃ q, t.slot = .routine q ∧ q.axis = .tilt ∧ q.kind = r.kind ∧ q.phase = r.phase ∧ q.held = none ∧
          q.phaseStart = s.now + dt ∧ (r.phase = .release → q.target = s.tilt.meas) ∧
          (r.phase = .engage → q.target = r.target)) ∧
      (r.phase = .release → s.latch.state = .released → r.kind = .home ∨ r.kind = .friction →
        t.latch.state = .released ∧ t.params = s.params ∧
        ∃ q, t.slot = .routine q ∧ q.axis = .tilt ∧ q.kind = r.kind ∧
          q.phase = (if r.kind = .home then .sweepLeft else .rampLeft) ∧ q.held = none ∧ q.phaseStart = s.now + dt ∧
          q.reference = s.tilt.meas) ∧
      (r.phase = .release → s.latch.state = .engaged → s.latch.set = none → s.latch.first = none →
        s.latch.closed = true → s.latch.pulse = none →
        t.latch.state = .releasing ∧ t.latch.AttemptOpen s.params .release .routine (s.now + dt) ∧
        t.solve.phiS = s.tilt.meas ∧ t.solve.captured = s.tilt.meas ∧ t.params = s.params ∧
        LoggedFirst s [.routineResume .tilt, .lockState .releasing] t ∧
        ∃ q, t.slot = .routine q ∧ q.axis = .tilt ∧ q.kind = r.kind ∧ q.phase = .release ∧ q.held = none ∧
          q.target = s.tilt.meas) ∧
      (r.phase = .engage → s.latch.state = .engaged →
        (r.outcome ≠ .none → RoutineClosed r r.outcome s t ∧
          (s.waitingChanges = [] →
            LoggedFirst s [.routineResume .tilt, .routineEnd .tilt r.kind r.outcome] t)) ∧
        (∀ mid, r.kind = .home → r.v3 = some mid → r.outcome = .pass →
          t.params = { s.params with tiltCentre := max (-1000) (min 1000 (s.params.tiltCentre + mid)) }) ∧
        (r.kind = .home → r.outcome = .failSpan → t.params = s.params) ∧
        (∀ left right, r.kind = .friction → r.v1 = some left → r.v2 = some right → r.outcome = .none →
          RoutineClosed r .pass s t ∧ (s.waitingChanges = [] →
            LoggedFirst s [.routineResume .tilt, .routineEnd .tilt .friction .pass] t) ∧
          t.params = { s.params with frictionTilt := max 0 (min 300 (max left right)) })) ∧
      (r.phase = .engage → s.latch.state = .released → s.latch.set = none → s.latch.first = none →
        s.latch.closed = false → s.latch.pulse = none →
        t.latch.state = .engaging ∧ t.latch.AttemptOpen s.params .engage .routine (s.now + dt) ∧ t.params = s.params ∧
        LoggedFirst s [.routineResume .tilt, .lockState .engaging] t ∧
        ∃ q, t.slot = .routine q ∧ q.axis = .tilt ∧ q.kind = r.kind ∧ q.phase = .engage ∧ q.held = none ∧
          q.target = r.target)) ∧
  ∀ (dt : Nat) (p : Port) (ref : Byte) (r : Routine) (s : State), Ready s p → s.holds p = true → s.slot = .routine r →
    (r.held = none → exec (.suspendRoutine dt { port := p, ref := ref, payload := [] }) s =
      .next (((((s.delivered dt p).setSlot (.routine
          { r with held := some (s.axis r.axis).meas, rampSince := none, rampDrive := 0, maxDisp := 0 })).setDrive
          r.axis (loopDrive s.params r.axis 0)).logEvent (.routineSuspend r.axis)).answered p 0x31 ref .ok [])) ∧
    (r.held ≠ none → exec (.suspendRoutine dt { port := p, ref := ref, payload := [] }) s =
      .next ((s.delivered dt p).answered p 0x31 ref .ok [])) ∧
    (r.held ≠ none → s.still = true → s.wheelsStopped = true → r.phase.awaits = none → s.params.noInstantTrip →
      ∃ t rt, exec (.resumeRoutine dt { port := p, ref := ref, payload := [] }) s = .next t ∧ t.slot = .routine rt ∧
        rt.axis = r.axis ∧ rt.kind = r.kind ∧ rt.phase = r.phase ∧ rt.held = none ∧ rt.phaseStart = s.now + dt ∧
        rt.reference = (s.axis r.axis).meas ∧ rt.rampDrive = 0 ∧ rt.maxDisp = 0 ∧ rt.v1 = r.v1 ∧ rt.v2 = r.v2 ∧
        LoggedFirst s [.routineResume r.axis] t ∧ Replied t p 0x32 ref .ok [] ∧ RequestFrame dt p s t ∧
        t.params = s.params) ∧
    (s.params.noInstantTrip → ∃ t, exec (.abortRoutine dt { port := p, ref := ref, payload := [] }) s = .next t ∧
      RoutineEnded r .aborted s t ∧ Replied t p 0x33 ref .ok [] ∧ RequestFrame dt p s t ∧ t.params = s.params)

/-- A service session: ENTER_SERVICE takes the slot with drive 0; SERVICE_DRIVE applies a clamped value for 100 ms and says
ADJUSTED when it clamped; SERVICE_DRIVE_EXPIRY returns the drive to 0; LEAVE_SERVICE frees the slot and returns the axis with
its setpoint at its measurement (R35, R109, R110, R111). A payload that is not of the request's layout is BAD_ARG. From the
holder, ENTER_SERVICE is BUSY naming the occupant of an occupied slot, and NOT_NOW where a condition does not hold (R96, R109);
SERVICE_DRIVE and LEAVE_SERVICE are NOT_NOW with no session under way (R110, R111); and nothing changes. -/
def Obligations.ServiceSessionsDriveTheAxis : Prop :=
  (∀ (dt : Nat) (p : Port) (r : Byte) (bytes : List Byte) (s : State), bytes.length ≤ 38 → Ready s p →
    ((∀ x, bytes ≠ [byteOf (axisNumber x)]) → exec (.enterService dt { port := p, ref := r, payload := bytes }) s =
      .next ((s.delivered dt p).answered p 0x38 r .badArg [])) ∧
    (bytes.length ≠ 2 → exec (.serviceDrive dt { port := p, ref := r, payload := bytes }) s =
      .next ((s.delivered dt p).answered p 0x39 r .badArg [])) ∧
    (bytes ≠ [] → exec (.leaveService dt { port := p, ref := r, payload := bytes }) s =
      .next ((s.delivered dt p).answered p 0x3A r .badArg []))) ∧
  (∀ (dt : Nat) (p : Port) (r lo hi : Byte) (x : Axis) (s : State), Ready s p → s.holds p = true →
    (s.slot ≠ .free → exec (.enterService dt { port := p, ref := r, payload := [byteOf (axisNumber x)] }) s =
      .next ((s.delivered dt p).answered p 0x38 r .busy [byteOf s.slot.number])) ∧
    (s.slot = .free →
      s.path.queue ≠ [] ∨ s.path.staging ≠ [] ∨ s.path.batchOpen = true ∨ s.grade ≠ .none ∨ s.still = false ∨
        (x = .tilt ∧ s.latch.state ≠ .released ∧ s.latch.state ≠ .unlatchedFault) →
      exec (.enterService dt { port := p, ref := r, payload := [byteOf (axisNumber x)] }) s =
        .next ((s.delivered dt p).answered p 0x38 r .notNow [])) ∧
    ((∀ y d, s.slot ≠ .service y d) →
      exec (.serviceDrive dt { port := p, ref := r, payload := [lo, hi] }) s =
        .next ((s.delivered dt p).answered p 0x39 r .notNow []) ∧
      exec (.leaveService dt { port := p, ref := r, payload := [] }) s =
        .next ((s.delivered dt p).answered p 0x3A r .notNow []))) ∧
  ∀ (dt : Nat) (p : Port) (r lo hi : Byte) (x : Axis) (s : State), Ready s p → s.holds p = true →
    (s.slot = .free → s.path.queue = [] → s.path.staging = [] → s.path.batchOpen = false → s.grade = .none →
      s.still = true → (x = .tilt → s.latch.state = .released ∨ s.latch.state = .unlatchedFault) →
      s.params.noInstantTrip →
      ∃ t, exec (.enterService dt { port := p, ref := r, payload := [byteOf (axisNumber x)] }) s = .next t ∧
        t.slot = .service x none ∧ (t.axis x).mode = .service ∧ (t.axis x).drive = 0 ∧
        (t.axis x).returnMode = some (if (s.axis x).mode = .track then .track else .off) ∧
        Replied t p 0x38 r .ok [] ∧ RequestFrame dt p s t ∧ t.params = s.params) ∧
    (∀ d, s.slot = .service x d →
      exec (.serviceDrive dt { port := p, ref := r, payload := [lo, hi] }) s =
        .next ((((s.delivered dt p).setSlot (.service x (some
            { value := clampSym s.params.driveMax (signed16 lo hi), expiresAt := s.now + dt + 100000 }))).setDrive x
            (if (s.axis x).valid then clampSym s.params.driveMax (signed16 lo hi) else 0)).answered p 0x39 r
          (if clampSym s.params.driveMax (signed16 lo hi) = signed16 lo hi then .ok else .adjusted)
          (le16 (clampSym s.params.driveMax (signed16 lo hi)))) ∧
      (s.params.noInstantTrip → ∃ t, exec (.leaveService dt { port := p, ref := r, payload := [] }) s = .next t ∧
        t.slot = .free ∧ (t.axis x).mode = returnedMode (s.axis x).returnMode ∧ (t.axis x).drive = 0 ∧
        t.setpoint x = (s.axis x).meas ∧ Replied t p 0x3A r .ok [] ∧ RequestFrame dt p s t ∧ t.params = s.params)) ∧
    (∀ d, s.slot = .service x (some d) →
      (d.expiresAt ≤ s.now + dt →
        exec (.serviceDriveExpiry dt) s = .next (((s.advance dt).setSlot (.service x none)).setDrive x 0)) ∧
      (s.now + dt < d.expiresAt → exec (.serviceDriveExpiry dt) s = .next (s.advance dt)))

/-! ## The tilt latch -/

/-- CONFIRM_EDGE: a level that has differed for 5 ms is the confirm level, and moves the latch (R112). Within a set: inside the
window, at its target, the latch takes the target state; after a failed window it does so late; an edge away from the target,
or before the pulse has the coil, leaves set and state alone (R114, R115), which is the model's choice
(notes/assumptions/13.md). With no set: an opening of ENGAGED or RELEASE_PRELOAD without a release pulse is a slip, and so is a
late one of JAMMED; one under the last release pulse of a failed set releases late (R120, R122); a closing of RELEASED without
an engage pulse is uncommanded and stays ENGAGED, at speed too (R122; that it waits for a change of R116's conditions, one that
goes back within the same command too, is the model's reading, notes/assumptions/31.md); a closing of UNLATCHED_FAULT engages,
late under the last engage pulse (R121). The latch states are said where nothing but the latch controller's own rules can move
the latch on, and these do not. A routine's phase that waited for the state completes with it (R98): after RELEASE a HOME
sweeps left, at DRIVE_MAX as it stands then where that is below 300 per mille (the model's choice, notes/assumptions/45.md),
and a FRICTION holds for its left ramp (R99, R101); after ENGAGE the routine ends with its outcome, a tilt HOME on PASS with
TILT_CENTRE written and a tilt FRICTION with FRICTION_TILT (R100, R101, R103). Shorter runs only count, and a sample that
agrees ends the count. -/
def Obligations.ConfirmEdgesMoveTheLatch : Prop :=
  (∀ s : State, s.fast = false ∨ s.lockDemand = true ∨ s.grade = .lockdown ∨ s.tilt.mode ≠ .track →
    s.hearLatch.latch.uncommanded = false) ∧
  (∀ (dt : Nat) (s : State), s.latch.first = none → exec (.confirmEdge dt s.latch.closed) s =
    .next (((s.advance dt).setPins { s.pins with closed := s.latch.closed }).setLatchUnit
      { s.latch with differSince := none })) ∧
  ∀ (dt e : Nat) (c : Bool) (s : State), s.latch.first = none → c ≠ s.latch.closed →
    (s.latch.differSince = some e → e + 5000 ≤ s.now + dt →
      ∃ t, exec (.confirmEdge dt c) s = .next t ∧ t.latch.closed = c ∧ t.latch.differSince = none ∧
        t.pins = { s.pins with closed := c } ∧
        (∀ x, s.latch.set = some x → (∃ n, x.stage = .window n) → c = x.direction.target →
          LoggedFirst s [.lockState x.direction.reached] t) ∧
        (∀ x, s.latch.set = some x → x.stage = .waitPulse ∨ (∃ n, x.stage = .pause n) → c = x.direction.target →
          LoggedFirst s [.lockState x.direction.reached, .lockLate x.direction.reached] t) ∧
        (∀ x, s.latch.set = some x → x.stage ≠ .waitCoil → c = x.direction.target → s.LatchAlone →
          (x.direction = .engage → s.fast = false → s.permit = false →
            t.latch.state = .engaged ∧ t.latch.set = none) ∧
          (x.direction = .release →
            s.params.uprightWindow < mag s.tilt.meas ∨ (s.slow = false ∧ s.grade ≠ .lockdown) →
            t.latch.state = .released ∧ t.latch.set = none)) ∧
        (∀ x, s.latch.set = some x → x.stage = .waitCoil ∨ c ≠ x.direction.target → s.params.noInstantTrip →
          s.latch.state = .releasing ∨ s.latch.state = .engaging →
          t.latch.state = s.latch.state ∧ t.latch.set = some x ∧ t.latch.pulse = s.latch.pulse) ∧
        (s.latch.set = none → s.latch.state = .engaged ∨ s.latch.state = .releasePreload → c = false →
          s.latch.pulsing .release = false →
          LoggedFirst s [.lockState .unlatchedFault, .lockFault .slip] t ∧
          (s.LatchAlone → s.fast = false →
            t.latch.state = .unlatchedFault ∧ t.latch.set = none ∧ t.latch.preloadEnd = none)) ∧
        (s.latch.set = none → s.latch.state = .jammed → c = false →
          (s.latch.lastPulse .release = true → LoggedFirst s [.lockState .released, .lockLate .released] t ∧
            (s.LatchAlone → s.params.uprightWindow < mag s.tilt.meas ∨ (s.slow = false ∧ s.grade ≠ .lockdown) →
              t.latch.state = .released ∧ t.latch.set = none)) ∧
          (s.latch.pulsing .release = false → LoggedFirst s [.lockState .unlatchedFault, .lockFault .slip] t ∧
            (s.LatchAlone → s.fast = false → t.latch.state = .unlatchedFault ∧ t.latch.set = none))) ∧
        (s.latch.set = none → s.latch.state = .released → c = true → s.latch.pulsing .engage = false →
          LoggedFirst s [.lockState .engaged, .lockFault .uncommanded] t ∧
          (s.LatchAlone → s.permit = false → t.latch.state = .engaged ∧ t.latch.set = none ∧
            t.latch.preloadEnd = s.latch.preloadEnd ∧ t.latch.pulse = s.latch.pulse)) ∧
        (s.latch.set = none → s.latch.state = .unlatchedFault → c = true →
          LoggedFirst s (.lockState .engaged :: if s.latch.lastPulse .engage then [.lockLate .engaged] else []) t ∧
          (s.LatchAlone → s.fast = false → s.permit = false → t.latch.state = .engaged ∧ t.latch.set = none)) ∧
        (∀ x r, s.latch.set = some x → (∃ n, x.stage = .window n) → c = x.direction.target → s.params.noInstantTrip →
          s.slot = .routine r → r.axis = .tilt → r.held = none →
          (x.direction = .release → r.phase = .release → r.kind = .home ∨ r.kind = .friction →
            t.latch.state = .released ∧ t.latch.set = none ∧ t.params = s.params ∧
            (r.kind = .home → t.tilt.drive = clampSym s.params.driveMax 300) ∧
            ∃ q, t.slot = .routine q ∧ q.axis = .tilt ∧ q.kind = r.kind ∧
              q.phase = (if r.kind = .home then .sweepLeft else .rampLeft) ∧ q.held = none ∧ q.outcome = r.outcome ∧
              q.phaseStart = s.now + dt ∧ q.reference = s.tilt.meas) ∧
          (x.direction = .engage → r.phase = .engage →
            (∀ mid, r.kind = .home → r.v3 = some mid → r.outcome = .pass → RoutineClosed r .pass s t ∧
              t.params = { s.params with tiltCentre := max (-1000) (min 1000 (s.params.tiltCentre + mid)) }) ∧
            (r.kind = .home → r.outcome = .failSpan → RoutineClosed r .failSpan s t ∧ t.params = s.params) ∧
            (∀ left right, r.kind = .friction → r.v1 = some left → r.v2 = some right → r.outcome = .none →
              RoutineClosed r .pass s t ∧
              t.params = { s.params with frictionTilt := max 0 (min 300 (max left right)) }) ∧
            ((∀ i, (s.params.combiner i).action = .none) → s.waitingChanges = [] → r.outcome ≠ .none →
              LoggedFirst s [.lockState .engaged, .routineEnd .tilt r.kind r.outcome] t))) ∧
        t.portA = s.portA ∧ t.portB = s.portB ∧ t.store = s.store ∧ SameSpeed s t ∧ SameTargets s t ∧ SameRider s t ∧
        SameAngles s t ∧ SameSwitches s t ∧ SameSettings s t ∧ OnlyGrows s t) ∧
    (s.latch.differSince = some e → s.now + dt < e + 5000 →
      exec (.confirmEdge dt c) s = .next ((s.advance dt).setPins { s.pins with closed := c })) ∧
    (s.latch.differSince = none →
      exec (.confirmEdge dt c) s = .next (((s.advance dt).setPins { s.pins with closed := c }).setLatchUnit
        { s.latch with differSince := some (s.now + dt) }))

/-- PULLIN_END and PULSE_END: a pull-in with a hold time goes into its hold phase; a pulse that ends leaves the coil, and where
the latch is RELEASING or ENGAGING its window or pause stands, a set that waited for the pulse to end pauses 50 ms, and a pulse
that waited for the coil starts (R113, R114). With no set it ends in the latch state that stands, where no rule of the latch
controller acts at once; JAMMED becomes ENGAGED at the pulse's end under SLOW with the switch CLOSED (R120). Before their time
the rows have no effect. PRELOAD_EXPIRY: the latch
enters RELEASING, the release pulse starts with the values read now, and its confirm window opens
(R113, R114, R117). Before its time, or in another latch state, the row has no effect. -/
def Obligations.PulsesRunToTheirEnd : Prop :=
  (∀ (dt e : Nat) (s : State), s.latch.preloadEnd = some e →
    (s.latch.state = .releasePreload → e ≤ s.now + dt → s.latch.closed = true → s.latch.pulse = none →
      s.params.noInstantTrip →
      ∃ t, exec (.preloadExpiry dt) s = .next t ∧ t.latch.state = .releasing ∧ t.latch.preloadEnd = none ∧
        t.latch.pulse = some { direction := .release, phase := .pullIn,
                               phaseEnd := s.now + dt + s.params.lockPullinMs.toNat * 1000,
                               pullDuty := s.params.lockPullinDuty, holdMs := s.params.lockHoldMs.toNat,
                               holdDuty := s.params.lockHoldDuty, lastOfFailed := false } ∧
        t.latch.set = some { direction := .release, attempt := 1,
                             stage := .window (s.now + dt + s.params.lockConfirmMs.toNat * 1000), origin := .own } ∧
        LoggedFirst s [.lockState .releasing] t ∧ t.solve.phiS = s.solve.phiS ∧ t.solve.captured = s.solve.captured ∧
        Consequence (s.advance dt) t) ∧
    (s.latch.state ≠ .releasePreload ∨ s.now + dt < e → exec (.preloadExpiry dt) s = .next (s.advance dt))) ∧
  ∀ (dt : Nat) (q : Pulse) (s : State), s.latch.pulse = some q →
    (q.phase = .pullIn → q.phaseEnd ≤ s.now + dt → q.holdMs ≠ 0 →
      exec (.pullinEnd dt) s = .next ((s.advance dt).setLatchUnit { s.latch with
        pulse := some { q with phase := .hold, phaseEnd := q.phaseEnd + q.holdMs * 1000 } })) ∧
    (∀ c, (c = .pullinEnd dt ∧ q.phase = .pullIn ∧ q.holdMs = 0) ∨ (c = .pulseEnd dt ∧ q.phase = .hold) →
      q.phaseEnd ≤ s.now + dt → s.latch.state = .releasing ∨ s.latch.state = .engaging →
      ∃ t, exec c s = .next t ∧ Consequence (s.advance dt) t ∧
        (s.latch.set = none → t.latch.pulse = none ∧ t.latch.set = none ∧ t.latch.state = s.latch.state) ∧
        (∀ x, s.latch.set = some x →
          (x.stage ≠ .waitCoil → t.latch.state = s.latch.state) ∧
          ((∃ n, x.stage = .window n ∨ x.stage = .pause n) → t.latch.pulse = none ∧ t.latch.set = some x) ∧
          (x.stage = .waitPulse → t.latch.pulse = none ∧
            t.latch.set = some { x with stage := .pause (s.now + dt + 50000) }))) ∧
    (∀ c, (c = .pullinEnd dt ∧ q.phase = .pullIn ∧ q.holdMs = 0) ∨ (c = .pulseEnd dt ∧ q.phase = .hold) →
      q.phaseEnd ≤ s.now + dt → s.latch.set = none → s.params.noInstantTrip → s.NotWaiting →
      ∃ t, exec c s = .next t ∧ Consequence (s.advance dt) t ∧
        ((s.latch.state = .engaged ∧ s.fast = false ∧ s.permit = false) ∨
            (s.latch.state = .released ∧ ((s.slow = false ∧ s.grade ≠ .lockdown) ∨
              s.params.uprightWindow < mag s.tilt.meas ∨ s.params.uprightWindow < mag s.solve.phiS)) ∨
            (s.latch.state = .unlatchedFault ∧ s.fast = false) ∨ (s.latch.state = .jammed ∧ s.slow = false) →
          t.latch.pulse = none ∧ t.latch.set = none ∧ t.latch.state = s.latch.state) ∧
        (s.latch.state = .jammed → s.slow = true → s.latch.closed = true → s.latch.first = none → s.fast = false →
          s.permit = false → t.latch.pulse = none ∧ t.latch.set = none ∧ t.latch.state = .engaged ∧
          (s.waitingChanges = [] → LoggedFirst s [.lockState .engaged] t))) ∧
    (∀ x c, (c = .pullinEnd dt ∧ q.phase = .pullIn ∧ q.holdMs = 0) ∨ (c = .pulseEnd dt ∧ q.phase = .hold) →
      q.phaseEnd ≤ s.now + dt → s.latch.set = some x → x.stage = .waitCoil →
      s.latch.state = .releasing ∨ s.latch.state = .engaging → s.latch.closed ≠ x.direction.target →
      ∃ t, exec c s = .next t ∧
        t.latch.set = some { x with stage := .window (s.now + dt + s.params.lockConfirmMs.toNat * 1000) } ∧
        (t.latch.pulse.map (·.phaseEnd)) = some (s.now + dt + s.params.lockPullinMs.toNat * 1000) ∧
        (t.latch.pulse.map (·.direction)) = some x.direction) ∧
    (q.phase ≠ .pullIn ∨ s.now + dt < q.phaseEnd → exec (.pullinEnd dt) s = .next (s.advance dt)) ∧
    (q.phase ≠ .hold ∨ s.now + dt < q.phaseEnd → exec (.pulseEnd dt) s = .next (s.advance dt))

/-- CONFIRM_WINDOW_CLOSE and ATTEMPT_PAUSE_END: after a first or second failure the set pauses 50 ms, once its pulse is over;
the third ends it in JAMMED or UNLATCHED_FAULT with its LOCK_FAULT, and ends its PERMIT and the routine that waited for it; at
the end of a pause the next attempt starts, or an own release set is abandoned, which ends it in ENGAGED (R98, R114, R117,
R120, R124). The latch states after an end, and the decisions below, are said where nothing but the latch controller's own
rules moves the latch on, and these do not. At a NONE after which all conditions hold: a release from ENGAGED through
RELEASE_PRELOAD, with the lean captured (R116, R117, R33); an engagement from RELEASED (R119); the ways out of JAMMED (R120)
and of UNLATCHED_FAULT by speed (R121). That the latch controller looks after every command, one that changes no condition too,
is the model's reading (notes/assumptions/11.md). At a LOCK: the preload is abandoned (R117), and from UNLATCHED_FAULT an
engagement begins where R119's conditions on speed and uprightness hold, and else the state stands (R121). At a PERMIT: a
release straight to RELEASING, whatever the combiners demand (R124). A combined combiner demand, as the default C0 and C1 bring
it about, keeps the latch ENGAGED, abandons a preload, and keeps an UNLATCHED_FAULT from leaving by speed (R125). Last, R116's
sentence on entries: a decision that enters RELEASE_PRELOAD is made from ENGAGED under all of R116's conditions; and a step
that leaves the latch in RELEASE_PRELOAD, where it was not before, from a valid working set and with v the median where the
estimate was GOOD (every step keeps both), leaves it with the estimate GOOD and v at least V_REL (before the step or after it),
no lock demand active, the grade not LOCKDOWN and the tilt axis in TRACK; also where conditions and latch would chase each
other for ever (the model's choice, notes/assumptions/9.md). -/
def Obligations.LatchDecidesRetriesAndFails : Prop :=
  (∀ (dt e : Nat) (x : AttemptSet) (s : State), s.latch.set = some x → e ≤ s.now + dt →
    s.latch.state = .releasing ∨ s.latch.state = .engaging →
    (x.stage = .window e → x.attempt < 3 → ∃ t, exec (.confirmWindowClose dt) s = .next t ∧
      t.latch.state = s.latch.state ∧ t.latch.pulse = s.latch.pulse ∧
      (s.latch.pulse = none → t.latch.set = some { x with stage := .pause (s.now + dt + 50000) }) ∧
      (s.latch.pulse ≠ none → t.latch.set = some { x with stage := .waitPulse }) ∧ Consequence (s.advance dt) t) ∧
    (x.stage = .window e → 3 ≤ x.attempt → ∃ t, exec (.confirmWindowClose dt) s = .next t ∧
      (x.direction = .release → LoggedFirst s [.lockState .jammed, .lockFault .jammed] t) ∧
      (x.direction = .engage → LoggedFirst s [.lockState .unlatchedFault, .lockFault .unlatched] t) ∧
      (x.direction = .release → s.LatchAlone → s.slow = false ∨ s.latch.pulsing .release = true →
        t.latch.state = .jammed ∧ t.latch.set = none) ∧
      (x.direction = .release → s.LatchAlone → s.slow = true → s.latch.closed = true →
        s.latch.pulsing .release = false → s.latch.first = none → s.fast = false → s.permit = false →
        t.latch.state = .engaged ∧ t.latch.set = none) ∧
      (x.direction = .engage → s.LatchAlone → s.fast = false →
        t.latch.state = .unlatchedFault ∧ t.latch.set = none) ∧
      (∀ p, x.direction = .release → x.origin = .permit → s.latch.permitOf = some p → t.latch.item p ≠ .permit) ∧
      (x.origin ≠ .permit → s.noRoutine → s.params.noInstantTrip →
        t.latch.itemA = s.latch.itemA ∧ t.latch.itemB = s.latch.itemB) ∧
      (∀ r, s.slot = .routine r → r.phase.awaits = some x.direction.reached → s.params.noInstantTrip →
        t.slot = .free ∧ (t.axis r.axis).result.outcome = .failTimeout ∧
        t.setpoint r.axis = (s.axis r.axis).meas) ∧
      Consequence (s.advance dt) t) ∧
    (x.stage = .pause e → s.abandons x = false → s.latch.pulse = none → s.latch.closed ≠ x.direction.target →
      ∃ t, exec (.attemptPauseEnd dt) s = .next t ∧
        t.latch.set = some { x with attempt := x.attempt + 1,
                                    stage := .window (s.now + dt + s.params.lockConfirmMs.toNat * 1000) } ∧
        t.latch.pulse = some (Pulse.started s.params x.direction (s.now + dt)) ∧ t.latch.state = s.latch.state ∧
        Consequence (s.advance dt) t) ∧
    (x.stage = .pause e → s.abandons x = true → ∃ t, exec (.attemptPauseEnd dt) s = .next t ∧
      LoggedFirst s [.lockState .engaged] t ∧
      (s.LatchAlone → s.permit = false →
        s.fast = false ∨ s.lockDemand = true ∨ s.grade = .lockdown ∨ s.tilt.mode ≠ .track →
        t.latch.state = .engaged ∧ t.latch.set = none ∧ t.latch.pulse = s.latch.pulse) ∧
      Consequence (s.advance dt) t)) ∧
  (∀ (dt : Nat) (p : Port) (r : Byte) (s : State), Ready s p → s.LatchAlone → s.latch.first = none →
    (s.latch.state = .engaged → s.latch.set = none → s.slot.onTilt = false → s.latch.uncommanded = false →
      s.fast = true → s.tilt.mode = .track → s.grade ≠ .lockdown → s.latch.item (otherPort p) = .none →
      s.combined = false → ∃ t, exec (.lockDemandNone dt { port := p, ref := r, payload := [] }) s = .next t ∧
        t.solve.phiS = s.tilt.meas ∧ t.solve.captured = s.tilt.meas ∧
        (0 < s.params.preloadMs → s.slow = false → t.latch.state = .releasePreload ∧
          t.latch.preloadEnd = some (s.now + dt + s.params.preloadMs.toNat * 1000) ∧
          (s.waitingChanges = [] → LoggedFirst s [.lockState .releasePreload] t)) ∧
        (s.params.preloadMs = 0 → s.latch.closed = true → s.latch.pulse = none → t.latch.state = .releasing ∧
          t.latch.AttemptOpen s.params .release .own (s.now + dt) ∧
          (s.waitingChanges = [] → LoggedFirst s [.lockState .releasePreload, .lockState .releasing] t))) ∧
    (s.latch.state = .released → s.latch.set = none → s.slot.onTilt = false → s.latch.closed = false →
      s.latch.pulse = none → (s.slow = true ∧ s.latch.item (otherPort p) ≠ .permit) ∨ s.grade = .lockdown →
      mag s.tilt.meas ≤ s.params.uprightWindow → mag s.solve.phiS ≤ s.params.uprightWindow →
      ∃ t, exec (.lockDemandNone dt { port := p, ref := r, payload := [] }) s = .next t ∧ t.latch.state = .engaging ∧
        t.latch.AttemptOpen s.params .engage .own (s.now + dt) ∧
        (s.waitingChanges = [] → LoggedFirst s [.lockState .engaging] t)) ∧
    (s.latch.state = .jammed → s.slow = true → s.latch.closed = true → s.latch.pulsing .release = false →
      s.fast = false → s.latch.item (otherPort p) ≠ .permit →
      ∃ t, exec (.lockDemandNone dt { port := p, ref := r, payload := [] }) s = .next t ∧ t.latch.state = .engaged ∧
        (s.waitingChanges = [] → LoggedFirst s [.lockState .engaged] t)) ∧
    (s.latch.state = .unlatchedFault → s.latch.set = none → s.slot.onTilt = false → s.fast = true → s.slow = false →
      s.tilt.mode = .track → s.grade ≠ .lockdown → s.latch.item (otherPort p) ≠ .lock → s.combined = false →
      ∃ t, exec (.lockDemandNone dt { port := p, ref := r, payload := [] }) s = .next t ∧ t.latch.state = .released ∧
        (s.waitingChanges = [] → LoggedFirst s [.lockState .released] t)) ∧
    (s.combined = true → s.latch.set = none →
      (s.latch.state = .engaged → s.latch.item (otherPort p) ≠ .permit →
        ∃ t, exec (.lockDemandNone dt { port := p, ref := r, payload := [] }) s = .next t ∧
          t.latch.state = .engaged ∧ t.latch.set = none ∧ t.latch.pulse = s.latch.pulse ∧ t.combined = true) ∧
      (s.latch.state = .releasePreload → s.latch.item (otherPort p) ≠ .permit →
        ∃ t, exec (.lockDemandNone dt { port := p, ref := r, payload := [] }) s = .next t ∧
          t.latch.state = .engaged ∧ t.latch.preloadEnd = none ∧ t.latch.set = none ∧
          t.latch.pulse = s.latch.pulse ∧ LoggedFirst s [.lockState .engaged] t) ∧
      (s.latch.state = .unlatchedFault →
        ∃ t, exec (.lockDemandNone dt { port := p, ref := r, payload := [] }) s = .next t ∧
          t.latch.state = .unlatchedFault ∧ t.latch.set = none)) ∧
    (s.latch.state = .releasePreload → s.latch.set = none →
      ∃ t, exec (.lockDemandLock dt { port := p, ref := r, payload := [] }) s = .next t ∧ t.latch.state = .engaged ∧
        t.latch.preloadEnd = none ∧ t.latch.set = none ∧ t.latch.pulse = s.latch.pulse ∧
        (s.waitingChanges = [] → LoggedFirst s [.lockState .engaged] t)) ∧
    (s.latch.state = .unlatchedFault → s.latch.set = none → s.slot.onTilt = false →
      (s.slow = true ∨ s.grade = .lockdown → mag s.tilt.meas ≤ s.params.uprightWindow →
        mag s.solve.phiS ≤ s.params.uprightWindow → s.latch.closed = false → s.latch.pulse = none →
        ∃ t, exec (.lockDemandLock dt { port := p, ref := r, payload := [] }) s = .next t ∧
          t.latch.state = .engaging ∧ t.latch.AttemptOpen s.params .engage .own (s.now + dt) ∧
          LoggedFirst s [.lockState .engaging] t) ∧
      ((s.slow = false ∧ s.grade ≠ .lockdown) ∨ s.params.uprightWindow < mag s.tilt.meas ∨
          s.params.uprightWindow < mag s.solve.phiS →
        ∃ t, exec (.lockDemandLock dt { port := p, ref := r, payload := [] }) s = .next t ∧
          t.latch.state = .unlatchedFault ∧ t.latch.set = none)) ∧
    (s.latch.state = .engaged → s.latch.set = none → s.slot.onTilt = false → s.holds p = true →
      s.inputs.lift.active = true → s.still = true → s.grade = .none → s.latch.item (otherPort p) = .none →
      s.tilt.mode = .track → s.latch.closed = true → s.latch.pulse = none →
      ∃ t, exec (.lockDemandPermit dt { port := p, ref := r, payload := [] }) s = .next t ∧
        t.latch.state = .releasing ∧ t.latch.AttemptOpen s.params .release .permit (s.now + dt) ∧
        t.latch.permitOf = some p ∧ t.solve.phiS = s.tilt.meas ∧ t.solve.captured = s.tilt.meas ∧
        (s.waitingChanges = [] → LoggedFirst s [.lockState .releasing] t))) ∧
  (∀ s t : State, s.decideLatch = some t → t.latch.state = .releasePreload →
    s.latch.state = .engaged ∧ s.speed.estimate = .good ∧ s.params.vRel ≤ (s.speed.v : Int) ∧ s.tilt.mode = .track ∧
    s.grade ≠ .lockdown ∧ s.latch.itemA ≠ .lock ∧ s.latch.itemB ≠ .lock ∧ s.combined = false ∧
    s.latch.run = .run ∧ s.latch.set = none ∧ s.slot.onTilt = false) ∧
  ∀ s t : State, s.params.Valid → s.MedianTaken → step s = .next t → s.latch.state ≠ .releasePreload →
    t.latch.state = .releasePreload →
    ((s.speed.estimate = .good ∧ s.params.vRel ≤ (s.speed.v : Int)) ∨
      (t.speed.estimate = .good ∧ t.params.vRel ≤ (t.speed.v : Int))) ∧
    t.latch.itemA ≠ .lock ∧ t.latch.itemB ≠ .lock ∧ t.combined = false ∧ t.grade ≠ .lockdown ∧ t.tilt.mode = .track

/-- The three LOCK_DEMAND rows: the port's item takes the value; LOCK ends the other port's PERMIT; PERMIT needs the hold,
LIFT, STILL, grade NONE and no LOCK of the other port; the reply carries both items, the combined demand and the latch state
(R124), a byte each, numbered as in the status record (09, "Requests and replies", "The status record"); that the reply is read
after the consequences of the request in every block is the model's choice (notes/assumptions/48.md). -/
def Obligations.LockDemandSetsTheItem : Prop :=
  (∀ t : State, t.demandBytes = [byteOf ([DemandItem.none, .lock, .permit].idxOf t.latch.itemA),
    byteOf ([DemandItem.none, .lock, .permit].idxOf t.latch.itemB), if t.combined then 1 else 0,
    byteOf t.latch.state.number]) ∧
  ∀ (dt : Nat) (p : Port) (r : Byte) (s : State), Ready s p → s.params.noInstantTrip →
    (∃ t, exec (.lockDemandNone dt { port := p, ref := r, payload := [] }) s = .next t ∧ t.latch.item p = .none ∧
      t.latch.item (otherPort p) = s.latch.item (otherPort p) ∧ Replied t p 0x14 r .ok t.demandBytes ∧
      RequestFrame dt p s t ∧ t.path = s.path ∧ t.speed = s.speed) ∧
    (∃ t, exec (.lockDemandLock dt { port := p, ref := r, payload := [] }) s = .next t ∧ t.latch.item p = .lock ∧
      t.latch.item (otherPort p) =
        (if s.latch.item (otherPort p) = .permit then .none else s.latch.item (otherPort p)) ∧
      Replied t p 0x14 r .ok t.demandBytes ∧ RequestFrame dt p s t ∧ t.path = s.path ∧ t.speed = s.speed) ∧
    (s.holds p = true → s.inputs.lift.active = true → s.still = true → s.grade = .none →
      s.latch.item (otherPort p) ≠ .lock →
      ∃ t, exec (.lockDemandPermit dt { port := p, ref := r, payload := [] }) s = .next t ∧ t.latch.item p = .permit ∧
        t.latch.item (otherPort p) = s.latch.item (otherPort p) ∧ Replied t p 0x14 r .ok t.demandBytes ∧
        RequestFrame dt p s t ∧ t.path = s.path ∧ t.speed = s.speed) ∧
    (s.holds p = true → s.inputs.lift.active = false ∨ s.still = false ∨ s.grade ≠ .none ∨
        s.latch.item (otherPort p) = .lock →
      exec (.lockDemandPermit dt { port := p, ref := r, payload := [] }) s =
        .next ((s.delivered dt p).answered p 0x14 r .notNow []))

/-- PARK: with every condition of R126 it puts both axes OFF and the run state PARKED, logs nothing and is answered OK;
otherwise it is NOT_NOW (R126, R95, R87). -/
def Obligations.ParkNeedsStandstillAndTheLatch : Prop :=
  ∀ (dt : Nat) (p : Port) (r : Byte) (s : State), Ready s p →
    (s.still = true → s.latch.state = .engaged → s.auth.hold = none → s.slot = .free → s.grade ≠ .lockdown →
      exec (.park dt { port := p, ref := r, payload := [] }) s =
        .next ((((((s.delivered dt p).setTilt s.tilt.toOff).setSteer s.steer.toOff).setAuth
            { s.auth with dropoutSince := none, dropoutFired := false }).setLatchUnit
            { s.latch with run := .parked }).answered p 0x12 r .ok [])) ∧
    (s.still = false ∨ s.latch.state ≠ .engaged ∨ s.auth.hold ≠ none ∨ s.slot ≠ .free ∨ s.grade = .lockdown →
      exec (.park dt { port := p, ref := r, payload := [] }) s =
        .next ((s.delivered dt p).answered p 0x12 r .notNow []))

/-- KEY_OFF_EXPIRY makes an auto-park pending after 2000 ms of KEY inactive; AUTO_PARK, pending and with its conditions, ends a
hold with reason PARK and parks (R128). That the parking is a row of its own and not forced is the model's choice
(notes/assumptions/10.md). -/
def Obligations.KeyOffParks : Prop :=
  ∀ (dt : Nat) (s : State),
    (∀ e, s.latch.keyOffSince = some e → e + 2000000 ≤ s.now + dt →
      exec (.keyOffExpiry dt) s = .next ((s.advance dt).setLatchUnit { s.latch with autoPark := true })) ∧
    (s.latch.keyOffSince = none → exec (.keyOffExpiry dt) s = .next (s.advance dt)) ∧
    (s.latch.autoPark = true → s.latch.run = .run → s.still = true → s.latch.state = .engaged → s.slot = .free →
      s.grade ≠ .lockdown →
      ∃ t, exec (.autoPark dt) s = .next t ∧ t.latch.run = .parked ∧ t.auth.hold = none ∧ t.tilt.mode = .off ∧
        t.steer.mode = .off ∧ t.tilt.drive = 0 ∧ t.steer.drive = 0 ∧ t.path = (if s.auth.hold = none then s.path else .empty) ∧
        (s.auth.hold ≠ none → LoggedFirst s [.holdEnd .park] t) ∧ (s.auth.hold = none → t.log = s.log) ∧
        SameOutside s t ∧ SameTargets s t ∧ SameAngles s t ∧ SameSwitches s t ∧ SameSettings s t) ∧
    (s.latch.autoPark = false ∨ s.latch.run = .parked ∨ s.still = false →
      exec (.autoPark dt) s = .next (s.advance dt))

/-! ## The event log -/

/-- R146 with R147: an append joins the tail with the timestamp while there is room; at 16 records the new one is discarded and
OVERFLOW set; the oldest stay. The lines are only asserted by an append that adds a record (R150). -/
def Obligations.AppendsKeepTheOldest : Prop :=
  ∀ (e : Event) (s : State),
    (s.log.records.length < 16 →
      (s.logEvent e).log.records = s.log.records ++ [{ event := e, stamp := BitVec.ofNat 16 (s.now / 1000) }] ∧
      (s.logEvent e).log.overflow = s.log.overflow ∧
      (s.params.attnMaskA.getLsbD e.category = true → s.log.attnA.gapEnd = none →
        (s.logEvent e).log.attnA.asserted = true) ∧
      (s.params.attnMaskB.getLsbD e.category = true → s.log.attnB.gapEnd = none →
        (s.logEvent e).log.attnB.asserted = true) ∧
      (s.log.attnA.asserted = true → (s.logEvent e).log.attnA.asserted = true) ∧
      (s.log.attnB.asserted = true → (s.logEvent e).log.attnB.asserted = true)) ∧
    (16 ≤ s.log.records.length → (s.logEvent e).log = { s.log with overflow := true }) ∧
    (s.logEvent e).setLog s.log = s

/-- READ_EVENTS: up to six oldest records leave the log and are replied, with the count that stays and OVERFLOW as it stood,
which is then clear; a line whose condition still holds takes a 50 us gap, one whose condition is gone is released, and a read
that removes nothing changes neither line (R148, R150, R151). REARM_GAP_END: at the end of a gap the line takes its condition.
That a gap which runs at a read that leaves the condition false runs on is the model's reading (notes/assumptions/17.md). A
record is code, state and argument as "The event record" (09) lays them out, then the timestamp, low byte first; its category
is the code's high half; a line's condition is a record of a category in its mask (R150). -/
def Obligations.ReadEventsRemovesTheOldest : Prop :=
  (∀ x : EventRec, x.bytes =
    [byteOf x.event.fields.1, byteOf x.event.fields.2.1, byteOf x.event.fields.2.2, byteOf (x.stamp.toNat % 256),
      byteOf (x.stamp.toNat / 256)]) ∧
  (∀ (l : EventLog) (mask : Byte), l.wants mask = true ↔ ∃ x ∈ l.records, mask.getLsbD (x.event.fields.1 / 16) = true) ∧
  ∀ (dt : Nat) (p : Port) (r : Byte) (s : State),
    ((s.port p).place = none → ∃ l, exec (.readEvents dt { port := p, ref := r, payload := [] }) s =
        .next (((s.delivered dt p).setLog l).answered p 0x02 r .ok
          (byteOf (min 6 s.log.records.length) :: ((s.log.records.take 6).flatMap EventRec.bytes ++
            [byteOf (s.log.records.length - 6), if s.log.overflow then 1 else 0]))) ∧
      l.records = s.log.records.drop 6 ∧ l.overflow = false ∧
      (s.log.records = [] → l.attnA = s.log.attnA ∧ l.attnB = s.log.attnB) ∧
      (s.log.records ≠ [] →
        (l.wants s.params.attnMaskA = true → l.attnA = { asserted := false, gapEnd := some (s.now + dt + 50) }) ∧
        (l.wants s.params.attnMaskA = false → l.attnA = { s.log.attnA with asserted := false }) ∧
        (l.wants s.params.attnMaskB = true → l.attnB = { asserted := false, gapEnd := some (s.now + dt + 50) }) ∧
        (l.wants s.params.attnMaskB = false → l.attnB = { s.log.attnB with asserted := false }))) ∧
    (∀ e, (s.log.line p).gapEnd = some e →
      (e ≤ s.now + dt → exec (.rearmGapEnd dt p) s = .next ((s.advance dt).setLog (s.log.setLine p
        { asserted := s.log.wants (s.params.attnMask p), gapEnd := none }))) ∧
      (s.now + dt < e → exec (.rearmGapEnd dt p) s = .next (s.advance dt)))

/-! ## The link ports -/

/-- R155: the CRC of a frame is the remainder of its covered bytes, most significant bit first and followed by eight zero bits,
on division by x^8 + x^2 + x + 1 over the two-element field; it is zero at the start, stands at the end of every reply over
bytes 1 to 1 + N, as the transmitter has it from the moment the reply is fixed, and decides whether a request is complete. -/
def Obligations.FramesCarryTheCrc : Prop :=
  (∀ bs : List Byte, ∃ q : Polynomial (ZMod 2),
    (bs.flatMap (fun b => (List.range 8).map (fun i => b.getLsbD (7 - i)))).foldl
        (fun (m : Polynomial (ZMod 2)) bit => m * .X + if bit then 1 else 0) 0 * .X ^ 8 =
      q * (.X ^ 8 + .X ^ 2 + .X + 1) +
        ((List.range 8).map (fun i => (crc8 bs).getLsbD (7 - i))).foldl
          (fun (m : Polynomial (ZMod 2)) bit => m * .X + if bit then 1 else 0) 0) ∧
  crc8 [] = 0 ∧ crc8 [0x02, 0x01, 0x07] = 0xD6 ∧
  (∀ (kind ref : Byte) (a : Answer), ∃ covered code, replyFrame kind ref a = 0x5A :: (covered ++ [crc8 covered]) ∧
    covered = byteOf (3 + a.payload.length) :: code :: ref :: byteOf a.status.code :: a.payload ∧
    (kind.toNat < 0x80 → code.toNat = kind.toNat + 0x80)) ∧
  (∀ (p : Port) (x : Held) (s : State), ((s.occupy p x).port p).tx.map (·.data) = replyFrame x.kind x.ref x.answer) ∧
  (∀ (dt : Nat) (p : Port) (c : Character) (s : State), (s.port p).rx = .check →
    s.now + dt ≤ (s.port p).lastEnd + 2044 → c.good = true →
    (c.data = crc8 ((s.port p).need :: (s.port p).body) →
      exec (.receivedCharacter dt p c) s = .next ((s.advance dt).complete p)) ∧
    (c.data ≠ crc8 ((s.port p).need :: (s.port p).body) →
      exec (.receivedCharacter dt p c) s = .next ((s.advance dt).rxHunt p)))

/-- RECEIVED_CHARACTER: a character is right when its parity is even and its stop bit high, and every character of a reply
leaves so (R153). A right one outside CHECK: HUNT waits for 0x5A, however long the line was idle; in time, LENGTH takes an N of
2..40 and abandons any other, BODY collects N bytes and goes to CHECK with the last; a late one inside a frame finds the frame
abandoned and is taken in HUNT; nothing but the receiver changes (R154, R156). A character error leaves the receiver in HUNT,
where it stays if it was there (R156). FRAME_ABANDON, FRAME_GAP_TIMEOUT, PORT_OVERRUN and REPLY_SENT: an abandoned frame leaves
the receiver in HUNT and nothing else; an overrun also logs; a reply whose characters can have been sent leaves the transmitter
and empties the holding place (R156, R157, R153, R159). The model's choice: a character is judged in time by 2044 us between
the ends of two characters (notes/assumptions/20.md), and REPLY_SENT takes effect from the earliest end of a reply on
(notes/assumptions/19.md). -/
def Obligations.CharactersAndPortEventsKeepToThePort : Prop :=
  (∀ c : Character, c.good = true ↔ c.stop = true ∧
    ((List.range 8).countP (fun i => c.data.getLsbD i) + c.parity.toNat) % 2 = 0) ∧
  (∀ (p : Port) (x : Held) (s : State), ∀ c ∈ ((s.occupy p x).port p).tx, c.stop = true ∧
    ((List.range 8).countP (fun i => c.data.getLsbD i) + c.parity.toNat) % 2 = 0) ∧
  (∀ (dt : Nat) (p : Port) (c : Character) (s : State), c.good = false →
    exec (.receivedCharacter dt p c) s = .next ((s.advance dt).setPort p
      { s.port p with rx := .hunt, need := 0, body := [], lastEnd := s.now + dt }) ∧
    ((s.port p).rx ≠ .hunt → exec (.frameAbandon dt p (.characterError c)) s = .next ((s.advance dt).rxHunt p))) ∧
  ∀ (dt : Nat) (p : Port) (c : Character) (s : State),
    (c.good = true → (s.port p).rx = .hunt →
      (c.data = 0x5A → exec (.receivedCharacter dt p c) s = .next ((s.advance dt).setPort p
        { s.port p with rx := .length, need := 0, body := [], lastEnd := s.now + dt })) ∧
      (c.data ≠ 0x5A → exec (.receivedCharacter dt p c) s = .next ((s.advance dt).setPort p
        { s.port p with lastEnd := s.now + dt }))) ∧
    (c.good = true → (s.port p).rx ≠ .hunt → (s.port p).lastEnd + 2044 < s.now + dt →
      exec (.receivedCharacter dt p c) s = .next ((s.advance dt).setPort p
        { s.port p with rx := if c.data = 0x5A then .length else .hunt, need := 0, body := [],
                        lastEnd := s.now + dt })) ∧
    (c.good = true → s.now + dt ≤ (s.port p).lastEnd + 2044 →
    ((s.port p).rx = .length → 2 ≤ c.data.toNat → c.data.toNat ≤ 40 →
      exec (.receivedCharacter dt p c) s = .next ((s.advance dt).setPort p
        { s.port p with rx := .body, need := c.data, body := [], lastEnd := s.now + dt })) ∧
    ((s.port p).rx = .length → c.data.toNat < 2 ∨ 40 < c.data.toNat →
      exec (.receivedCharacter dt p c) s = .next ((s.advance dt).setPort p
        { s.port p with rx := .hunt, need := 0, body := [], lastEnd := s.now + dt })) ∧
    ((s.port p).rx = .body → (s.port p).body.length + 1 < (s.port p).need.toNat →
      exec (.receivedCharacter dt p c) s = .next ((s.advance dt).setPort p
        { s.port p with body := (s.port p).body ++ [c.data], lastEnd := s.now + dt })) ∧
    ((s.port p).rx = .body → (s.port p).need.toNat = (s.port p).body.length + 1 →
      exec (.receivedCharacter dt p c) s = .next ((s.advance dt).setPort p
        { s.port p with rx := .check, body := (s.port p).body ++ [c.data], lastEnd := s.now + dt }))) ∧
    (∀ n : Byte, (s.port p).rx = .length → n.toNat < 2 ∨ 40 < n.toNat →
      exec (.frameAbandon dt p (.badLength n)) s = .next ((s.advance dt).rxHunt p)) ∧
    (∀ b : Byte, (s.port p).rx = .check → b ≠ crc8 ((s.port p).need :: (s.port p).body) →
      exec (.frameAbandon dt p (.badCrc b)) s = .next ((s.advance dt).rxHunt p)) ∧
    (∀ a, (s.port p).rx = .hunt → exec (.frameAbandon dt p a) s = .next (s.advance dt)) ∧
    ((s.port p).rx ≠ .hunt → (s.port p).lastEnd + 2000 < s.now + dt →
      exec (.frameGapTimeout dt p) s = .next ((s.advance dt).rxHunt p)) ∧
    ((s.port p).rx = .hunt → exec (.frameGapTimeout dt p) s = .next (s.advance dt)) ∧
    ((s.port p).place ≠ none →
      exec (.portOverrun dt p) s = .next (((s.advance dt).rxHunt p).logEvent (.portOverrun p))) ∧
    (∀ h, (s.port p).place = some h → h.at_ + 44 * (6 + h.answer.payload.length) ≤ s.now + dt →
      exec (.replySent dt p) s = .next ((s.advance dt).setPort p { s.port p with place := none, tx := [] })) ∧
    (∀ h, (s.port p).place = some h → s.now + dt < h.at_ + 44 * (6 + h.answer.payload.length) →
      exec (.replySent dt p) s = .next (s.advance dt))

/-- The reads, in either run state: STATUS answers the 32-byte status record, READ_RESULT the result record or BUSY while the
axis is in ROUTINE, GET_PARAM the number and the value or BAD_ARG, an unknown kind UNKNOWN; the hold is refreshed, and nothing
else changes (R72, R108, R158, R162, R165). A result record is kind, outcome and presence, then three values, absent ones 0; a
numeric value and a mask are 2 bytes, low byte first, in two's complement; combiner and trip unit items are 4 bytes as their
layouts give, byte 2 of T2 reading 0 (09, "Result record and configuration items"). That a CURV_GAIN above 32767 reads as its
low 16 bits is the model's choice (notes/assumptions/41.md). -/
def Obligations.ReadsChangeNothing : Prop :=
  (∀ n : Int, ∃ lo hi, le16 n = [lo, hi] ∧ ((lo.toNat + 256 * hi.toNat : Nat) : Int) = n % 65536) ∧
  (∀ x : ResultRec, x.bytes =
    [byteOf ((x.kind.map (fun k => k.number)).getD 3), byteOf x.outcome.number,
      byteOf (x.v1.isSome.toNat + 2 * x.v2.isSome.toNat + 4 * x.v3.isSome.toNat)] ++
    le16 (x.v1.getD 0) ++ le16 (x.v2.getD 0) ++ le16 (x.v3.getD 0)) ∧
  (∀ p : Params, (∀ x, p.valueBytes (.num x) = le16 (p.get x)) ∧
    p.valueBytes (.mask .inputEvent) = le16 p.inputEventMask.toNat ∧ p.valueBytes (.mask .attnA) = le16 p.attnMaskA.toNat ∧
    p.valueBytes (.mask .attnB) = le16 p.attnMaskB.toNat ∧ p.valueBytes (.mask .wake) = le16 p.wakeMask.toNat ∧
    (∀ i, p.valueBytes (.combiner i) = (p.combiner i).layout) ∧
    p.valueBytes (.tripUnit .t1) = p.t1.layout p.t1.c.layout ∧ p.valueBytes (.tripUnit .t2) = p.t2.layout 0) ∧
  ∀ (dt : Nat) (p : Port) (r : Byte) (s : State), (s.port p).place = none →
    (exec (.status dt { port := p, ref := r, payload := [] }) s =
        .next ((s.delivered dt p).answered p 0x01 r .ok (s.delivered dt p).statusRecord) ∧
      (s.delivered dt p).statusRecord = s.statusRecord ∧ s.statusRecord.length = 32 ∧
      (let trip := fun n => ((s.inputs.trips[n]?).map (fun x => 1 + [TripId.trackTilt, .trackSteer, .sensorTilt,
         .sensorSteer, .handlebar, .speed, .trip1, .trip2].idxOf x.id)).getD 0
       let mode := fun x => [AxisMode.off, .track, .routine, .service].idxOf (s.axis x).mode
       let item := fun x => [DemandItem.none, .lock, .permit].idxOf (s.latch.item x)
       let holder := match s.auth.hold with
         | none => 0
         | some h => if h.port = .a then 1 else 2
       let source := if s.auth.hold = none then 0 else if s.path.queue = [] then 2 else 1
       let slot := match s.slot with
         | .free => 0
         | .routine r => if r.axis = .tilt then 1 else 2
         | .service x _ => if x = .tilt then 3 else 4
         | .storeProgramming _ => 5
       s.statusRecord = [3,
           byteOf ((decide (s.latch.run = .parked)).toNat +
             2 * [CalSource.user, .factory, .defaults].idxOf s.store.source),
           byteOf (mode .tilt + 4 * mode .steer + 16 * [Grade.none, .degrade, .lockdown].idxOf s.grade),
           byteOf ([LatchState.engaged, .releasePreload, .releasing, .released, .engaging, .jammed,
             .unlatchedFault].idxOf s.latch.state),
           byteOf (trip 0 + 16 * trip 1), byteOf (trip 2 + 16 * trip 3), byteOf (trip 4 + 16 * trip 5),
           byteOf (trip 6 + 16 * trip 7),
           byteOf (holder + 4 * source + 16 * s.path.batchOpen.toNat + 32 * s.still.toNat + 64 * s.suspect.toNat),
           byteOf s.path.queue.length, byteOf s.path.staging.length] ++
         le16 s.speed.v ++ le16 s.tilt.meas ++ le16 s.solve.phiS ++ le16 s.solve.phiT ++ le16 s.steer.meas ++
         le16 s.solve.deltaS ++ le16 s.solve.deltaT ++ le16 s.solve.kc ++ le16 s.solve.a ++
         [byteOf (s.solve.curvLimited.toNat + 2 * s.solve.leanLimited.toNat + 4 * s.solve.upright.toNat +
             8 * item .a + 32 * item .b + 128 * s.combined.toNat),
           byteOf slot, byteOf (s.log.records.length + 128 * s.log.overflow.toNat)])) ∧
    (∀ x, (s.axis x).mode ≠ .routine →
      exec (.readResult dt { port := p, ref := r, payload := [byteOf (axisCode x)] }) s =
        .next ((s.delivered dt p).answered p 0x34 r .ok (s.axis x).result.bytes)) ∧
    (∀ x, (s.axis x).mode = .routine →
      exec (.readResult dt { port := p, ref := r, payload := [byteOf (axisCode x)] }) s =
        .next ((s.delivered dt p).answered p 0x34 r .busy [0])) ∧
    (∀ (b : Byte) name, ParamName.ofNumber b.toNat = some name →
      exec (.getParam dt { port := p, ref := r, payload := [b] }) s =
        .next ((s.delivered dt p).answered p 0x03 r .ok (b :: s.params.valueBytes name))) ∧
    (∀ b : Byte, ParamName.ofNumber b.toNat = none →
      exec (.getParam dt { port := p, ref := r, payload := [b] }) s =
        .next ((s.delivered dt p).answered p 0x03 r .badArg [])) ∧
    (∀ (kind : Byte) (bytes : List Byte), bytes.length ≤ 38 → kind.toNat ∉ requestKinds →
      exec (.unknown dt kind { port := p, ref := r, payload := bytes }) s =
        .next ((s.delivered dt p).answered p kind r .unknown []))

/-! ## Parameters, the calibration store, the restart -/

/-- SET_PARAM that passes every check of R163: the working set is the one the write gives, the reply carries the number and the
stored value, and is ADJUSTED exactly when that differs from the value sent; the calibration source stands. The model's choice:
every accepted write of PPR returns the travel accumulator to 0, a write of the same value too (notes/assumptions/16.md), and a
third condition byte of a T2 item is stored as 0, which is ADJUSTED where it was sent as another value
(notes/assumptions/15.md). A write of a combiner clears its stored state and evaluates the combiners on the conditions as last
handed on, with the records that the new actions give, and a demand that it brings about abandons a preload (R138, R136, R137);
a write of a trip unit makes its timer absent, clears fired and starts the timer where it is enabled and its selections are
true (R140); a write of an attention mask evaluates its line, which asserts outside a gap, and releases where the log holds no
record of the mask (R150, R151). No payload, a number that does not exist, and a value that is no value of its parameter are
BAD_ARG, and nothing changes (R163). -/
def Obligations.SetParamStoresTheValue : Prop :=
  (∀ (dt : Nat) (p : Port) (r : Byte) (bytes : List Byte) (s : State), bytes.length ≤ 38 → Ready s p →
    (∀ b value name, bytes = b :: value → ParamName.ofNumber b.toNat = some name → s.params.write name value = none) →
    exec (.setParam dt { port := p, ref := r, payload := bytes }) s =
      .next ((s.delivered dt p).answered p 0x04 r .badArg [])) ∧
  ∀ (dt : Nat) (p : Port) (r b : Byte) (value : List Byte) (name : ParamName) (new : Params) (s : State),
    value.length ≤ 37 → Ready s p → ParamName.ofNumber b.toNat = some name → s.params.write name value = some new →
    (s.heldByOther p = true → exec (.setParam dt { port := p, ref := r, payload := b :: value }) s =
      .next ((s.delivered dt p).answered p 0x04 r .held [byteOf (portCode (otherPort p))])) ∧
    (s.heldByOther p = false → s.slot.programming = true →
      exec (.setParam dt { port := p, ref := r, payload := b :: value }) s =
        .next ((s.delivered dt p).answered p 0x04 r .busy [5])) ∧
    (s.heldByOther p = false → s.slot.programming = false → name.needsStill = true → s.still = false →
      exec (.setParam dt { port := p, ref := r, payload := b :: value }) s =
        .next ((s.delivered dt p).answered p 0x04 r .notNow [])) ∧
    (s.heldByOther p = false → s.slot.programming = false → name.needsStill = false ∨ s.still = true →
      new.noInstantTrip → s.NotWaiting →
      ∃ t, exec (.setParam dt { port := p, ref := r, payload := b :: value }) s = .next t ∧ t.params = new ∧
        Replied t p 0x04 r (if new.valueBytes name = value then .ok else .adjusted) (b :: new.valueBytes name) ∧
        (name = .num .ppr → t.speed.accumulator = 0) ∧ (name ≠ .num .ppr → t.speed = s.speed) ∧
        t.store = s.store ∧ t.path = s.path ∧ t.slot = s.slot ∧ t.inputs.trips = s.inputs.trips ∧
        RequestFrame dt p s t ∧
        (∀ i u, name = .combiner i →
          u = (s.inputs.setCombiner i { s.inputs.combiner i with stored := false }).evaluated new →
          LoggedFirst s (combinerEvents new s.inputs u) t ∧
          (s.waitingChanges = [] →
            (∀ k, ∀ c ∈ [(new.combiner k).a.cond, (new.combiner k).b.cond, (new.combiner k).c.cond],
              c ≠ .locked ∧ c ∉ k.barred) →
            (∀ k, t.inputs.combiner k = u.combiner k) ∧
            (s.latch.state = .releasePreload → s.latch.first = none → s.permit = false → t.combined = true →
              t.latch.state = .engaged ∧ t.latch.preloadEnd = none))) ∧
        (s.waitingChanges = [] → s.decideLatch = none →
          (∀ u, name = .tripUnit u → t.inputs = s.inputs.setTripUnit u
            (if (new.tripUnit u).enabled = true ∧ s.inputs.tripSelected u (new.tripUnit u) = true then
              { since := some (s.now + dt), fired := false } else { since := none, fired := false })) ∧
          (∀ q, name = .mask (if q = .a then .attnA else .attnB) → t.log = s.log.setLine q (t.log.line q) ∧
            (t.log.line q).gapEnd = (s.log.line q).gapEnd ∧
            ((∃ x ∈ s.log.records, (new.attnMask q).getLsbD (x.event.fields.1 / 16) = true) →
              (t.log.line q).asserted = if (s.log.line q).gapEnd = none then true else (s.log.line q).asserted) ∧
            (¬(∃ x ∈ s.log.records, (new.attnMask q).getLsbD (x.event.fields.1 / 16) = true) →
              (t.log.line q).asserted = false))))

/-- The value that a write of a numeric parameter stores: clamped to its range, then to its couplings; a lowered A_MAX takes
A_SAFE with it; every other parameter stands; the set stays valid (R163, R164). For CURV_GAIN, whose range goes beyond what two
signed bytes can say, the clause is the model's choice: its bytes are read as signed, so 0x9C40 stores 1000
(notes/assumptions/41.md). A set that is loaded has each value clamped to its range and the couplings applied in the order of
R166, the masks and items as they are; it is valid whatever the region held. A numeric value of other than 2 bytes is no value.
The values of a mask are the 2 bytes, low byte first, of a number within its field; those of a combiner item the 4 bytes of a
configuration that selects neither its own output nor a higher one's (R136, R138); those of a trip unit item the 4 bytes of a
configuration, whatever byte 2 of a T2 item holds (R140); each is stored as the configuration that its layout names (09,
"Result record and configuration items"). -/
def Obligations.WritesAndLoadsAreClampedAndCoupled : Prop :=
  (∀ (p : Params) (x : Param) (value : List Byte), value.length ≠ 2 → p.write (.num x) value = none) ∧
  (∀ (p q : Params) (m : MaskParam) (value : List Byte), p.write (.mask m) value = some q ↔
    ∃ n, value = [byteOf (n % 256), byteOf (n / 256)] ∧
      ((m = .inputEvent ∧ n < 2 ^ 6 ∧ q = { p with inputEventMask := BitVec.ofNat 6 n }) ∨
        (m = .attnA ∧ n < 2 ^ 8 ∧ q = { p with attnMaskA := BitVec.ofNat 8 n }) ∨
        (m = .attnB ∧ n < 2 ^ 8 ∧ q = { p with attnMaskB := BitVec.ofNat 8 n }) ∨
        (m = .wake ∧ n < 2 ^ 3 ∧ q = { p with wakeMask := BitVec.ofNat 3 n }))) ∧
  (∀ (p q : Params) (i : CombinerId) (value : List Byte), p.write (.combiner i) value = some q ↔
    ∃ x : CombinerCfg, value = x.layout ∧ x.a.cond ∉ i.barred ∧ x.b.cond ∉ i.barred ∧ x.c.cond ∉ i.barred ∧
      ((i = .c0 ∧ q = { p with c0 := x }) ∨ (i = .c1 ∧ q = { p with c1 := x }) ∨ (i = .c2 ∧ q = { p with c2 := x }))) ∧
  (∀ (p q : Params) (u : TripUnit) (value : List Byte), p.write (.tripUnit u) value = some q ↔
    ∃ (x : TripCfg) (third : Byte), value = x.layout third ∧
      ((u = .t1 ∧ third = x.c.layout ∧ q = { p with t1 := x }) ∨
        (u = .t2 ∧ x.c = { cond := .stand, inverted := false } ∧ q = { p with t2 := x }))) ∧
  (∀ (p : Params) (x : Param) (lo hi : Byte), p.Valid →
    ∃ q, p.write (.num x) [lo, hi] = some q ∧ q.Valid ∧
      (∀ y, y ≠ x → (x = .aMax ∧ y = .aSafe → q.get y = min (p.get y) (q.get x)) ∧
        (¬(x = .aMax ∧ y = .aSafe) → q.get y = p.get y)) ∧
      (let v := max x.range.1 (min x.range.2 (signed16 lo hi))
       (x = .vEng → q.get x = min v (p.vRel - 30)) ∧ (x = .vRel → q.get x = max v (p.vEng + 30)) ∧
       (x = .aSafe → q.get x = max 300 (min p.aMax v)) ∧
       (x = .lean1 → q.get x = max 0 (min p.lean2 v)) ∧ (x = .lean2 → q.get x = max p.lean1 (min p.lean3 v)) ∧
       (x = .lean3 → q.get x = max p.lean2 (min p.lean4 v)) ∧ (x = .lean4 → q.get x = max p.lean3 (min p.lean5 v)) ∧
       (x = .lean5 → q.get x = max p.lean4 (min p.lean6 v)) ∧ (x = .lean6 → q.get x = max p.lean5 (min p.lean7 v)) ∧
       (x = .lean7 → q.get x = max p.lean6 (min p.lean8 v)) ∧ (x = .lean8 → q.get x = max p.lean7 (min 4500 v)) ∧
       (x ∉ [.vEng, .vRel, .aSafe, .lean1, .lean2, .lean3, .lean4, .lean5, .lean6, .lean7, .lean8] → q.get x = v)) ∧
      q.inputEventMask = p.inputEventMask ∧ q.attnMaskA = p.attnMaskA ∧ q.attnMaskB = p.attnMaskB ∧
      q.wakeMask = p.wakeMask ∧ (∀ i, q.combiner i = p.combiner i) ∧ (∀ u, q.tripUnit u = p.tripUnit u)) ∧
  ∀ p : Params, p.loaded.Valid ∧
    p.loaded.vRel = max 50 (min 800 p.vRel) ∧ p.loaded.vEng = min (max 20 (min 770 p.vEng)) (p.loaded.vRel - 30) ∧
    p.loaded.aMax = max 500 (min 9000 p.aMax) ∧ p.loaded.aSafe = min (max 300 (min 9000 p.aSafe)) p.loaded.aMax ∧
    p.loaded.lean1 = max 0 (min 4500 p.lean1) ∧ p.loaded.lean2 = max (max 0 (min 4500 p.lean2)) p.loaded.lean1 ∧
    p.loaded.lean3 = max (max 0 (min 4500 p.lean3)) p.loaded.lean2 ∧
    p.loaded.lean4 = max (max 0 (min 4500 p.lean4)) p.loaded.lean3 ∧
    p.loaded.lean5 = max (max 0 (min 4500 p.lean5)) p.loaded.lean4 ∧
    p.loaded.lean6 = max (max 0 (min 4500 p.lean6)) p.loaded.lean5 ∧
    p.loaded.lean7 = max (max 0 (min 4500 p.lean7)) p.loaded.lean6 ∧
    p.loaded.lean8 = max (max 0 (min 4500 p.lean8)) p.loaded.lean7 ∧
    (∀ x, x ∉ [.vEng, .aSafe, .lean1, .lean2, .lean3, .lean4, .lean5, .lean6, .lean7, .lean8] →
      p.loaded.get x = max x.range.1 (min x.range.2 (p.get x))) ∧
    p.loaded.inputEventMask = p.inputEventMask ∧ p.loaded.attnMaskA = p.attnMaskA ∧
    p.loaded.attnMaskB = p.attnMaskB ∧ p.loaded.wakeMask = p.wakeMask ∧
    (∀ i, p.loaded.combiner i = p.combiner i) ∧ (∀ u, p.loaded.tripUnit u = p.tripUnit u) ∧
    Params.builtin.loaded.lean8 = 4500

/-- SOFT_RESTART: refused BUSY while the store is programmed; otherwise any hold ends with reason RESTART, both axes are OFF,
the setpoints and the captured lean are at the measurements, START (SOFT) is logged after whatever ended (said where the slot
was free and no combiner logs a change), and the working set, the source, the regions and the other port stand (R161, R36, R95,
R169). -/
def Obligations.SoftRestartClearsTheSessions : Prop :=
  ∀ (dt : Nat) (p : Port) (r : Byte) (s : State), Ready s p →
    (∀ n, s.slot = .storeProgramming n → exec (.softRestart dt { port := p, ref := r, payload := [] }) s =
      .next ((s.delivered dt p).answered p 0x11 r .busy [5])) ∧
    (s.slot.programming = false →
      ∃ t, exec (.softRestart dt { port := p, ref := r, payload := [] }) s = .next t ∧ t.auth.hold = none ∧
        t.tilt.mode = .off ∧ t.steer.mode = .off ∧ t.slot = .free ∧ t.solve.phiS = s.tilt.meas ∧
        t.solve.deltaS = s.steer.meas ∧ t.solve.captured = s.tilt.meas ∧
        (s.auth.hold ≠ none → t.path = .empty ∧ LoggedFirst s [.holdEnd .restart] t) ∧
        (s.auth.hold = none → s.slot = .free → LoggedFirst s [.startSoft] t) ∧
        (s.auth.hold ≠ none → s.slot = .free → s.params.noInstantTrip → (∀ i, (s.params.combiner i).action = .none) →
          LoggedFirst s [.holdEnd .restart, .startSoft] t) ∧
        Replied t p 0x11 r .ok [] ∧ RequestFrame dt p s t ∧ t.params = s.params ∧ t.store = s.store)

/-- COMMIT_CAL takes a free slot and makes USER fail its check, and is BUSY naming the occupant of an occupied one. STORE_DONE,
60 ms later, makes USER pass with the working set and the source USER on a match, leaves both on a mismatch, logs the outcome
and frees the slot; before that it has no effect (R167). What the compare finds is the row's operand (notes/assumptions/18.md).
-/
def Obligations.CommitProgramsUser : Prop :=
  ∀ (dt : Nat) (p : Port) (r : Byte) (m : Bool) (s : State),
    (Ready s p → s.slot = .free → exec (.commitCal dt { port := p, ref := r, payload := [] }) s =
      .next ((((s.delivered dt p).setStore { s.store with user := { s.store.user with passes := false } }).setSlot
        (.storeProgramming (s.now + dt))).answered p 0x40 r .ok [])) ∧
    (Ready s p → s.slot ≠ .free → exec (.commitCal dt { port := p, ref := r, payload := [] }) s =
      .next ((s.delivered dt p).answered p 0x40 r .busy [byteOf s.slot.code])) ∧
    (∀ n, s.slot = .storeProgramming n → n + 60000 ≤ s.now + dt → exec (.storeDone dt m) s =
      .next ((((s.advance dt).setStore (if m then { s.store with user := { set := s.params, passes := true }, source := .user }
        else s.store)).logEvent (.storeDone m)).setSlot .free)) ∧
    (∀ n, s.slot = .storeProgramming n → s.now + dt < n + 60000 → exec (.storeDone dt m) s = .next (s.advance dt)) ∧
    (s.slot.programming = false → exec (.storeDone dt m) s = .next (s.advance dt))

/-- RESTORE_CAL in the order of its checks: BUSY, HELD, NOT_NOW; carried out, the working set is FACTORY's as loaded, the
source is FACTORY, the travel accumulator is 0, and the regions stand (R166, R168). That the accumulator is 0 whatever PPR was
is the model's reading (notes/assumptions/16.md). -/
def Obligations.RestoreLoadsFactory : Prop :=
  ∀ (dt : Nat) (p : Port) (r : Byte) (s : State), Ready s p →
    (s.slot ≠ .free → exec (.restoreCal dt { port := p, ref := r, payload := [] }) s =
      .next ((s.delivered dt p).answered p 0x41 r .busy [byteOf s.slot.code])) ∧
    (s.slot = .free → s.heldByOther p = true → exec (.restoreCal dt { port := p, ref := r, payload := [] }) s =
      .next ((s.delivered dt p).answered p 0x41 r .held [byteOf (portCode (otherPort p))])) ∧
    (s.slot = .free → s.heldByOther p = false → s.still = false ∨ s.store.factory.passes = false →
      exec (.restoreCal dt { port := p, ref := r, payload := [] }) s =
        .next ((s.delivered dt p).answered p 0x41 r .notNow [])) ∧
    (s.slot = .free → s.heldByOther p = false → s.still = true → s.store.factory.passes = true →
      s.store.factory.set.loaded.noInstantTrip →
      ∃ t, exec (.restoreCal dt { port := p, ref := r, payload := [] }) s = .next t ∧
        t.params = s.store.factory.set.loaded ∧ t.store = { s.store with source := .factory } ∧
        t.speed = { s.speed with accumulator := 0 } ∧ t.path = s.path ∧ t.slot = .free ∧
        t.inputs.trips = s.inputs.trips ∧ Replied t p 0x41 r .ok [] ∧ RequestFrame dt p s t)

end Statements
end

