-- ==== Sys2Proof/Laws/State.lean ====
section
/-! SUPPORT. What each update of the state does to each part of it: one lemma a part and update, each true by
definition. -/

namespace Sys2Proof.Machine

@[simp] theorem State.setPending_pending (s : State) (x : List Instr) : (s.setPending x).pending = x := rfl
@[simp] theorem State.setPending_now (s : State) (x : List Instr) : (s.setPending x).now = s.now := rfl
@[simp] theorem State.setPending_pins (s : State) (x : List Instr) : (s.setPending x).pins = s.pins := rfl
@[simp] theorem State.setPending_speed (s : State) (x : List Instr) : (s.setPending x).speed = s.speed := rfl
@[simp] theorem State.setPending_solve (s : State) (x : List Instr) : (s.setPending x).solve = s.solve := rfl
@[simp] theorem State.setPending_path (s : State) (x : List Instr) : (s.setPending x).path = s.path := rfl
@[simp] theorem State.setPending_auth (s : State) (x : List Instr) : (s.setPending x).auth = s.auth := rfl
@[simp] theorem State.setPending_tilt (s : State) (x : List Instr) : (s.setPending x).tilt = s.tilt := rfl
@[simp] theorem State.setPending_steer (s : State) (x : List Instr) : (s.setPending x).steer = s.steer := rfl
@[simp] theorem State.setPending_slot (s : State) (x : List Instr) : (s.setPending x).slot = s.slot := rfl
@[simp] theorem State.setPending_latch (s : State) (x : List Instr) : (s.setPending x).latch = s.latch := rfl
@[simp] theorem State.setPending_inputs (s : State) (x : List Instr) : (s.setPending x).inputs = s.inputs := rfl
@[simp] theorem State.setPending_log (s : State) (x : List Instr) : (s.setPending x).log = s.log := rfl
@[simp] theorem State.setPending_portA (s : State) (x : List Instr) : (s.setPending x).portA = s.portA := rfl
@[simp] theorem State.setPending_portB (s : State) (x : List Instr) : (s.setPending x).portB = s.portB := rfl
@[simp] theorem State.setPending_params (s : State) (x : List Instr) : (s.setPending x).params = s.params := rfl
@[simp] theorem State.setPending_store (s : State) (x : List Instr) : (s.setPending x).store = s.store := rfl
@[simp] theorem State.setNow_pending (s : State) (x : Nat) : (s.setNow x).pending = s.pending := rfl
@[simp] theorem State.setNow_now (s : State) (x : Nat) : (s.setNow x).now = x := rfl
@[simp] theorem State.setNow_pins (s : State) (x : Nat) : (s.setNow x).pins = s.pins := rfl
@[simp] theorem State.setNow_speed (s : State) (x : Nat) : (s.setNow x).speed = s.speed := rfl
@[simp] theorem State.setNow_solve (s : State) (x : Nat) : (s.setNow x).solve = s.solve := rfl
@[simp] theorem State.setNow_path (s : State) (x : Nat) : (s.setNow x).path = s.path := rfl
@[simp] theorem State.setNow_auth (s : State) (x : Nat) : (s.setNow x).auth = s.auth := rfl
@[simp] theorem State.setNow_tilt (s : State) (x : Nat) : (s.setNow x).tilt = s.tilt := rfl
@[simp] theorem State.setNow_steer (s : State) (x : Nat) : (s.setNow x).steer = s.steer := rfl
@[simp] theorem State.setNow_slot (s : State) (x : Nat) : (s.setNow x).slot = s.slot := rfl
@[simp] theorem State.setNow_latch (s : State) (x : Nat) : (s.setNow x).latch = s.latch := rfl
@[simp] theorem State.setNow_inputs (s : State) (x : Nat) : (s.setNow x).inputs = s.inputs := rfl
@[simp] theorem State.setNow_log (s : State) (x : Nat) : (s.setNow x).log = s.log := rfl
@[simp] theorem State.setNow_portA (s : State) (x : Nat) : (s.setNow x).portA = s.portA := rfl
@[simp] theorem State.setNow_portB (s : State) (x : Nat) : (s.setNow x).portB = s.portB := rfl
@[simp] theorem State.setNow_params (s : State) (x : Nat) : (s.setNow x).params = s.params := rfl
@[simp] theorem State.setNow_store (s : State) (x : Nat) : (s.setNow x).store = s.store := rfl
@[simp] theorem State.setPins_pending (s : State) (x : Pins) : (s.setPins x).pending = s.pending := rfl
@[simp] theorem State.setPins_now (s : State) (x : Pins) : (s.setPins x).now = s.now := rfl
@[simp] theorem State.setPins_pins (s : State) (x : Pins) : (s.setPins x).pins = x := rfl
@[simp] theorem State.setPins_speed (s : State) (x : Pins) : (s.setPins x).speed = s.speed := rfl
@[simp] theorem State.setPins_solve (s : State) (x : Pins) : (s.setPins x).solve = s.solve := rfl
@[simp] theorem State.setPins_path (s : State) (x : Pins) : (s.setPins x).path = s.path := rfl
@[simp] theorem State.setPins_auth (s : State) (x : Pins) : (s.setPins x).auth = s.auth := rfl
@[simp] theorem State.setPins_tilt (s : State) (x : Pins) : (s.setPins x).tilt = s.tilt := rfl
@[simp] theorem State.setPins_steer (s : State) (x : Pins) : (s.setPins x).steer = s.steer := rfl
@[simp] theorem State.setPins_slot (s : State) (x : Pins) : (s.setPins x).slot = s.slot := rfl
@[simp] theorem State.setPins_latch (s : State) (x : Pins) : (s.setPins x).latch = s.latch := rfl
@[simp] theorem State.setPins_inputs (s : State) (x : Pins) : (s.setPins x).inputs = s.inputs := rfl
@[simp] theorem State.setPins_log (s : State) (x : Pins) : (s.setPins x).log = s.log := rfl
@[simp] theorem State.setPins_portA (s : State) (x : Pins) : (s.setPins x).portA = s.portA := rfl
@[simp] theorem State.setPins_portB (s : State) (x : Pins) : (s.setPins x).portB = s.portB := rfl
@[simp] theorem State.setPins_params (s : State) (x : Pins) : (s.setPins x).params = s.params := rfl
@[simp] theorem State.setPins_store (s : State) (x : Pins) : (s.setPins x).store = s.store := rfl
@[simp] theorem State.setSpeed_pending (s : State) (x : SpeedUnit) : (s.setSpeed x).pending = s.pending := rfl
@[simp] theorem State.setSpeed_now (s : State) (x : SpeedUnit) : (s.setSpeed x).now = s.now := rfl
@[simp] theorem State.setSpeed_pins (s : State) (x : SpeedUnit) : (s.setSpeed x).pins = s.pins := rfl
@[simp] theorem State.setSpeed_speed (s : State) (x : SpeedUnit) : (s.setSpeed x).speed = x := rfl
@[simp] theorem State.setSpeed_solve (s : State) (x : SpeedUnit) : (s.setSpeed x).solve = s.solve := rfl
@[simp] theorem State.setSpeed_path (s : State) (x : SpeedUnit) : (s.setSpeed x).path = s.path := rfl
@[simp] theorem State.setSpeed_auth (s : State) (x : SpeedUnit) : (s.setSpeed x).auth = s.auth := rfl
@[simp] theorem State.setSpeed_tilt (s : State) (x : SpeedUnit) : (s.setSpeed x).tilt = s.tilt := rfl
@[simp] theorem State.setSpeed_steer (s : State) (x : SpeedUnit) : (s.setSpeed x).steer = s.steer := rfl
@[simp] theorem State.setSpeed_slot (s : State) (x : SpeedUnit) : (s.setSpeed x).slot = s.slot := rfl
@[simp] theorem State.setSpeed_latch (s : State) (x : SpeedUnit) : (s.setSpeed x).latch = s.latch := rfl
@[simp] theorem State.setSpeed_inputs (s : State) (x : SpeedUnit) : (s.setSpeed x).inputs = s.inputs := rfl
@[simp] theorem State.setSpeed_log (s : State) (x : SpeedUnit) : (s.setSpeed x).log = s.log := rfl
@[simp] theorem State.setSpeed_portA (s : State) (x : SpeedUnit) : (s.setSpeed x).portA = s.portA := rfl
@[simp] theorem State.setSpeed_portB (s : State) (x : SpeedUnit) : (s.setSpeed x).portB = s.portB := rfl
@[simp] theorem State.setSpeed_params (s : State) (x : SpeedUnit) : (s.setSpeed x).params = s.params := rfl
@[simp] theorem State.setSpeed_store (s : State) (x : SpeedUnit) : (s.setSpeed x).store = s.store := rfl
@[simp] theorem State.setSolve_pending (s : State) (x : SolveUnit) : (s.setSolve x).pending = s.pending := rfl
@[simp] theorem State.setSolve_now (s : State) (x : SolveUnit) : (s.setSolve x).now = s.now := rfl
@[simp] theorem State.setSolve_pins (s : State) (x : SolveUnit) : (s.setSolve x).pins = s.pins := rfl
@[simp] theorem State.setSolve_speed (s : State) (x : SolveUnit) : (s.setSolve x).speed = s.speed := rfl
@[simp] theorem State.setSolve_solve (s : State) (x : SolveUnit) : (s.setSolve x).solve = x := rfl
@[simp] theorem State.setSolve_path (s : State) (x : SolveUnit) : (s.setSolve x).path = s.path := rfl
@[simp] theorem State.setSolve_auth (s : State) (x : SolveUnit) : (s.setSolve x).auth = s.auth := rfl
@[simp] theorem State.setSolve_tilt (s : State) (x : SolveUnit) : (s.setSolve x).tilt = s.tilt := rfl
@[simp] theorem State.setSolve_steer (s : State) (x : SolveUnit) : (s.setSolve x).steer = s.steer := rfl
@[simp] theorem State.setSolve_slot (s : State) (x : SolveUnit) : (s.setSolve x).slot = s.slot := rfl
@[simp] theorem State.setSolve_latch (s : State) (x : SolveUnit) : (s.setSolve x).latch = s.latch := rfl
@[simp] theorem State.setSolve_inputs (s : State) (x : SolveUnit) : (s.setSolve x).inputs = s.inputs := rfl
@[simp] theorem State.setSolve_log (s : State) (x : SolveUnit) : (s.setSolve x).log = s.log := rfl
@[simp] theorem State.setSolve_portA (s : State) (x : SolveUnit) : (s.setSolve x).portA = s.portA := rfl
@[simp] theorem State.setSolve_portB (s : State) (x : SolveUnit) : (s.setSolve x).portB = s.portB := rfl
@[simp] theorem State.setSolve_params (s : State) (x : SolveUnit) : (s.setSolve x).params = s.params := rfl
@[simp] theorem State.setSolve_store (s : State) (x : SolveUnit) : (s.setSolve x).store = s.store := rfl
@[simp] theorem State.setPath_pending (s : State) (x : PathUnit) : (s.setPath x).pending = s.pending := rfl
@[simp] theorem State.setPath_now (s : State) (x : PathUnit) : (s.setPath x).now = s.now := rfl
@[simp] theorem State.setPath_pins (s : State) (x : PathUnit) : (s.setPath x).pins = s.pins := rfl
@[simp] theorem State.setPath_speed (s : State) (x : PathUnit) : (s.setPath x).speed = s.speed := rfl
@[simp] theorem State.setPath_solve (s : State) (x : PathUnit) : (s.setPath x).solve = s.solve := rfl
@[simp] theorem State.setPath_path (s : State) (x : PathUnit) : (s.setPath x).path = x := rfl
@[simp] theorem State.setPath_auth (s : State) (x : PathUnit) : (s.setPath x).auth = s.auth := rfl
@[simp] theorem State.setPath_tilt (s : State) (x : PathUnit) : (s.setPath x).tilt = s.tilt := rfl
@[simp] theorem State.setPath_steer (s : State) (x : PathUnit) : (s.setPath x).steer = s.steer := rfl
@[simp] theorem State.setPath_slot (s : State) (x : PathUnit) : (s.setPath x).slot = s.slot := rfl
@[simp] theorem State.setPath_latch (s : State) (x : PathUnit) : (s.setPath x).latch = s.latch := rfl
@[simp] theorem State.setPath_inputs (s : State) (x : PathUnit) : (s.setPath x).inputs = s.inputs := rfl
@[simp] theorem State.setPath_log (s : State) (x : PathUnit) : (s.setPath x).log = s.log := rfl
@[simp] theorem State.setPath_portA (s : State) (x : PathUnit) : (s.setPath x).portA = s.portA := rfl
@[simp] theorem State.setPath_portB (s : State) (x : PathUnit) : (s.setPath x).portB = s.portB := rfl
@[simp] theorem State.setPath_params (s : State) (x : PathUnit) : (s.setPath x).params = s.params := rfl
@[simp] theorem State.setPath_store (s : State) (x : PathUnit) : (s.setPath x).store = s.store := rfl
@[simp] theorem State.setAuth_pending (s : State) (x : AuthorityUnit) : (s.setAuth x).pending = s.pending := rfl
@[simp] theorem State.setAuth_now (s : State) (x : AuthorityUnit) : (s.setAuth x).now = s.now := rfl
@[simp] theorem State.setAuth_pins (s : State) (x : AuthorityUnit) : (s.setAuth x).pins = s.pins := rfl
@[simp] theorem State.setAuth_speed (s : State) (x : AuthorityUnit) : (s.setAuth x).speed = s.speed := rfl
@[simp] theorem State.setAuth_solve (s : State) (x : AuthorityUnit) : (s.setAuth x).solve = s.solve := rfl
@[simp] theorem State.setAuth_path (s : State) (x : AuthorityUnit) : (s.setAuth x).path = s.path := rfl
@[simp] theorem State.setAuth_auth (s : State) (x : AuthorityUnit) : (s.setAuth x).auth = x := rfl
@[simp] theorem State.setAuth_tilt (s : State) (x : AuthorityUnit) : (s.setAuth x).tilt = s.tilt := rfl
@[simp] theorem State.setAuth_steer (s : State) (x : AuthorityUnit) : (s.setAuth x).steer = s.steer := rfl
@[simp] theorem State.setAuth_slot (s : State) (x : AuthorityUnit) : (s.setAuth x).slot = s.slot := rfl
@[simp] theorem State.setAuth_latch (s : State) (x : AuthorityUnit) : (s.setAuth x).latch = s.latch := rfl
@[simp] theorem State.setAuth_inputs (s : State) (x : AuthorityUnit) : (s.setAuth x).inputs = s.inputs := rfl
@[simp] theorem State.setAuth_log (s : State) (x : AuthorityUnit) : (s.setAuth x).log = s.log := rfl
@[simp] theorem State.setAuth_portA (s : State) (x : AuthorityUnit) : (s.setAuth x).portA = s.portA := rfl
@[simp] theorem State.setAuth_portB (s : State) (x : AuthorityUnit) : (s.setAuth x).portB = s.portB := rfl
@[simp] theorem State.setAuth_params (s : State) (x : AuthorityUnit) : (s.setAuth x).params = s.params := rfl
@[simp] theorem State.setAuth_store (s : State) (x : AuthorityUnit) : (s.setAuth x).store = s.store := rfl
@[simp] theorem State.setTilt_pending (s : State) (x : AxisCtl) : (s.setTilt x).pending = s.pending := rfl
@[simp] theorem State.setTilt_now (s : State) (x : AxisCtl) : (s.setTilt x).now = s.now := rfl
@[simp] theorem State.setTilt_pins (s : State) (x : AxisCtl) : (s.setTilt x).pins = s.pins := rfl
@[simp] theorem State.setTilt_speed (s : State) (x : AxisCtl) : (s.setTilt x).speed = s.speed := rfl
@[simp] theorem State.setTilt_solve (s : State) (x : AxisCtl) : (s.setTilt x).solve = s.solve := rfl
@[simp] theorem State.setTilt_path (s : State) (x : AxisCtl) : (s.setTilt x).path = s.path := rfl
@[simp] theorem State.setTilt_auth (s : State) (x : AxisCtl) : (s.setTilt x).auth = s.auth := rfl
@[simp] theorem State.setTilt_tilt (s : State) (x : AxisCtl) : (s.setTilt x).tilt = x := rfl
@[simp] theorem State.setTilt_steer (s : State) (x : AxisCtl) : (s.setTilt x).steer = s.steer := rfl
@[simp] theorem State.setTilt_slot (s : State) (x : AxisCtl) : (s.setTilt x).slot = s.slot := rfl
@[simp] theorem State.setTilt_latch (s : State) (x : AxisCtl) : (s.setTilt x).latch = s.latch := rfl
@[simp] theorem State.setTilt_inputs (s : State) (x : AxisCtl) : (s.setTilt x).inputs = s.inputs := rfl
@[simp] theorem State.setTilt_log (s : State) (x : AxisCtl) : (s.setTilt x).log = s.log := rfl
@[simp] theorem State.setTilt_portA (s : State) (x : AxisCtl) : (s.setTilt x).portA = s.portA := rfl
@[simp] theorem State.setTilt_portB (s : State) (x : AxisCtl) : (s.setTilt x).portB = s.portB := rfl
@[simp] theorem State.setTilt_params (s : State) (x : AxisCtl) : (s.setTilt x).params = s.params := rfl
@[simp] theorem State.setTilt_store (s : State) (x : AxisCtl) : (s.setTilt x).store = s.store := rfl
@[simp] theorem State.setSteer_pending (s : State) (x : AxisCtl) : (s.setSteer x).pending = s.pending := rfl
@[simp] theorem State.setSteer_now (s : State) (x : AxisCtl) : (s.setSteer x).now = s.now := rfl
@[simp] theorem State.setSteer_pins (s : State) (x : AxisCtl) : (s.setSteer x).pins = s.pins := rfl
@[simp] theorem State.setSteer_speed (s : State) (x : AxisCtl) : (s.setSteer x).speed = s.speed := rfl
@[simp] theorem State.setSteer_solve (s : State) (x : AxisCtl) : (s.setSteer x).solve = s.solve := rfl
@[simp] theorem State.setSteer_path (s : State) (x : AxisCtl) : (s.setSteer x).path = s.path := rfl
@[simp] theorem State.setSteer_auth (s : State) (x : AxisCtl) : (s.setSteer x).auth = s.auth := rfl
@[simp] theorem State.setSteer_tilt (s : State) (x : AxisCtl) : (s.setSteer x).tilt = s.tilt := rfl
@[simp] theorem State.setSteer_steer (s : State) (x : AxisCtl) : (s.setSteer x).steer = x := rfl
@[simp] theorem State.setSteer_slot (s : State) (x : AxisCtl) : (s.setSteer x).slot = s.slot := rfl
@[simp] theorem State.setSteer_latch (s : State) (x : AxisCtl) : (s.setSteer x).latch = s.latch := rfl
@[simp] theorem State.setSteer_inputs (s : State) (x : AxisCtl) : (s.setSteer x).inputs = s.inputs := rfl
@[simp] theorem State.setSteer_log (s : State) (x : AxisCtl) : (s.setSteer x).log = s.log := rfl
@[simp] theorem State.setSteer_portA (s : State) (x : AxisCtl) : (s.setSteer x).portA = s.portA := rfl
@[simp] theorem State.setSteer_portB (s : State) (x : AxisCtl) : (s.setSteer x).portB = s.portB := rfl
@[simp] theorem State.setSteer_params (s : State) (x : AxisCtl) : (s.setSteer x).params = s.params := rfl
@[simp] theorem State.setSteer_store (s : State) (x : AxisCtl) : (s.setSteer x).store = s.store := rfl
@[simp] theorem State.setSlot_pending (s : State) (x : Slot) : (s.setSlot x).pending = s.pending := rfl
@[simp] theorem State.setSlot_now (s : State) (x : Slot) : (s.setSlot x).now = s.now := rfl
@[simp] theorem State.setSlot_pins (s : State) (x : Slot) : (s.setSlot x).pins = s.pins := rfl
@[simp] theorem State.setSlot_speed (s : State) (x : Slot) : (s.setSlot x).speed = s.speed := rfl
@[simp] theorem State.setSlot_solve (s : State) (x : Slot) : (s.setSlot x).solve = s.solve := rfl
@[simp] theorem State.setSlot_path (s : State) (x : Slot) : (s.setSlot x).path = s.path := rfl
@[simp] theorem State.setSlot_auth (s : State) (x : Slot) : (s.setSlot x).auth = s.auth := rfl
@[simp] theorem State.setSlot_tilt (s : State) (x : Slot) : (s.setSlot x).tilt = s.tilt := rfl
@[simp] theorem State.setSlot_steer (s : State) (x : Slot) : (s.setSlot x).steer = s.steer := rfl
@[simp] theorem State.setSlot_slot (s : State) (x : Slot) : (s.setSlot x).slot = x := rfl
@[simp] theorem State.setSlot_latch (s : State) (x : Slot) : (s.setSlot x).latch = s.latch := rfl
@[simp] theorem State.setSlot_inputs (s : State) (x : Slot) : (s.setSlot x).inputs = s.inputs := rfl
@[simp] theorem State.setSlot_log (s : State) (x : Slot) : (s.setSlot x).log = s.log := rfl
@[simp] theorem State.setSlot_portA (s : State) (x : Slot) : (s.setSlot x).portA = s.portA := rfl
@[simp] theorem State.setSlot_portB (s : State) (x : Slot) : (s.setSlot x).portB = s.portB := rfl
@[simp] theorem State.setSlot_params (s : State) (x : Slot) : (s.setSlot x).params = s.params := rfl
@[simp] theorem State.setSlot_store (s : State) (x : Slot) : (s.setSlot x).store = s.store := rfl
@[simp] theorem State.setLatchUnit_pending (s : State) (x : LatchUnit) : (s.setLatchUnit x).pending = s.pending := rfl
@[simp] theorem State.setLatchUnit_now (s : State) (x : LatchUnit) : (s.setLatchUnit x).now = s.now := rfl
@[simp] theorem State.setLatchUnit_pins (s : State) (x : LatchUnit) : (s.setLatchUnit x).pins = s.pins := rfl
@[simp] theorem State.setLatchUnit_speed (s : State) (x : LatchUnit) : (s.setLatchUnit x).speed = s.speed := rfl
@[simp] theorem State.setLatchUnit_solve (s : State) (x : LatchUnit) : (s.setLatchUnit x).solve = s.solve := rfl
@[simp] theorem State.setLatchUnit_path (s : State) (x : LatchUnit) : (s.setLatchUnit x).path = s.path := rfl
@[simp] theorem State.setLatchUnit_auth (s : State) (x : LatchUnit) : (s.setLatchUnit x).auth = s.auth := rfl
@[simp] theorem State.setLatchUnit_tilt (s : State) (x : LatchUnit) : (s.setLatchUnit x).tilt = s.tilt := rfl
@[simp] theorem State.setLatchUnit_steer (s : State) (x : LatchUnit) : (s.setLatchUnit x).steer = s.steer := rfl
@[simp] theorem State.setLatchUnit_slot (s : State) (x : LatchUnit) : (s.setLatchUnit x).slot = s.slot := rfl
@[simp] theorem State.setLatchUnit_latch (s : State) (x : LatchUnit) : (s.setLatchUnit x).latch = x := rfl
@[simp] theorem State.setLatchUnit_inputs (s : State) (x : LatchUnit) : (s.setLatchUnit x).inputs = s.inputs := rfl
@[simp] theorem State.setLatchUnit_log (s : State) (x : LatchUnit) : (s.setLatchUnit x).log = s.log := rfl
@[simp] theorem State.setLatchUnit_portA (s : State) (x : LatchUnit) : (s.setLatchUnit x).portA = s.portA := rfl
@[simp] theorem State.setLatchUnit_portB (s : State) (x : LatchUnit) : (s.setLatchUnit x).portB = s.portB := rfl
@[simp] theorem State.setLatchUnit_params (s : State) (x : LatchUnit) : (s.setLatchUnit x).params = s.params := rfl
@[simp] theorem State.setLatchUnit_store (s : State) (x : LatchUnit) : (s.setLatchUnit x).store = s.store := rfl
@[simp] theorem State.setInputs_pending (s : State) (x : InputUnit) : (s.setInputs x).pending = s.pending := rfl
@[simp] theorem State.setInputs_now (s : State) (x : InputUnit) : (s.setInputs x).now = s.now := rfl
@[simp] theorem State.setInputs_pins (s : State) (x : InputUnit) : (s.setInputs x).pins = s.pins := rfl
@[simp] theorem State.setInputs_speed (s : State) (x : InputUnit) : (s.setInputs x).speed = s.speed := rfl
@[simp] theorem State.setInputs_solve (s : State) (x : InputUnit) : (s.setInputs x).solve = s.solve := rfl
@[simp] theorem State.setInputs_path (s : State) (x : InputUnit) : (s.setInputs x).path = s.path := rfl
@[simp] theorem State.setInputs_auth (s : State) (x : InputUnit) : (s.setInputs x).auth = s.auth := rfl
@[simp] theorem State.setInputs_tilt (s : State) (x : InputUnit) : (s.setInputs x).tilt = s.tilt := rfl
@[simp] theorem State.setInputs_steer (s : State) (x : InputUnit) : (s.setInputs x).steer = s.steer := rfl
@[simp] theorem State.setInputs_slot (s : State) (x : InputUnit) : (s.setInputs x).slot = s.slot := rfl
@[simp] theorem State.setInputs_latch (s : State) (x : InputUnit) : (s.setInputs x).latch = s.latch := rfl
@[simp] theorem State.setInputs_inputs (s : State) (x : InputUnit) : (s.setInputs x).inputs = x := rfl
@[simp] theorem State.setInputs_log (s : State) (x : InputUnit) : (s.setInputs x).log = s.log := rfl
@[simp] theorem State.setInputs_portA (s : State) (x : InputUnit) : (s.setInputs x).portA = s.portA := rfl
@[simp] theorem State.setInputs_portB (s : State) (x : InputUnit) : (s.setInputs x).portB = s.portB := rfl
@[simp] theorem State.setInputs_params (s : State) (x : InputUnit) : (s.setInputs x).params = s.params := rfl
@[simp] theorem State.setInputs_store (s : State) (x : InputUnit) : (s.setInputs x).store = s.store := rfl
@[simp] theorem State.setLog_pending (s : State) (x : EventLog) : (s.setLog x).pending = s.pending := rfl
@[simp] theorem State.setLog_now (s : State) (x : EventLog) : (s.setLog x).now = s.now := rfl
@[simp] theorem State.setLog_pins (s : State) (x : EventLog) : (s.setLog x).pins = s.pins := rfl
@[simp] theorem State.setLog_speed (s : State) (x : EventLog) : (s.setLog x).speed = s.speed := rfl
@[simp] theorem State.setLog_solve (s : State) (x : EventLog) : (s.setLog x).solve = s.solve := rfl
@[simp] theorem State.setLog_path (s : State) (x : EventLog) : (s.setLog x).path = s.path := rfl
@[simp] theorem State.setLog_auth (s : State) (x : EventLog) : (s.setLog x).auth = s.auth := rfl
@[simp] theorem State.setLog_tilt (s : State) (x : EventLog) : (s.setLog x).tilt = s.tilt := rfl
@[simp] theorem State.setLog_steer (s : State) (x : EventLog) : (s.setLog x).steer = s.steer := rfl
@[simp] theorem State.setLog_slot (s : State) (x : EventLog) : (s.setLog x).slot = s.slot := rfl
@[simp] theorem State.setLog_latch (s : State) (x : EventLog) : (s.setLog x).latch = s.latch := rfl
@[simp] theorem State.setLog_inputs (s : State) (x : EventLog) : (s.setLog x).inputs = s.inputs := rfl
@[simp] theorem State.setLog_log (s : State) (x : EventLog) : (s.setLog x).log = x := rfl
@[simp] theorem State.setLog_portA (s : State) (x : EventLog) : (s.setLog x).portA = s.portA := rfl
@[simp] theorem State.setLog_portB (s : State) (x : EventLog) : (s.setLog x).portB = s.portB := rfl
@[simp] theorem State.setLog_params (s : State) (x : EventLog) : (s.setLog x).params = s.params := rfl
@[simp] theorem State.setLog_store (s : State) (x : EventLog) : (s.setLog x).store = s.store := rfl
@[simp] theorem State.setPortA_pending (s : State) (x : PortRec) : (s.setPortA x).pending = s.pending := rfl
@[simp] theorem State.setPortA_now (s : State) (x : PortRec) : (s.setPortA x).now = s.now := rfl
@[simp] theorem State.setPortA_pins (s : State) (x : PortRec) : (s.setPortA x).pins = s.pins := rfl
@[simp] theorem State.setPortA_speed (s : State) (x : PortRec) : (s.setPortA x).speed = s.speed := rfl
@[simp] theorem State.setPortA_solve (s : State) (x : PortRec) : (s.setPortA x).solve = s.solve := rfl
@[simp] theorem State.setPortA_path (s : State) (x : PortRec) : (s.setPortA x).path = s.path := rfl
@[simp] theorem State.setPortA_auth (s : State) (x : PortRec) : (s.setPortA x).auth = s.auth := rfl
@[simp] theorem State.setPortA_tilt (s : State) (x : PortRec) : (s.setPortA x).tilt = s.tilt := rfl
@[simp] theorem State.setPortA_steer (s : State) (x : PortRec) : (s.setPortA x).steer = s.steer := rfl
@[simp] theorem State.setPortA_slot (s : State) (x : PortRec) : (s.setPortA x).slot = s.slot := rfl
@[simp] theorem State.setPortA_latch (s : State) (x : PortRec) : (s.setPortA x).latch = s.latch := rfl
@[simp] theorem State.setPortA_inputs (s : State) (x : PortRec) : (s.setPortA x).inputs = s.inputs := rfl
@[simp] theorem State.setPortA_log (s : State) (x : PortRec) : (s.setPortA x).log = s.log := rfl
@[simp] theorem State.setPortA_portA (s : State) (x : PortRec) : (s.setPortA x).portA = x := rfl
@[simp] theorem State.setPortA_portB (s : State) (x : PortRec) : (s.setPortA x).portB = s.portB := rfl
@[simp] theorem State.setPortA_params (s : State) (x : PortRec) : (s.setPortA x).params = s.params := rfl
@[simp] theorem State.setPortA_store (s : State) (x : PortRec) : (s.setPortA x).store = s.store := rfl
@[simp] theorem State.setPortB_pending (s : State) (x : PortRec) : (s.setPortB x).pending = s.pending := rfl
@[simp] theorem State.setPortB_now (s : State) (x : PortRec) : (s.setPortB x).now = s.now := rfl
@[simp] theorem State.setPortB_pins (s : State) (x : PortRec) : (s.setPortB x).pins = s.pins := rfl
@[simp] theorem State.setPortB_speed (s : State) (x : PortRec) : (s.setPortB x).speed = s.speed := rfl
@[simp] theorem State.setPortB_solve (s : State) (x : PortRec) : (s.setPortB x).solve = s.solve := rfl
@[simp] theorem State.setPortB_path (s : State) (x : PortRec) : (s.setPortB x).path = s.path := rfl
@[simp] theorem State.setPortB_auth (s : State) (x : PortRec) : (s.setPortB x).auth = s.auth := rfl
@[simp] theorem State.setPortB_tilt (s : State) (x : PortRec) : (s.setPortB x).tilt = s.tilt := rfl
@[simp] theorem State.setPortB_steer (s : State) (x : PortRec) : (s.setPortB x).steer = s.steer := rfl
@[simp] theorem State.setPortB_slot (s : State) (x : PortRec) : (s.setPortB x).slot = s.slot := rfl
@[simp] theorem State.setPortB_latch (s : State) (x : PortRec) : (s.setPortB x).latch = s.latch := rfl
@[simp] theorem State.setPortB_inputs (s : State) (x : PortRec) : (s.setPortB x).inputs = s.inputs := rfl
@[simp] theorem State.setPortB_log (s : State) (x : PortRec) : (s.setPortB x).log = s.log := rfl
@[simp] theorem State.setPortB_portA (s : State) (x : PortRec) : (s.setPortB x).portA = s.portA := rfl
@[simp] theorem State.setPortB_portB (s : State) (x : PortRec) : (s.setPortB x).portB = x := rfl
@[simp] theorem State.setPortB_params (s : State) (x : PortRec) : (s.setPortB x).params = s.params := rfl
@[simp] theorem State.setPortB_store (s : State) (x : PortRec) : (s.setPortB x).store = s.store := rfl
@[simp] theorem State.setParams_pending (s : State) (x : Params) : (s.setParams x).pending = s.pending := rfl
@[simp] theorem State.setParams_now (s : State) (x : Params) : (s.setParams x).now = s.now := rfl
@[simp] theorem State.setParams_pins (s : State) (x : Params) : (s.setParams x).pins = s.pins := rfl
@[simp] theorem State.setParams_speed (s : State) (x : Params) : (s.setParams x).speed = s.speed := rfl
@[simp] theorem State.setParams_solve (s : State) (x : Params) : (s.setParams x).solve = s.solve := rfl
@[simp] theorem State.setParams_path (s : State) (x : Params) : (s.setParams x).path = s.path := rfl
@[simp] theorem State.setParams_auth (s : State) (x : Params) : (s.setParams x).auth = s.auth := rfl
@[simp] theorem State.setParams_tilt (s : State) (x : Params) : (s.setParams x).tilt = s.tilt := rfl
@[simp] theorem State.setParams_steer (s : State) (x : Params) : (s.setParams x).steer = s.steer := rfl
@[simp] theorem State.setParams_slot (s : State) (x : Params) : (s.setParams x).slot = s.slot := rfl
@[simp] theorem State.setParams_latch (s : State) (x : Params) : (s.setParams x).latch = s.latch := rfl
@[simp] theorem State.setParams_inputs (s : State) (x : Params) : (s.setParams x).inputs = s.inputs := rfl
@[simp] theorem State.setParams_log (s : State) (x : Params) : (s.setParams x).log = s.log := rfl
@[simp] theorem State.setParams_portA (s : State) (x : Params) : (s.setParams x).portA = s.portA := rfl
@[simp] theorem State.setParams_portB (s : State) (x : Params) : (s.setParams x).portB = s.portB := rfl
@[simp] theorem State.setParams_params (s : State) (x : Params) : (s.setParams x).params = x := rfl
@[simp] theorem State.setParams_store (s : State) (x : Params) : (s.setParams x).store = s.store := rfl
@[simp] theorem State.setStore_pending (s : State) (x : CalStore) : (s.setStore x).pending = s.pending := rfl
@[simp] theorem State.setStore_now (s : State) (x : CalStore) : (s.setStore x).now = s.now := rfl
@[simp] theorem State.setStore_pins (s : State) (x : CalStore) : (s.setStore x).pins = s.pins := rfl
@[simp] theorem State.setStore_speed (s : State) (x : CalStore) : (s.setStore x).speed = s.speed := rfl
@[simp] theorem State.setStore_solve (s : State) (x : CalStore) : (s.setStore x).solve = s.solve := rfl
@[simp] theorem State.setStore_path (s : State) (x : CalStore) : (s.setStore x).path = s.path := rfl
@[simp] theorem State.setStore_auth (s : State) (x : CalStore) : (s.setStore x).auth = s.auth := rfl
@[simp] theorem State.setStore_tilt (s : State) (x : CalStore) : (s.setStore x).tilt = s.tilt := rfl
@[simp] theorem State.setStore_steer (s : State) (x : CalStore) : (s.setStore x).steer = s.steer := rfl
@[simp] theorem State.setStore_slot (s : State) (x : CalStore) : (s.setStore x).slot = s.slot := rfl
@[simp] theorem State.setStore_latch (s : State) (x : CalStore) : (s.setStore x).latch = s.latch := rfl
@[simp] theorem State.setStore_inputs (s : State) (x : CalStore) : (s.setStore x).inputs = s.inputs := rfl
@[simp] theorem State.setStore_log (s : State) (x : CalStore) : (s.setStore x).log = s.log := rfl
@[simp] theorem State.setStore_portA (s : State) (x : CalStore) : (s.setStore x).portA = s.portA := rfl
@[simp] theorem State.setStore_portB (s : State) (x : CalStore) : (s.setStore x).portB = s.portB := rfl
@[simp] theorem State.setStore_params (s : State) (x : CalStore) : (s.setStore x).params = s.params := rfl
@[simp] theorem State.setStore_store (s : State) (x : CalStore) : (s.setStore x).store = x := rfl

/-! The changes of conditions that wait (R133). -/

@[simp] theorem State.setChanges_pending (s : State) (x : List (Cond × Bool)) : (s.setChanges x).pending = s.pending := rfl
@[simp] theorem State.setChanges_now (s : State) (x : List (Cond × Bool)) : (s.setChanges x).now = s.now := rfl
@[simp] theorem State.setChanges_pins (s : State) (x : List (Cond × Bool)) : (s.setChanges x).pins = s.pins := rfl
@[simp] theorem State.setChanges_speed (s : State) (x : List (Cond × Bool)) : (s.setChanges x).speed = s.speed := rfl
@[simp] theorem State.setChanges_solve (s : State) (x : List (Cond × Bool)) : (s.setChanges x).solve = s.solve := rfl
@[simp] theorem State.setChanges_path (s : State) (x : List (Cond × Bool)) : (s.setChanges x).path = s.path := rfl
@[simp] theorem State.setChanges_auth (s : State) (x : List (Cond × Bool)) : (s.setChanges x).auth = s.auth := rfl
@[simp] theorem State.setChanges_tilt (s : State) (x : List (Cond × Bool)) : (s.setChanges x).tilt = s.tilt := rfl
@[simp] theorem State.setChanges_steer (s : State) (x : List (Cond × Bool)) : (s.setChanges x).steer = s.steer := rfl
@[simp] theorem State.setChanges_slot (s : State) (x : List (Cond × Bool)) : (s.setChanges x).slot = s.slot := rfl
@[simp] theorem State.setChanges_latch (s : State) (x : List (Cond × Bool)) : (s.setChanges x).latch = s.latch := rfl
@[simp] theorem State.setChanges_log (s : State) (x : List (Cond × Bool)) : (s.setChanges x).log = s.log := rfl
@[simp] theorem State.setChanges_portA (s : State) (x : List (Cond × Bool)) : (s.setChanges x).portA = s.portA := rfl
@[simp] theorem State.setChanges_portB (s : State) (x : List (Cond × Bool)) : (s.setChanges x).portB = s.portB := rfl
@[simp] theorem State.setChanges_params (s : State) (x : List (Cond × Bool)) : (s.setChanges x).params = s.params := rfl
@[simp] theorem State.setChanges_store (s : State) (x : List (Cond × Bool)) : (s.setChanges x).store = s.store := rfl
@[simp] theorem State.setChanges_inputs_conds (s : State) (x : List (Cond × Bool)) :
    (s.setChanges x).inputs.conds = s.inputs.conds := rfl
@[simp] theorem State.setChanges_inputs_c0 (s : State) (x : List (Cond × Bool)) :
    (s.setChanges x).inputs.c0 = s.inputs.c0 := rfl
@[simp] theorem State.setChanges_inputs_c1 (s : State) (x : List (Cond × Bool)) :
    (s.setChanges x).inputs.c1 = s.inputs.c1 := rfl
@[simp] theorem State.setChanges_inputs_c2 (s : State) (x : List (Cond × Bool)) :
    (s.setChanges x).inputs.c2 = s.inputs.c2 := rfl
@[simp] theorem State.setChanges_inputs_t1 (s : State) (x : List (Cond × Bool)) :
    (s.setChanges x).inputs.t1 = s.inputs.t1 := rfl
@[simp] theorem State.setChanges_inputs_t2 (s : State) (x : List (Cond × Bool)) :
    (s.setChanges x).inputs.t2 = s.inputs.t2 := rfl
@[simp] theorem State.setChanges_inputs_trips (s : State) (x : List (Cond × Bool)) :
    (s.setChanges x).inputs.trips = s.inputs.trips := rfl
@[simp] theorem State.setChanges_inputs_changes (s : State) (x : List (Cond × Bool)) : (s.setChanges x).inputs.changes = x := rfl
@[simp] theorem State.setChanges_switch (s : State) (x : List (Cond × Bool)) (i : Input) :
    (s.setChanges x).inputs.switch i = s.inputs.switch i := by cases i <;> rfl

end Sys2Proof.Machine
end

