-- ==== Sys2Proof/Laws/Consequence.lean ====
section
/-! SUPPORT. What the shared operations can do: each operation that runs inside a command leaves the state a `Consequence` of
the state before it. -/

namespace Sys2Proof.Machine

/-! ## The speed ceiling watch -/

/-- What the speed ceiling watch compares (R56). -/
theorem State.tooFast_iff (s : State) : s.tooFast = true ↔ s.AboveCeiling := by
  unfold State.tooFast State.AboveCeiling
  cases s.path.queue with
  | nil => simp
  | cons g rest => cases hc : g.ceiling <;> simp [hc]

/-! ## The relation -/

theorem SameOutside.refl (s : State) : SameOutside s s := ⟨rfl, rfl, rfl, rfl, rfl⟩

theorem SameOutside.trans {s t u : State} (h : SameOutside s t) (k : SameOutside t u) : SameOutside s u :=
  ⟨k.pending.trans h.pending, k.pins.trans h.pins, k.portA.trans h.portA, k.portB.trans h.portB,
    k.store.trans h.store⟩

theorem SameSpeed.trans {s t u : State} (h : SameSpeed s t) (k : SameSpeed t u) : SameSpeed s u := by
  rcases h with h | h <;> rcases k with k | k <;> simp_all [SameSpeed]

theorem SameRider.trans {s t u : State} (h : SameRider s t) (k : SameRider t u) : SameRider s u := by
  rcases h with h | h <;> rcases k with k | k <;> simp_all [SameRider]

/-- A consequence from its parts; those that a plain update leaves alone need no mention. -/
theorem Consequence.of {s t : State} (now : t.now = s.now := by rfl) (pending : t.pending = s.pending := by rfl)
    (pins : t.pins = s.pins := by rfl) (portA : t.portA = s.portA := by rfl) (portB : t.portB = s.portB := by rfl)
    (store : t.store = s.store := by rfl) (speed : SameSpeed s t := by exact .inl rfl)
    (targets : SameTargets s t := by exact rfl) (rider : SameRider s t := by exact .inl rfl)
    (angles : SameAngles s t := by exact ⟨rfl, rfl, rfl, rfl⟩) (switches : SameSwitches s t := by exact fun _ => rfl)
    (settings : SameSettings s t := by exact rfl)
    (latchClock : SameLatchClock s t := by exact ⟨rfl, rfl, rfl, rfl, rfl, rfl⟩)
    (records : s.log.records <+: t.log.records := by exact List.prefix_refl _)
    (trips : s.inputs.trips <+: t.inputs.trips := by exact List.prefix_refl _) : Consequence s t :=
  ⟨now, ⟨pending, pins, portA, portB, store⟩, speed, targets, rider, angles, switches, settings, latchClock,
    records, trips⟩

theorem Consequence.refl (s : State) : Consequence s s := .of

theorem Consequence.trans {s t u : State} (h : Consequence s t) (k : Consequence t u) : Consequence s u where
  now := k.now.trans h.now
  outside := h.outside.trans k.outside
  speed := h.speed.trans k.speed
  targets := k.targets.trans h.targets
  rider := h.rider.trans k.rider
  angles := by
    obtain ⟨a, b, c, d⟩ := h.angles
    obtain ⟨a', b', c', d'⟩ := k.angles
    exact ⟨a'.trans a, b'.trans b, c'.trans c, d'.trans d⟩
  switches := fun i => (k.switches i).trans (h.switches i)
  settings := k.settings.trans h.settings
  latchClock := by
    obtain ⟨a, b, c, d, e, f⟩ := h.latchClock
    obtain ⟨a', b', c', d', e', f'⟩ := k.latchClock
    exact ⟨a'.trans a, b'.trans b, c'.trans c, d'.trans d, e'.trans e, f'.trans f⟩
  grows := ⟨h.grows.1.trans k.grows.1, h.grows.2.trans k.grows.2⟩

/-- Choosing between two consequences. -/
theorem Consequence.ite {s a b : State} (c : Prop) [Decidable c] (h : Consequence s a) (k : Consequence s b) :
    Consequence s (if c then a else b) := by split <;> assumption

/-! ## The log -/

/-- An append keeps every record in its place. -/
theorem EventLog.append_prefix (l : EventLog) (r : EventRec) (a b : Byte) :
    l.records <+: (l.append r a b).records := by
  unfold EventLog.append
  split
  · exact ⟨[r], rfl⟩
  · exact List.prefix_refl _

/-- The records after an append: the new one at the tail while there is room. -/
theorem EventLog.append_records (l : EventLog) (r : EventRec) (a b : Byte) :
    (l.append r a b).records = if l.records.length < 16 then l.records ++ [r] else l.records := by
  unfold EventLog.append
  split <;> rfl

/-- An append leaves the log within its bound. -/
theorem EventLog.append_bounded (l : EventLog) (r : EventRec) (a b : Byte) (h : l.records.length ≤ 16) :
    (l.append r a b).records.length ≤ 16 := by
  rw [EventLog.append_records]
  split
  · simp; omega
  · exact h

theorem State.logEvent_consequence (e : Event) (s : State) : Consequence s (s.logEvent e) :=
  .of (records := EventLog.append_prefix ..)

/-! ## Updates that touch no kept part -/

theorem State.setSlot_consequence (x : Slot) (s : State) : Consequence s (s.setSlot x) := .of

theorem State.setPath_consequence (x : PathUnit) (s : State) : Consequence s (s.setPath x) := .of

/-- An axis controller that keeps its measurement and the validity of its reading. -/
theorem State.setAxis_consequence (x : Axis) (a : AxisCtl) (s : State) (hm : a.meas = (s.axis x).meas)
    (hv : a.valid = (s.axis x).valid) : Consequence s (s.setAxis x a) := by
  cases x
  · exact .of (angles := ⟨hm, hv, rfl, rfl⟩)
  · exact .of (angles := ⟨rfl, rfl, hm, hv⟩)

theorem State.setDrive_consequence (x : Axis) (d : Int) (s : State) : Consequence s (s.setDrive x d) :=
  State.setAxis_consequence x _ s rfl rfl

/-- Any change of the latch controller outside its clocks. -/
theorem State.setLatchUnit_consequence (l : LatchUnit) (s : State) (h : SameLatchClock s (s.setLatchUnit l)) :
    Consequence s (s.setLatchUnit l) :=
  .of (latchClock := h)

theorem State.seedSetpoint_consequence (x : Axis) (s : State) : Consequence s (s.seedSetpoint x) := by
  cases x <;> exact .of

theorem State.captureLean_consequence (s : State) : Consequence s s.captureLean := .of

/-- An input unit that keeps its switches and trips. -/
theorem State.setInputs_consequence (u : InputUnit) (s : State) (hs : ∀ i, u.switch i = s.inputs.switch i)
    (ht : s.inputs.trips <+: u.trips) : Consequence s (s.setInputs u) :=
  .of (switches := hs) (trips := ht)

/-! ## The latch state -/

theorem AxisCtl.latchClosed_meas (a : AxisCtl) (l : LatchState) : (a.latchClosed l).meas = a.meas := by
  unfold AxisCtl.latchClosed; split <;> rfl

theorem AxisCtl.latchClosed_valid (a : AxisCtl) (l : LatchState) : (a.latchClosed l).valid = a.valid := by
  unfold AxisCtl.latchClosed; split <;> rfl

theorem State.takeLatch_tilt (l : LatchState) (s : State) : (s.takeLatch l).tilt = s.tilt.latchClosed l := by
  unfold State.takeLatch
  dsimp only
  split <;> rfl

/-- In TRACK the tilt drive is off at the very event at which the latch reaches ENGAGED or JAMMED (R91). -/
theorem State.takeLatch_closed_drive (l : LatchState) (s : State) (hm : s.tilt.mode = .track)
    (hl : l = .engaged ∨ l = .jammed) : (s.takeLatch l).tilt.drive = 0 := by
  rw [State.takeLatch_tilt, AxisCtl.latchClosed, if_pos (by simpa [hm] using hl)]

theorem State.takeLatch_consequence (new : LatchState) (s : State) : Consequence s (s.takeLatch new) := by
  unfold State.takeLatch
  refine Consequence.trans (t := s.setLatchUnit { s.latch with state := new, uncommanded := false })
    (State.setLatchUnit_consequence _ _ ⟨rfl, rfl, rfl, rfl, rfl, rfl⟩) ?_
  refine Consequence.trans (t := if capturesLean s.latch.state new then _ else _)
    (.ite _ (State.captureLean_consequence _) (.refl _)) ?_
  exact State.setAxis_consequence .tilt _ _ (AxisCtl.latchClosed_meas ..) (AxisCtl.latchClosed_valid ..)

theorem State.setLatch_consequence (new : LatchState) (s : State) : Consequence s (s.setLatch new) :=
  (State.logEvent_consequence (.lockState new) s).trans (State.takeLatch_consequence new _)

theorem LatchUnit.setItem_clock (s : State) (p : Port) (i : DemandItem) :
    SameLatchClock s (s.setLatchUnit (s.latch.setItem p i)) := by
  cases p <;> cases i <;> exact ⟨rfl, rfl, rfl, rfl, rfl, rfl⟩

theorem State.endPermit_consequence (p : Port) (s : State) : Consequence s (s.endPermit p) :=
  .ite _ (State.setLatchUnit_consequence _ _ (LatchUnit.setItem_clock s p .none)) (.refl s)

/-! ## Ends of sessions and of the hold -/

theorem State.leaveSession_consequence (x : Axis) (s : State) : Consequence s (s.leaveSession x) := by
  unfold State.leaveSession
  refine .trans ?_ (State.seedSetpoint_consequence x _)
  exact State.setAxis_consequence x _ s rfl rfl

theorem Routine.writes_unlearned (r : Routine) (p : Params) : (r.writes p).unlearned = p.unlearned := by
  unfold Routine.writes
  split <;> rfl

theorem State.setResult_consequence (x : Axis) (r : ResultRec) (s : State) : Consequence s (s.setResult x r) :=
  State.setAxis_consequence x _ s rfl rfl

theorem State.finishRoutine_consequence (r : Routine) (o : RoutineOutcome) (b : Bool) (s : State) :
    Consequence s (s.finishRoutine r o b) := by
  unfold State.finishRoutine
  refine .trans ?_ (State.setSlot_consequence _ _)
  refine .trans ?_ (State.leaveSession_consequence _ _)
  refine .trans ?_ (State.logEvent_consequence _ _)
  refine .trans ?_ (State.setResult_consequence _ _ _)
  refine .trans (State.setDrive_consequence r.axis 0 s) ?_
  generalize s.setDrive r.axis 0 = s
  refine .trans (t := if o = .pass then s.setParams (r.writes s.params) else s)
    (.ite _ (.of (settings := Routine.writes_unlearned r s.params)) (.refl s)) ?_
  exact .ite _ ((State.setLatch_consequence _ _).trans (State.logEvent_consequence _ _)) (.refl _)

theorem State.finishService_consequence (x : Axis) (s : State) : Consequence s (s.finishService x) :=
  .trans (.trans (State.setDrive_consequence x 0 s) (State.leaveSession_consequence x _))
    (State.setSlot_consequence _ _)

theorem State.abortSession_consequence (s : State) : Consequence s s.abortSession := by
  unfold State.abortSession
  split
  · exact State.finishRoutine_consequence ..
  · exact State.finishService_consequence ..
  · exact .refl s
  · exact .refl s

theorem State.endHoldCore_consequence (h : Hold) (r : EndReason) (s : State) :
    Consequence s (s.endHoldCore h r) := by
  unfold State.endHoldCore
  refine .trans ?_ (State.endPermit_consequence _ _)
  refine .trans ?_ (.of (rider := .inr rfl))
  refine .trans ?_ (.of (speed := .inr rfl))
  refine .trans ?_ (State.abortSession_consequence _)
  exact .trans (State.logEvent_consequence (.holdEnd r) s) (State.setPath_consequence .empty _)

theorem State.dropHold_consequence (r : EndReason) (s : State) : Consequence s (s.dropHold r) := by
  unfold State.dropHold
  split
  · exact .refl s
  · exact State.endHoldCore_consequence ..

/-- After the end of a hold there is none, and the path unit is empty. -/
theorem State.endHoldCore_hold (h : Hold) (r : EndReason) (s : State) : (s.endHoldCore h r).auth.hold = none := by
  unfold State.endHoldCore State.endPermit
  dsimp only
  split <;> rfl

/-! ## Pulses, attempt sets and the latch controller's decisions -/

theorem State.startPulse_consequence (d : Direction) (s : State) : Consequence s (s.startPulse d) :=
  State.setLatchUnit_consequence _ s ⟨rfl, rfl, rfl, rfl, rfl, rfl⟩

theorem State.setSet_consequence (x : Option AttemptSet) (s : State) : Consequence s (s.setSet x) :=
  State.setLatchUnit_consequence _ s ⟨rfl, rfl, rfl, rfl, rfl, rfl⟩

theorem State.succeedSet_consequence (d : Direction) (s : State) : Consequence s (s.succeedSet d) :=
  (State.setSet_consequence none s).trans (State.setLatch_consequence _ _)

theorem State.openWindow_consequence (x : AttemptSet) (s : State) : Consequence s (s.openWindow x) := by
  unfold State.openWindow
  refine (State.startPulse_consequence x.direction s).trans ?_
  exact (State.setSet_consequence _ _).trans (.ite _ (State.succeedSet_consequence _ _) (.refl _))

theorem State.startAttempt_consequence (x : AttemptSet) (s : State) : Consequence s (s.startAttempt x) :=
  .ite _ (State.setSet_consequence _ s) (State.openWindow_consequence x s)

theorem State.beginSet_consequence (d : Direction) (o : SetOrigin) (s : State) : Consequence s (s.beginSet d o) :=
  State.startAttempt_consequence _ s

theorem State.routineSetFailed_consequence (d : Direction) (s : State) : Consequence s (s.routineSetFailed d) := by
  unfold State.routineSetFailed
  split
  · exact .ite _ (State.finishRoutine_consequence ..) (.refl s)
  all_goals exact .refl s

theorem State.permitSetFailed_consequence (x : AttemptSet) (s : State) : Consequence s (s.permitSetFailed x) := by
  unfold State.permitSetFailed
  split
  · exact .ite _ (State.endPermit_consequence _ s) (.refl s)
  · exact .refl s

theorem State.failSet_consequence (x : AttemptSet) (s : State) : Consequence s (s.failSet x) := by
  unfold State.failSet
  refine .trans ?_ (State.routineSetFailed_consequence _ _)
  refine .trans ?_ (State.permitSetFailed_consequence x _)
  refine .trans ?_ (State.logEvent_consequence _ _)
  exact .trans (.of) (State.setLatch_consequence x.direction.fault.1 _)

theorem State.endPreload_consequence (s : State) : Consequence s s.endPreload :=
  .trans (.trans .of (State.setLatch_consequence .releasing _)) (State.beginSet_consequence .release .own _)

theorem State.beginRelease_consequence (s : State) : Consequence s s.beginRelease := by
  unfold State.beginRelease
  exact (State.setLatch_consequence _ s).trans (.ite _ (State.endPreload_consequence _)
    (State.setLatchUnit_consequence _ _ ⟨rfl, rfl, rfl, rfl, rfl, rfl⟩))

theorem State.abandonPreload_consequence (s : State) : Consequence s s.abandonPreload :=
  .trans .of (State.setLatch_consequence .engaged _)

theorem State.beginDirectRelease_consequence (o : SetOrigin) (s : State) : Consequence s (s.beginDirectRelease o) :=
  (State.setLatch_consequence _ s).trans (State.beginSet_consequence _ _ _)

theorem State.beginPermitRelease_consequence (s : State) : Consequence s s.beginPermitRelease :=
  .trans .of (State.beginDirectRelease_consequence .permit _)

theorem State.beginEngage_consequence (o : SetOrigin) (s : State) : Consequence s (s.beginEngage o) :=
  (State.setLatch_consequence _ s).trans (State.beginSet_consequence _ _ _)

theorem State.decideLatch_consequence (s t : State) (h : s.decideLatch = some t) : Consequence s t := by
  unfold State.decideLatch at h
  split at h
  · cases h
  · split at h
    · split at h
      · cases h; exact State.beginPermitRelease_consequence _
      · split at h
        · cases h; exact State.beginRelease_consequence _
        · cases h
    · split at h
      · cases h; exact State.abandonPreload_consequence _
      · cases h
    · cases h
    · split at h
      · cases h; exact State.beginEngage_consequence ..
      · cases h
    · cases h
    · split at h
      · cases h; exact State.setLatch_consequence ..
      · cases h
    · split at h
      · cases h; exact State.setLatch_consequence ..
      · cases h

theorem State.setChanges_consequence (s : State) (x : List (Cond × Bool)) : Consequence s (s.setChanges x) :=
  State.setInputs_consequence _ s (fun i => by cases i <;> rfl) (List.prefix_refl _)

/-- An announcement changes nothing but the changes that wait. -/
theorem State.announce_consequence (s : State) : Consequence s s.announce := State.setChanges_consequence s _

theorem State.weighUncommanded_consequence (s : State) : Consequence s s.weighUncommanded :=
  .ite _ (State.setLatchUnit_consequence _ s ⟨rfl, rfl, rfl, rfl, rfl, rfl⟩) (.refl s)

/-- What the latch controller can do when it hears of a change. -/
theorem State.hearLatch_consequence (s : State) : Consequence s s.hearLatch := by
  refine (State.weighUncommanded_consequence s).trans (Consequence.trans ?_ (State.announce_consequence _))
  cases h : s.weighUncommanded.decideLatch with
  | none => exact .refl _
  | some t => exact State.decideLatch_consequence _ t h

theorem State.restPreload_consequence (s : State) : Consequence s s.restPreload :=
  .ite _ (State.abandonPreload_consequence s) (.refl s)

/-! ## Trips, combiners, conditions -/

theorem State.addTrip_consequence (id : TripId) (sev : Severity) (s : State) : Consequence s (s.addTrip id sev) :=
  (State.setInputs_consequence { s.inputs with trips := s.inputs.trips ++ [{ id := id, severity := sev }] } s
    (fun i => by cases i <;> rfl) ⟨_, rfl⟩).trans (State.logEvent_consequence (.trip id) _)

theorem State.handGrade_consequence (old : Grade) (s : State) : Consequence s (s.handGrade old) := by
  unfold State.handGrade
  refine Consequence.trans (t := if old ≠ .lockdown && s.grade = .lockdown then s.hearLatch else s)
    (.ite _ (State.hearLatch_consequence s) (.refl s)) ?_
  exact .ite _ (((State.dropHold_consequence .safe _).trans (State.abortSession_consequence _)).trans
    (State.announce_consequence _)) (.refl _)

theorem State.fireTrip_consequence (id : TripId) (sev : Severity) (s : State) : Consequence s (s.fireTrip id sev) :=
  .ite _ (.refl s) ((State.addTrip_consequence id sev s).trans (State.handGrade_consequence _ _))

theorem InputUnit.setCombiner_switch (u : InputUnit) (i : CombinerId) (r : CombinerRec) (j : Input) :
    (u.setCombiner i r).switch j = u.switch j := by cases i <;> cases j <;> rfl

theorem InputUnit.setCombiner_trips (u : InputUnit) (i : CombinerId) (r : CombinerRec) :
    (u.setCombiner i r).trips = u.trips := by cases i <;> rfl

theorem InputUnit.setTripUnit_switch (u : InputUnit) (i : TripUnit) (r : TripUnitRec) (j : Input) :
    (u.setTripUnit i r).switch j = u.switch j := by cases i <;> cases j <;> rfl

theorem InputUnit.setTripUnit_trips (u : InputUnit) (i : TripUnit) (r : TripUnitRec) :
    (u.setTripUnit i r).trips = u.trips := by cases i <;> rfl

theorem State.setTripUnit_consequence (x : TripUnit) (r : TripUnitRec) (s : State) :
    Consequence s (s.setInputs (s.inputs.setTripUnit x r)) :=
  State.setInputs_consequence _ s (InputUnit.setTripUnit_switch _ _ _)
    (by rw [InputUnit.setTripUnit_trips])

theorem State.evaluateCombiner_consequence (q : Bool) (i : CombinerId) (s : State) :
    Consequence s (s.evaluateCombiner q i) := by
  unfold State.evaluateCombiner
  refine (State.setInputs_consequence (s.inputs.setCombiner i (s.inputs.evaluate (s.params.combiner i)
    (s.inputs.combiner i))) s (InputUnit.setCombiner_switch _ _ _) (by rw [InputUnit.setCombiner_trips])).trans ?_
  exact .ite _ (State.logEvent_consequence _ _) (.refl _)

theorem State.fireTripUnit_consequence (x : TripUnit) (s : State) : Consequence s (s.fireTripUnit x) :=
  (State.setTripUnit_consequence x _ s).trans (State.fireTrip_consequence _ _ _)

theorem State.evaluateTripUnit_consequence (x : TripUnit) (s : State) : Consequence s (s.evaluateTripUnit x) := by
  unfold State.evaluateTripUnit
  exact (State.setTripUnit_consequence x _ s).trans (.ite _ (State.fireTripUnit_consequence _ _) (.refl _))

theorem State.evaluateCombiners_consequence (q old : Bool) (s : State) : Consequence s (s.evaluateCombiners q old) :=
  have h := ((State.evaluateCombiner_consequence q .c0 s).trans (State.evaluateCombiner_consequence q .c1 _)).trans
    (State.evaluateCombiner_consequence q .c2 _)
  .ite _ (h.trans (State.hearLatch_consequence _)) h

theorem State.evaluateInputs_consequence (q old : Bool) (s : State) : Consequence s (s.evaluateInputs q old) :=
  ((State.evaluateCombiners_consequence q old s).trans (State.evaluateTripUnit_consequence .t1 _)).trans
    (State.evaluateTripUnit_consequence .t2 _)

theorem State.takeCond_consequence (c : Cond) (b : Bool) (s : State) : Consequence s (s.takeCond c b) :=
  (State.setInputs_consequence { s.inputs with conds := s.inputs.conds.put c b } s (fun i => by cases i <;> rfl)
    (List.prefix_refl _)).trans (State.evaluateInputs_consequence false _ _)

theorem State.handOnN_consequence (n : Nat) (s : State) : Consequence s (s.handOnN n) := by
  induction n generalizing s with
  | zero => exact .refl s
  | succ n ih =>
    unfold State.handOnN
    split
    · exact .refl s
    · exact ((State.setChanges_consequence s _).trans (State.takeCond_consequence _ _ _)).trans (ih _)

theorem State.handOn_consequence (s : State) : Consequence s s.handOn := State.handOnN_consequence 32 s

/-- Nothing waits, so nothing is handed on. -/
theorem State.handOn_of_nothing_waits (s : State) (h : s.waitingChanges = []) : s.handOn = s := by
  unfold State.handOn State.handOnN
  rw [h]

theorem State.endHold_consequence (r : EndReason) (s : State) : Consequence s (s.endHold r) :=
  .ite _ ((State.dropHold_consequence r s).trans (State.handOn_consequence _)) (.refl s)

/-! ## Phases and settling -/

theorem State.askSet_consequence (d : Direction) (s : State) : Consequence s (s.askSet d) := by
  unfold State.askSet
  refine .ite _ (.refl s) ?_
  cases d
  · exact State.beginEngage_consequence ..
  · exact State.beginDirectRelease_consequence ..

theorem State.askWaiting_consequence (s : State) : Consequence s s.askWaiting := by
  unfold State.askWaiting
  split
  · refine .ite _ (.refl s) (.ite _ (State.askSet_consequence _ s) (.ite _ (State.askSet_consequence _ s) (.refl s)))
  all_goals exact .refl s

theorem State.beginPhase_consequence (r : Routine) (ph : Phase) (s : State) : Consequence s (s.beginPhase r ph) := by
  unfold State.beginPhase
  cases ph
  · exact (State.setSlot_consequence _ s).trans (State.askSet_consequence _ _)
  · exact (State.setSlot_consequence _ s).trans (State.setDrive_consequence _ _ _)
  · exact (State.setSlot_consequence _ s).trans (State.setDrive_consequence _ _ _)
  · exact State.setSlot_consequence _ s
  · exact (State.setSlot_consequence _ s).trans (State.askSet_consequence _ _)
  · exact State.setSlot_consequence _ s
  · exact State.setSlot_consequence _ s
  · exact (State.setSlot_consequence _ s).trans (State.setDrive_consequence _ _ _)
  · exact (State.setSlot_consequence _ s).trans (State.setDrive_consequence _ _ _)

theorem State.completePhase_consequence (r : Routine) (s : State) : Consequence s (s.completePhase r) := by
  unfold State.completePhase
  split
  · exact State.beginPhase_consequence ..
  · exact State.finishRoutine_consequence ..

theorem State.settleN_consequence (n : Nat) (s : State) : Consequence s (s.settleN n) := by
  induction n generalizing s with
  | zero => exact (State.handOn_consequence s).trans (State.restPreload_consequence _)
  | succ n ih =>
    have a := (State.handOn_consequence s).trans (State.weighUncommanded_consequence _)
    unfold State.settleN
    dsimp only
    split
    · next h => exact (a.trans (State.decideLatch_consequence _ _ h)).trans (ih _)
    · split
      · exact (a.trans (State.completePhase_consequence _ _)).trans (ih _)
      · exact a

/-- Everything that settling a command can do to the parts of the state that it keeps. -/
theorem State.settle_consequence (s : State) : Consequence s s.settle := State.settleN_consequence 8 s

/-! ## Waking and delivery -/

/-- In RUN a wake event has no effect (R129). -/
theorem State.wake_run (src : WakeSource) (s : State) (h : s.latch.run = .run) : s.wake src = s := by
  unfold State.wake
  rw [h]
  rfl

/-- A request that its port can deliver is refreshed, handled by its owner, and answered. -/
theorem State.request_ready (dt : Nat) (kind : Byte) (w : Bool) (f : Frame) (h : Handler) (s : State)
    (len : f.payload.length ≤ 38) (r : Ready s f.port) :
    s.request dt kind w f h =
      (let t := ((s.advance dt).rxHunt f.port).refresh f.port
       let a := h f.port f.payload t
       a.1.occupy f.port { kind := kind, ref := f.ref, at_ := t.now, answer := a.2 }) := by
  obtain ⟨hp, hr⟩ := r
  have hp' : (((s.advance dt).rxHunt f.port).port f.port).place = none := by
    cases hf : f.port <;> rw [hf] at hp <;> exact hp
  have hr' : (((s.advance dt).rxHunt f.port).refresh f.port).latch.run = .run := by
    unfold State.refresh
    cases hf : f.port <;> (split <;> [skip; split]) <;> exact hr
  unfold State.request State.deliver
  rw [if_neg (by omega)]
  dsimp only
  rw [hp']
  cases w
  · rfl
  · simp only [Option.isSome_none, Bool.false_eq_true, if_false, if_true]
    rw [State.wake_run _ _ hr']

end Sys2Proof.Machine
end

