-- ==== Sys2Proof/Laws/Preload.lean ====
section
/-! SUPPORT. RELEASE_PRELOAD is entered only by the decision of R116, and what a preload stands on once a command has settled:
the lemmas of the shared operations behind R116's sentence on entries. -/

namespace Sys2Proof.Machine

/-! ## The relations -/

/-- A consequence that does not enter RELEASE_PRELOAD. -/
structure Sparing (s t : State) : Prop where
  consequence : Consequence s t
  spares : t.latch.state = .releasePreload → s.latch.state = .releasePreload

/-- A consequence that enters RELEASE_PRELOAD only while the estimate is GOOD, v at least V_REL and the first debounce over. -/
structure Entering (s t : State) : Prop where
  consequence : Consequence s t
  enters : t.latch.state = .releasePreload →
    s.latch.state = .releasePreload ∨ (s.fast = true ∧ s.latch.first = none)

/-- No cause of R117 abandons a preload that stands. -/
def Grounded (s : State) : Prop := s.latch.first = none → s.latch.state = .releasePreload → s.preloadOff = false

/-- No parameter that a routine writes, and no withheld count, bears on the speed of R116. -/
theorem Consequence.fast {s t : State} (h : Consequence s t) : t.fast = s.fast := by
  have hs : t.params.unlearned = s.params.unlearned := h.settings
  have hv : t.params.unlearned.vRel = s.params.unlearned.vRel := congrArg Params.vRel hs
  change t.params.vRel = s.params.vRel at hv
  unfold State.fast
  rw [hv]
  rcases h.speed with e | e <;> rw [e]

theorem Consequence.first {s t : State} (h : Consequence s t) : t.latch.first = s.latch.first := h.latchClock.2.2.1

theorem Sparing.refl (s : State) : Sparing s s := ⟨.refl s, id⟩

theorem Sparing.trans {s t u : State} (h : Sparing s t) (k : Sparing t u) : Sparing s u :=
  ⟨h.consequence.trans k.consequence, h.spares ∘ k.spares⟩

theorem Sparing.ite {s a b : State} (c : Prop) [Decidable c] (h : Sparing s a) (k : Sparing s b) :
    Sparing s (if c then a else b) := by split <;> assumption

theorem Sparing.entering {s t : State} (h : Sparing s t) : Entering s t := ⟨h.consequence, .inl ∘ h.spares⟩

theorem Entering.refl (s : State) : Entering s s := (Sparing.refl s).entering

theorem Entering.trans {s t u : State} (h : Entering s t) (k : Entering t u) : Entering s u where
  consequence := h.consequence.trans k.consequence
  enters e := (k.enters e).elim h.enters
    (fun f => .inr ⟨h.consequence.fast ▸ f.1, h.consequence.first ▸ f.2⟩)

theorem Entering.ite {s a b : State} (c : Prop) [Decidable c] (h : Entering s a) (k : Entering s b) :
    Entering s (if c then a else b) := by split <;> assumption

/-- A consequence that leaves the latch state as it is. -/
theorem Consequence.sparing {s t : State} (h : Consequence s t) (e : t.latch.state = s.latch.state) : Sparing s t :=
  ⟨h, fun x => e ▸ x⟩

/-! ## Operations that do not enter RELEASE_PRELOAD -/

theorem State.setAxis_latch (x : Axis) (a : AxisCtl) (s : State) : (s.setAxis x a).latch = s.latch := by
  cases x <;> rfl

theorem State.seedSetpoint_latch (x : Axis) (s : State) : (s.seedSetpoint x).latch = s.latch := by cases x <;> rfl

theorem State.takeLatch_state (l : LatchState) (s : State) : (s.takeLatch l).latch.state = l := by
  unfold State.takeLatch
  dsimp only
  split <;> rfl

theorem State.setLatch_state (l : LatchState) (s : State) : (s.setLatch l).latch.state = l := State.takeLatch_state l _

theorem State.setLatch_sparing (l : LatchState) (s : State) (h : l ≠ .releasePreload) : Sparing s (s.setLatch l) :=
  ⟨State.setLatch_consequence l s, fun e => absurd (State.setLatch_state l s ▸ e) h⟩

theorem Direction.reached_ne (d : Direction) : d.reached ≠ .releasePreload := by cases d <;> decide

theorem Direction.fault_ne (d : Direction) : d.fault.1 ≠ .releasePreload := by cases d <;> decide

/-- An update of the latch controller outside its clocks that keeps the latch state. -/
theorem State.setLatchUnit_sparing (l : LatchUnit) (s : State) (e : l.state = s.latch.state := by exact rfl)
    (h : SameLatchClock s (s.setLatchUnit l) := by exact ⟨rfl, rfl, rfl, rfl, rfl, rfl⟩) :
    Sparing s (s.setLatchUnit l) := (State.setLatchUnit_consequence l s h).sparing e

theorem State.logEvent_sparing (e : Event) (s : State) : Sparing s (s.logEvent e) :=
  (State.logEvent_consequence e s).sparing rfl

theorem State.endPermit_sparing (p : Port) (s : State) : Sparing s (s.endPermit p) :=
  (State.endPermit_consequence p s).sparing (by
    unfold State.endPermit
    split
    · cases p <;> rfl
    · rfl)

theorem State.setDrive_sparing (x : Axis) (d : Int) (s : State) : Sparing s (s.setDrive x d) :=
  (State.setDrive_consequence x d s).sparing (congrArg LatchUnit.state (State.setAxis_latch x _ s))

theorem State.setResult_sparing (x : Axis) (r : ResultRec) (s : State) : Sparing s (s.setResult x r) :=
  (State.setResult_consequence x r s).sparing (congrArg LatchUnit.state (State.setAxis_latch x _ s))

theorem State.leaveSession_sparing (x : Axis) (s : State) : Sparing s (s.leaveSession x) :=
  (State.leaveSession_consequence x s).sparing (by cases x <;> rfl)

theorem State.setSlot_sparing (x : Slot) (s : State) : Sparing s (s.setSlot x) :=
  (State.setSlot_consequence x s).sparing rfl

theorem State.finishRoutine_sparing (r : Routine) (o : RoutineOutcome) (b : Bool) (s : State) :
    Sparing s (s.finishRoutine r o b) := by
  unfold State.finishRoutine
  refine .trans ?_ (State.setSlot_sparing _ _)
  refine .trans ?_ (State.leaveSession_sparing _ _)
  refine .trans ?_ (State.logEvent_sparing _ _)
  refine .trans ?_ (State.setResult_sparing _ _ _)
  refine .trans (State.setDrive_sparing r.axis 0 s) ?_
  generalize s.setDrive r.axis 0 = s
  refine .trans (t := if o = .pass then s.setParams (r.writes s.params) else s)
    (.ite _ (Consequence.sparing (.of (settings := Routine.writes_unlearned r s.params)) rfl) (.refl s)) ?_
  exact .ite _ ((State.setLatch_sparing _ _ (by decide)).trans (State.logEvent_sparing _ _)) (.refl _)

theorem State.finishService_sparing (x : Axis) (s : State) : Sparing s (s.finishService x) :=
  ((State.setDrive_sparing x 0 s).trans (State.leaveSession_sparing x _)).trans (State.setSlot_sparing _ _)

theorem State.abortSession_sparing (s : State) : Sparing s s.abortSession := by
  unfold State.abortSession
  split
  · exact State.finishRoutine_sparing ..
  · exact State.finishService_sparing ..
  · exact .refl s
  · exact .refl s

theorem State.endHoldCore_sparing (h : Hold) (r : EndReason) (s : State) : Sparing s (s.endHoldCore h r) := by
  unfold State.endHoldCore
  refine .trans ?_ (State.endPermit_sparing _ _)
  refine .trans ?_ (Consequence.sparing (.of (rider := .inr rfl)) rfl)
  refine .trans ?_ (Consequence.sparing (.of (speed := .inr rfl)) rfl)
  refine .trans ?_ (State.abortSession_sparing _)
  exact (State.logEvent_sparing (.holdEnd r) s).trans ((State.setPath_consequence .empty _).sparing rfl)

theorem State.dropHold_sparing (r : EndReason) (s : State) : Sparing s (s.dropHold r) := by
  unfold State.dropHold
  split
  · exact .refl s
  · exact State.endHoldCore_sparing ..

theorem State.setSet_sparing (x : Option AttemptSet) (s : State) : Sparing s (s.setSet x) :=
  (State.setSet_consequence x s).sparing rfl

theorem State.succeedSet_sparing (d : Direction) (s : State) : Sparing s (s.succeedSet d) :=
  (State.setSet_sparing none s).trans (State.setLatch_sparing _ _ d.reached_ne)

theorem State.openWindow_sparing (x : AttemptSet) (s : State) : Sparing s (s.openWindow x) := by
  unfold State.openWindow
  refine ((State.startPulse_consequence x.direction s).sparing rfl).trans ?_
  exact (State.setSet_sparing _ _).trans (.ite _ (State.succeedSet_sparing _ _) (.refl _))

theorem State.startAttempt_sparing (x : AttemptSet) (s : State) : Sparing s (s.startAttempt x) :=
  .ite _ (State.setSet_sparing _ s) (State.openWindow_sparing x s)

theorem State.beginSet_sparing (d : Direction) (o : SetOrigin) (s : State) : Sparing s (s.beginSet d o) :=
  State.startAttempt_sparing _ s

theorem State.routineSetFailed_sparing (d : Direction) (s : State) : Sparing s (s.routineSetFailed d) := by
  unfold State.routineSetFailed
  split
  · exact .ite _ (State.finishRoutine_sparing ..) (.refl s)
  all_goals exact .refl s

theorem State.permitSetFailed_sparing (x : AttemptSet) (s : State) : Sparing s (s.permitSetFailed x) := by
  unfold State.permitSetFailed
  split
  · exact .ite _ (State.endPermit_sparing _ s) (.refl s)
  · exact .refl s

theorem State.failSet_sparing (x : AttemptSet) (s : State) : Sparing s (s.failSet x) := by
  unfold State.failSet
  refine .trans ?_ (State.routineSetFailed_sparing _ _)
  refine .trans ?_ (State.permitSetFailed_sparing x _)
  refine .trans ?_ (State.logEvent_sparing _ _)
  exact .trans (State.setLatchUnit_sparing _ s) (State.setLatch_sparing _ _ x.direction.fault_ne)

theorem State.endPreload_sparing (s : State) : Sparing s s.endPreload :=
  .trans (.trans (State.setLatchUnit_sparing _ s) (State.setLatch_sparing .releasing _ (by decide)))
    (State.beginSet_sparing .release .own _)

theorem State.abandonPreload_sparing (s : State) : Sparing s s.abandonPreload :=
  .trans (State.setLatchUnit_sparing _ s) (State.setLatch_sparing .engaged _ (by decide))

theorem State.beginDirectRelease_sparing (o : SetOrigin) (s : State) : Sparing s (s.beginDirectRelease o) :=
  (State.setLatch_sparing _ s (by decide)).trans (State.beginSet_sparing _ _ _)

theorem State.beginPermitRelease_sparing (s : State) : Sparing s s.beginPermitRelease :=
  .trans (State.setLatchUnit_sparing _ s) (State.beginDirectRelease_sparing .permit _)

theorem State.beginEngage_sparing (o : SetOrigin) (s : State) : Sparing s (s.beginEngage o) :=
  (State.setLatch_sparing _ s (by decide)).trans (State.beginSet_sparing _ _ _)

theorem State.setChanges_sparing (s : State) (x : List (Cond × Bool)) : Sparing s (s.setChanges x) :=
  (State.setChanges_consequence s x).sparing rfl

theorem State.announce_sparing (s : State) : Sparing s s.announce := State.setChanges_sparing s _

theorem State.askSet_sparing (d : Direction) (s : State) : Sparing s (s.askSet d) := by
  unfold State.askSet
  refine .ite _ (.refl s) ?_
  cases d
  · exact State.beginEngage_sparing ..
  · exact State.beginDirectRelease_sparing ..

theorem State.askWaiting_sparing (s : State) : Sparing s s.askWaiting := by
  unfold State.askWaiting
  split
  · refine .ite _ (.refl s) (.ite _ (State.askSet_sparing _ s) (.ite _ (State.askSet_sparing _ s) (.refl s)))
  all_goals exact .refl s

theorem State.beginPhase_sparing (r : Routine) (ph : Phase) (s : State) : Sparing s (s.beginPhase r ph) := by
  unfold State.beginPhase
  cases ph
  · exact (State.setSlot_sparing _ s).trans (State.askSet_sparing _ _)
  · exact (State.setSlot_sparing _ s).trans (State.setDrive_sparing _ _ _)
  · exact (State.setSlot_sparing _ s).trans (State.setDrive_sparing _ _ _)
  · exact State.setSlot_sparing _ s
  · exact (State.setSlot_sparing _ s).trans (State.askSet_sparing _ _)
  · exact State.setSlot_sparing _ s
  · exact State.setSlot_sparing _ s
  · exact (State.setSlot_sparing _ s).trans (State.setDrive_sparing _ _ _)
  · exact (State.setSlot_sparing _ s).trans (State.setDrive_sparing _ _ _)

theorem State.completePhase_sparing (r : Routine) (s : State) : Sparing s (s.completePhase r) := by
  unfold State.completePhase
  split
  · exact State.beginPhase_sparing ..
  · exact State.finishRoutine_sparing ..

theorem State.restPreload_sparing (s : State) : Sparing s s.restPreload :=
  .ite _ (State.abandonPreload_sparing s) (.refl s)

theorem State.weighUncommanded_sparing (s : State) : Sparing s s.weighUncommanded :=
  (State.weighUncommanded_consequence s).sparing (by unfold State.weighUncommanded; split <;> rfl)

/-! ## The latch controller's decisions -/

/-- No decision is made before the first debounce is over (R130). -/
theorem State.decideLatch_first (s t : State) (h : s.decideLatch = some t) : s.latch.first = none := by
  unfold State.decideLatch at h
  cases f : s.latch.first with
  | none => rfl
  | some x => rw [f] at h; cases h

/-- The decision that enters RELEASE_PRELOAD is that of R116. -/
theorem State.decideLatch_enters (s t : State) (h : s.decideLatch = some t) (e : t.latch.state = .releasePreload) :
    s.latch.state = .engaged ∧ s.ownRules = true ∧ s.mayLean = true := by
  have f := State.decideLatch_first s t h
  unfold State.decideLatch at h
  rw [f] at h
  simp only [Option.isSome_none, Bool.false_eq_true, if_false] at h
  split at h
  · next hs =>
    split at h
    · cases h
      exact absurd ((State.beginPermitRelease_sparing s).spares e) (by rw [hs]; decide)
    · split at h
      · next c =>
        simp only [Bool.and_eq_true] at c
        exact ⟨hs, c.1.1, c.1.2⟩
      · cases h
  · split at h
    · cases h
      have := State.setLatch_state .engaged (s.setLatchUnit { s.latch with preloadEnd := none })
      exact absurd (this.symm.trans e) (by decide)
    · cases h
  · cases h
  · next hs =>
    split at h
    · cases h
      exact absurd ((State.beginEngage_sparing .own s).spares e) (by rw [hs]; decide)
    · cases h
  · cases h
  · split at h
    · cases h
      exact absurd ((State.setLatch_state .engaged s).symm.trans e) (by decide)
    · cases h
  · split at h
    · cases h
      exact absurd ((State.setLatch_state .released s).symm.trans e) (by decide)
    · cases h

theorem State.decideLatch_entering (s t : State) (h : s.decideLatch = some t) : Entering s t :=
  ⟨State.decideLatch_consequence s t h, fun e => by
    have m := (State.decideLatch_enters s t h e).2.2
    unfold State.mayLean at m
    simp only [Bool.and_eq_true] at m
    exact .inr ⟨m.1.1.1, State.decideLatch_first s t h⟩⟩

theorem State.hearLatch_entering (s : State) : Entering s s.hearLatch := by
  refine (State.weighUncommanded_sparing s).entering.trans (Entering.trans ?_ (State.announce_sparing _).entering)
  cases h : s.weighUncommanded.decideLatch with
  | none => exact .refl _
  | some t => exact State.decideLatch_entering _ t h

/-- Where no decision is left to make, no cause of R117 abandons a preload that stands. -/
theorem State.grounded_of_decided (s : State) (h : s.decideLatch = none) : Grounded s := by
  intro f e
  unfold State.decideLatch at h
  rw [f, e] at h
  simp only [Option.isSome_none, Bool.false_eq_true, if_false] at h
  split at h
  · cases h
  · next c => simpa using c

theorem State.restPreload_grounded (s : State) : Grounded s.restPreload := by
  intro f e
  unfold State.restPreload at *
  split at e
  · have := State.setLatch_state .engaged (s.setLatchUnit { s.latch with preloadEnd := none })
    exact absurd (this.symm.trans e) (by decide)
  · next c =>
    rw [if_neg c] at f ⊢
    simp only [f, e, Option.isNone_none, Bool.true_and, decide_true] at c
    simpa using c

/-! ## Trips, combiners, conditions -/

theorem State.handGrade_entering (old : Grade) (s : State) : Entering s (s.handGrade old) := by
  unfold State.handGrade
  refine Entering.trans (t := if old ≠ .lockdown && s.grade = .lockdown then s.hearLatch else s)
    (.ite _ (State.hearLatch_entering s) (.refl s)) ?_
  exact Entering.ite _ (((State.dropHold_sparing .safe _).trans (State.abortSession_sparing _)).trans
    (State.announce_sparing _)).entering (.refl _)

theorem State.fireTrip_entering (id : TripId) (sev : Severity) (s : State) : Entering s (s.fireTrip id sev) :=
  .ite _ (.refl s) (((State.addTrip_consequence id sev s).sparing rfl).entering.trans (State.handGrade_entering _ _))

theorem State.evaluateCombiner_sparing (q : Bool) (i : CombinerId) (s : State) : Sparing s (s.evaluateCombiner q i) :=
  (State.evaluateCombiner_consequence q i s).sparing (by unfold State.evaluateCombiner; dsimp only; split <;> rfl)

theorem State.evaluateTripUnit_entering (x : TripUnit) (s : State) : Entering s (s.evaluateTripUnit x) := by
  unfold State.evaluateTripUnit
  refine Entering.trans ((State.setTripUnit_consequence x _ s).sparing rfl).entering (.ite _ ?_ (.refl _))
  exact ((State.setTripUnit_consequence x _ _).sparing rfl).entering.trans (State.fireTrip_entering _ _ _)

theorem State.evaluateCombiners_entering (q old : Bool) (s : State) : Entering s (s.evaluateCombiners q old) :=
  have h := (((State.evaluateCombiner_sparing q .c0 s).trans (State.evaluateCombiner_sparing q .c1 _)).trans
    (State.evaluateCombiner_sparing q .c2 _)).entering
  .ite _ (h.trans (State.hearLatch_entering _)) h

theorem State.evaluateInputs_entering (q old : Bool) (s : State) : Entering s (s.evaluateInputs q old) :=
  ((State.evaluateCombiners_entering q old s).trans (State.evaluateTripUnit_entering .t1 _)).trans
    (State.evaluateTripUnit_entering .t2 _)

theorem State.takeCond_entering (c : Cond) (b : Bool) (s : State) : Entering s (s.takeCond c b) :=
  Entering.trans (Consequence.sparing (State.setInputs_consequence { s.inputs with conds := s.inputs.conds.put c b } s
    (fun i => by cases i <;> rfl) (List.prefix_refl _)) rfl).entering (State.evaluateInputs_entering false _ _)

theorem State.handOnN_entering (n : Nat) (s : State) : Entering s (s.handOnN n) := by
  induction n generalizing s with
  | zero => exact .refl s
  | succ n ih =>
    unfold State.handOnN
    split
    · exact .refl s
    · exact ((State.setChanges_sparing s _).entering.trans (State.takeCond_entering _ _ _)).trans (ih _)

theorem State.handOn_entering (s : State) : Entering s s.handOn := State.handOnN_entering 32 s

theorem State.endHold_entering (r : EndReason) (s : State) : Entering s (s.endHold r) :=
  .ite _ ((State.dropHold_sparing r s).entering.trans (State.handOn_entering _)) (.refl s)

/-! ## Settling -/

theorem State.settleN_entering (n : Nat) (s : State) : Entering s (s.settleN n) := by
  induction n generalizing s with
  | zero => exact (State.handOn_entering s).trans (State.restPreload_sparing _).entering
  | succ n ih =>
    have a := (State.handOn_entering s).trans (State.weighUncommanded_sparing _).entering
    unfold State.settleN
    dsimp only
    split
    · next h => exact (a.trans (State.decideLatch_entering _ _ h)).trans (ih _)
    · split
      · exact (a.trans (State.completePhase_sparing _ _).entering).trans (ih _)
      · exact a

theorem State.settleN_grounded (n : Nat) (s : State) : Grounded (s.settleN n) := by
  induction n generalizing s with
  | zero => exact State.restPreload_grounded _
  | succ n ih =>
    unfold State.settleN
    dsimp only
    split
    · exact ih _
    · next h =>
      split
      · exact ih _
      · exact State.grounded_of_decided _ h

/-- Settling enters RELEASE_PRELOAD only at the speed of R116. -/
theorem State.settle_entering (s : State) : Entering s s.settle := State.settleN_entering 8 s

/-- Where settling leaves RELEASE_PRELOAD, the latch controller has found no cause of R117. -/
theorem State.settle_grounded (s : State) : Grounded s.settle := State.settleN_grounded 8 s

/-- What R116's sentence on entries says of a settled state: the speed of before, and no cause of R117 after. -/
theorem State.settle_preload (s : State) (h : s.latch.state ≠ .releasePreload)
    (e : s.settle.latch.state = .releasePreload) : s.fast = true ∧ s.settle.preloadOff = false :=
  have f := ((State.settle_entering s).enters e).resolve_left h
  ⟨f.1, State.settle_grounded s ((State.settle_entering s).consequence.first.trans f.2) e⟩

/-! ## Credit and waking -/

theorem State.logDone_sparing (done : List Segment) (s : State) : Sparing s (s.logDone done) := by
  unfold State.logDone
  induction done generalizing s with
  | nil => exact .refl s
  | cons g rest ih => exact (State.logEvent_sparing _ s).trans (ih _)

theorem State.setPath_sparing (x : PathUnit) (s : State) : Sparing s (s.setPath x) :=
  (State.setPath_consequence x s).sparing rfl

theorem State.checkDry_entering (s : State) : Entering s s.checkDry :=
  .ite _ (State.endHold_entering _ s) (.refl s)

theorem State.ranOut_entering (g : Segment) (n : Nat) (s : State) : Entering s (s.ranOut g n) :=
  .ite _ (State.endHold_entering _ s)
    (((State.setPath_sparing _ s).trans (State.logEvent_sparing _ _)).entering.trans (State.checkDry_entering _))

theorem State.consumeCredit_entering (n : Nat) (s : State) : Entering s (s.consumeCredit n) := by
  unfold State.consumeCredit
  dsimp only
  generalize consume s.path.pos s.path.queue n = r
  have h := ((State.setPath_sparing { s.path with queue := r.queue, pos := r.pos } s).trans
    (State.logDone_sparing r.done _)).entering
  split
  · exact h
  · exact .ite _ (h.trans (State.ranOut_entering ..)) (h.trans (State.setPath_sparing _ _).entering)

/-- What a credit can do to the latch: a hold that it ends can bring a demand of a combiner to an end. -/
theorem State.credit_entering (n : Nat) (s : State) : Entering s (s.credit n) := by
  unfold State.credit
  refine .ite _ (.refl s) ?_
  split
  · exact .refl s
  · exact (State.setPath_sparing _ s).entering.trans (State.checkDry_entering _)
  · exact State.consumeCredit_entering n s

/-- Waking keeps the speed of R116 and the first debounce, and enters RELEASE_PRELOAD only at that speed. -/
theorem State.wake_preload (src : WakeSource) (s : State) :
    (s.wake src).fast = s.fast ∧ (s.wake src).latch.first = s.latch.first ∧
    ((s.wake src).latch.state = .releasePreload →
      s.latch.state = .releasePreload ∨ (s.fast = true ∧ s.latch.first = none)) := by
  unfold State.wake
  split
  · have h := State.settle_entering (s.wakeNow src)
    exact ⟨h.consequence.fast, h.consequence.first, h.enters⟩
  · exact ⟨rfl, rfl, .inl⟩

end Sys2Proof.Machine
end

