-- ==== Sys2Proof/Laws/Quiet.lean ====
section
/-! SUPPORT. Settling while no trip unit fires at once: the hold, the path, the travel and the trip set stand; and while no
routine's phase waits for the latch, so do the slot, the working set and the modes. -/

namespace Sys2Proof.Machine

/-- The hold, the path unit, the speed unit, the trip set and the ports' items stand. -/
structure Quiet (s t : State) : Prop where
  auth : t.auth = s.auth
  path : t.path = s.path
  speed : t.speed = s.speed
  trips : t.inputs.trips = s.inputs.trips
  itemA : t.latch.itemA = s.latch.itemA
  itemB : t.latch.itemB = s.latch.itemB
  settings : SameSettings s t

/-- The slot, the working set, the steer axis and the tilt axis's session stand. -/
structure Seated (s t : State) : Prop where
  slot : t.slot = s.slot
  params : t.params = s.params
  steer : t.steer = s.steer
  mode : t.tilt.mode = s.tilt.mode
  returnMode : t.tilt.returnMode = s.tilt.returnMode
  result : t.tilt.result = s.tilt.result
  deltaS : t.solve.deltaS = s.solve.deltaS

theorem Quiet.of {s t : State} (auth : t.auth = s.auth := by rfl) (path : t.path = s.path := by rfl)
    (speed : t.speed = s.speed := by rfl) (trips : t.inputs.trips = s.inputs.trips := by rfl)
    (itemA : t.latch.itemA = s.latch.itemA := by rfl) (itemB : t.latch.itemB = s.latch.itemB := by rfl)
    (settings : SameSettings s t := by exact rfl) : Quiet s t :=
  ⟨auth, path, speed, trips, itemA, itemB, settings⟩

theorem Quiet.refl (s : State) : Quiet s s := .of

theorem Quiet.trans {s t u : State} (h : Quiet s t) (k : Quiet t u) : Quiet s u :=
  ⟨k.auth.trans h.auth, k.path.trans h.path, k.speed.trans h.speed, k.trips.trans h.trips, k.itemA.trans h.itemA,
    k.itemB.trans h.itemB, k.settings.trans h.settings⟩

theorem Seated.of {s t : State} (slot : t.slot = s.slot := by rfl) (params : t.params = s.params := by rfl)
    (steer : t.steer = s.steer := by rfl) (mode : t.tilt.mode = s.tilt.mode := by rfl)
    (returnMode : t.tilt.returnMode = s.tilt.returnMode := by rfl)
    (result : t.tilt.result = s.tilt.result := by rfl) (deltaS : t.solve.deltaS = s.solve.deltaS := by rfl) :
    Seated s t := ⟨slot, params, steer, mode, returnMode, result, deltaS⟩

theorem Seated.refl (s : State) : Seated s s := .of

theorem Seated.trans {s t u : State} (h : Seated s t) (k : Seated t u) : Seated s u :=
  ⟨k.slot.trans h.slot, k.params.trans h.params, k.steer.trans h.steer, k.mode.trans h.mode,
    k.returnMode.trans h.returnMode, k.result.trans h.result, k.deltaS.trans h.deltaS⟩

/-- Trip units' configurations are no parameter that a routine writes. -/
theorem SameSettings.noInstantTrip {s t : State} (h : SameSettings s t) (n : s.params.noInstantTrip) :
    t.params.noInstantTrip := by
  have h' : t.params.unlearned = s.params.unlearned := h
  have h1 : t.params.unlearned.t1 = s.params.unlearned.t1 := by rw [h']
  have h2 : t.params.unlearned.t2 = s.params.unlearned.t2 := by rw [h']
  intro u
  have := n u
  cases u
  · show t.params.unlearned.t1.enabled = true → t.params.unlearned.t1.time.ms ≠ 0
    rw [h1]; exact this
  · show t.params.unlearned.t2.enabled = true → t.params.unlearned.t2.time.ms ≠ 0
    rw [h2]; exact this

/-- With no instant trip, `t` is quiet after `s`. -/
def Hushed (s t : State) : Prop := s.params.noInstantTrip → Quiet s t

/-- With no instant trip, `t` is quiet after `s` and everything stays seated. -/
def Calm (s t : State) : Prop := s.params.noInstantTrip → Quiet s t ∧ Seated s t

theorem Hushed.trans {s t u : State} (h : Hushed s t) (k : Hushed t u) : Hushed s u := fun n =>
  (h n).trans (k ((h n).settings.noInstantTrip n))

theorem Calm.trans {s t u : State} (h : Calm s t) (k : Calm t u) : Calm s u := fun n =>
  have k' := k ((h n).1.settings.noInstantTrip n)
  ⟨(h n).1.trans k'.1, (h n).2.trans k'.2⟩

theorem Calm.refl (s : State) : Calm s s := fun _ => ⟨.refl s, .refl s⟩

theorem Calm.hushed {s t : State} (h : Calm s t) : Hushed s t := fun n => (h n).1

theorem Hushed.refl (s : State) : Hushed s s := (Calm.refl s).hushed

theorem Calm.ite {s a b : State} (c : Prop) [Decidable c] (h : Calm s a) (k : Calm s b) :
    Calm s (if c then a else b) := by split <;> assumption

theorem Hushed.ite {s a b : State} (c : Prop) [Decidable c] (h : Hushed s a) (k : Hushed s b) :
    Hushed s (if c then a else b) := by split <;> assumption

theorem Hushed.of {s t : State} (q : Quiet s t := by exact .of) : Hushed s t := fun _ => q

theorem Calm.of {s t : State} (q : Quiet s t := by exact .of) (p : Seated s t := by exact .of) : Calm s t :=
  fun _ => ⟨q, p⟩

/-! ## The latch controller's decisions -/

theorem AxisCtl.latchClosed_mode (a : AxisCtl) (l : LatchState) : (a.latchClosed l).mode = a.mode := by
  unfold AxisCtl.latchClosed; split <;> rfl

theorem AxisCtl.latchClosed_returnMode (a : AxisCtl) (l : LatchState) :
    (a.latchClosed l).returnMode = a.returnMode := by
  unfold AxisCtl.latchClosed; split <;> rfl

theorem AxisCtl.latchClosed_result (a : AxisCtl) (l : LatchState) : (a.latchClosed l).result = a.result := by
  unfold AxisCtl.latchClosed; split <;> rfl

theorem State.takeLatch_calm (l : LatchState) (s : State) : Calm s (s.takeLatch l) := by
  unfold State.takeLatch
  refine .trans ?_ (.of .of (.of (mode := AxisCtl.latchClosed_mode ..)
    (returnMode := AxisCtl.latchClosed_returnMode ..) (result := AxisCtl.latchClosed_result ..)))
  exact .ite _ .of .of

theorem State.setLatch_calm (l : LatchState) (s : State) : Calm s (s.setLatch l) :=
  .trans .of (State.takeLatch_calm l _)

theorem State.openWindow_calm (x : AttemptSet) (s : State) : Calm s (s.openWindow x) := by
  unfold State.openWindow
  dsimp only
  refine .trans (t := (s.startPulse x.direction).setSet
    (some { x with stage := .window ((s.startPulse x.direction).now + msOf (s.startPulse x.direction).params.lockConfirmMs) }))
    .of ?_
  refine .ite _ ?_ (.refl _)
  unfold State.succeedSet
  exact .trans .of (State.setLatch_calm _ _)

theorem State.beginSet_calm (d : Direction) (o : SetOrigin) (s : State) : Calm s (s.beginSet d o) :=
  .ite _ .of (State.openWindow_calm _ s)

theorem State.endPreload_calm (s : State) : Calm s s.endPreload :=
  .trans (.trans .of (State.setLatch_calm .releasing _)) (State.beginSet_calm .release .own _)

theorem State.beginRelease_calm (s : State) : Calm s s.beginRelease := by
  unfold State.beginRelease
  exact (State.setLatch_calm _ s).trans (.ite _ (State.endPreload_calm _) .of)

theorem State.beginDirectRelease_calm (o : SetOrigin) (s : State) : Calm s (s.beginDirectRelease o) :=
  (State.setLatch_calm _ s).trans (State.beginSet_calm _ _ _)

theorem State.beginPermitRelease_calm (s : State) : Calm s s.beginPermitRelease :=
  .trans .of (State.beginDirectRelease_calm .permit _)

theorem State.beginEngage_calm (o : SetOrigin) (s : State) : Calm s (s.beginEngage o) :=
  (State.setLatch_calm _ s).trans (State.beginSet_calm _ _ _)

theorem State.decideLatch_calm (s t : State) (h : s.decideLatch = some t) : Calm s t := by
  unfold State.decideLatch at h
  split at h
  · cases h
  · split at h
    · split at h
      · cases h; exact State.beginPermitRelease_calm _
      · split at h
        · cases h; exact State.beginRelease_calm _
        · cases h
    · split at h
      · cases h; exact .trans .of (State.setLatch_calm .engaged _)
      · cases h
    · cases h
    · split at h
      · cases h; exact State.beginEngage_calm _ _
      · cases h
    · cases h
    · split at h
      · cases h; exact State.setLatch_calm _ _
      · cases h
    · split at h
      · cases h; exact State.setLatch_calm _ _
      · cases h

theorem State.weighUncommanded_calm (s : State) : Calm s s.weighUncommanded := .ite _ .of (.refl s)

/-- What the latch controller does when it hears of a change, with no instant trip. -/
theorem State.hearLatch_calm (s : State) : Calm s s.hearLatch := by
  refine (State.weighUncommanded_calm s).trans
    (.trans (t := s.weighUncommanded.decideLatch.getD s.weighUncommanded) ?_ .of)
  cases h : s.weighUncommanded.decideLatch with
  | none => exact .refl _
  | some t => exact State.decideLatch_calm _ t h

theorem State.restPreload_calm (s : State) : Calm s s.restPreload :=
  .ite _ (.trans .of (State.setLatch_calm .engaged _)) (.refl s)

/-! ## Conditions -/

theorem State.evaluateCombiner_calm (q : Bool) (i : CombinerId) (s : State) : Calm s (s.evaluateCombiner q i) := by
  unfold State.evaluateCombiner
  have h := InputUnit.setCombiner_trips s.inputs i (s.inputs.evaluate (s.params.combiner i) (s.inputs.combiner i))
  exact .ite _ (.of (.of (trips := h))) (.of (.of (trips := h)))

/-- A trip unit's timer runs only while it is enabled. -/
theorem InputUnit.readTripUnit_enabled (u : InputUnit) (x : TripUnit) (c : TripCfg) (n : Nat)
    (h : (u.readTripUnit x c n).since.isSome) : c.enabled = true := by
  unfold InputUnit.readTripUnit at h
  split at h
  · next h' => simp only [Bool.and_eq_true] at h'; exact h'.1
  · simp at h

/-- With no instant trip an evaluation fires nothing. -/
theorem State.evaluateTripUnit_calm (x : TripUnit) (s : State) : Calm s (s.evaluateTripUnit x) := fun n => by
  unfold State.evaluateTripUnit
  dsimp only
  split
  · next h =>
    simp only [Bool.and_eq_true, decide_eq_true_eq] at h
    exact absurd h.2 (n x (InputUnit.readTripUnit_enabled _ _ _ _ h.1.1))
  · exact ⟨.of (trips := InputUnit.setTripUnit_trips ..), .of⟩

theorem State.evaluateCombiners_calm (q old : Bool) (s : State) : Calm s (s.evaluateCombiners q old) :=
  have h := ((State.evaluateCombiner_calm q .c0 s).trans (State.evaluateCombiner_calm q .c1 _)).trans
    (State.evaluateCombiner_calm q .c2 _)
  .ite _ (h.trans (State.hearLatch_calm _)) h

theorem State.evaluateInputs_calm (q old : Bool) (s : State) : Calm s (s.evaluateInputs q old) :=
  ((State.evaluateCombiners_calm q old s).trans (State.evaluateTripUnit_calm .t1 _)).trans
    (State.evaluateTripUnit_calm .t2 _)

theorem State.takeCond_calm (c : Cond) (b : Bool) (s : State) : Calm s (s.takeCond c b) :=
  .trans (t := s.setInputs { s.inputs with conds := s.inputs.conds.put c b }) .of (State.evaluateInputs_calm false _ _)

theorem State.handOnN_calm (k : Nat) (s : State) : Calm s (s.handOnN k) := by
  induction k generalizing s with
  | zero => exact .refl s
  | succ k ih =>
    unfold State.handOnN
    split
    · exact .refl s
    · next x rest _ =>
      exact .trans (t := (s.setChanges rest).takeCond x.1 x.2)
        (.trans (t := s.setChanges rest) .of (State.takeCond_calm _ _ _)) (ih _)

theorem State.handOn_calm (s : State) : Calm s s.handOn := State.handOnN_calm 32 s

/-! ## Phases and settling -/

theorem State.leaveSession_hushed (x : Axis) (s : State) : Hushed s (s.leaveSession x) := by
  cases x <;> exact .of

theorem State.logEvent_hushed (e : Event) (s : State) : Hushed s (s.logEvent e) := .of

theorem State.setSlot_hushed (x : Slot) (s : State) : Hushed s (s.setSlot x) := .of

theorem State.finishRoutine_hushed (r : Routine) (o : RoutineOutcome) (s : State) :
    Hushed s (s.finishRoutine r o false) := by
  unfold State.finishRoutine
  refine .trans ?_ (State.setSlot_hushed _ _)
  refine .trans ?_ (State.leaveSession_hushed _ _)
  refine .trans ?_ (State.logEvent_hushed _ _)
  refine .trans (t := if o = .pass then (s.setDrive r.axis 0).setParams (r.writes (s.setDrive r.axis 0).params)
    else s.setDrive r.axis 0) ?_ ?_
  · refine .trans (t := s.setDrive r.axis 0) ?_ (.ite _ (.of (.of (settings := Routine.writes_unlearned ..))) (.refl _))
    cases r.axis <;> exact .of
  · cases r.axis <;> exact .of

theorem State.askSet_hushed (d : Direction) (s : State) : Hushed s (s.askSet d) := by
  unfold State.askSet
  refine .ite _ (.refl s) ?_
  cases d
  · exact (State.beginEngage_calm _ _).hushed
  · exact (State.beginDirectRelease_calm _ _).hushed

theorem State.askWaiting_hushed (s : State) : Hushed s s.askWaiting := by
  unfold State.askWaiting
  split
  · refine .ite _ (.refl s) (.ite _ (State.askSet_hushed _ s) (.ite _ (State.askSet_hushed _ s) (.refl s)))
  all_goals exact .refl s

theorem State.setDrive_hushed (x : Axis) (d : Int) (s : State) : Hushed s (s.setDrive x d) := by
  cases x <;> exact .of

theorem State.beginPhase_hushed (r : Routine) (ph : Phase) (s : State) : Hushed s (s.beginPhase r ph) := by
  unfold State.beginPhase
  cases ph
  · exact (State.setSlot_hushed _ s).trans (State.askSet_hushed _ _)
  · exact (State.setSlot_hushed _ s).trans (State.setDrive_hushed _ _ _)
  · exact (State.setSlot_hushed _ s).trans (State.setDrive_hushed _ _ _)
  · exact State.setSlot_hushed _ s
  · exact (State.setSlot_hushed _ s).trans (State.askSet_hushed _ _)
  · exact State.setSlot_hushed _ s
  · exact State.setSlot_hushed _ s
  · exact (State.setSlot_hushed _ s).trans (State.setDrive_hushed _ _ _)
  · exact (State.setSlot_hushed _ s).trans (State.setDrive_hushed _ _ _)

theorem State.completePhase_hushed (r : Routine) (s : State) : Hushed s (s.completePhase r) := by
  unfold State.completePhase
  split
  · exact State.beginPhase_hushed _ _ _
  · exact State.finishRoutine_hushed _ _ _

theorem State.settleN_hushed (k : Nat) (s : State) : Hushed s (s.settleN k) := by
  induction k generalizing s with
  | zero => exact ((State.handOn_calm s).trans (State.restPreload_calm _)).hushed
  | succ k ih =>
    have a := ((State.handOn_calm s).trans (State.weighUncommanded_calm _)).hushed
    unfold State.settleN
    dsimp only
    split
    · next h => exact (a.trans (State.decideLatch_calm _ _ h).hushed).trans (ih _)
    · split
      · exact (a.trans (State.completePhase_hushed _ _)).trans (ih _)
      · exact a

/-- With no instant trip, settling touches neither the hold nor the path, the speed unit, the trip set or the items. -/
theorem State.settle_quiet (s : State) (n : s.params.noInstantTrip) : Quiet s s.settle := State.settleN_hushed 8 s n

theorem State.NotWaiting.ready {s : State} (h : s.NotWaiting) : s.routineReady = none := by
  unfold State.routineReady
  split
  · next r hr =>
    rcases h r hr with h | h
    · rw [if_neg]; simp [h]
    · rw [if_neg]; simp [h]
  all_goals rfl

theorem State.NotWaiting.of_slot {s t : State} (h : s.NotWaiting) (e : t.slot = s.slot) : t.NotWaiting := by
  intro r hr
  exact h r (e ▸ hr)

theorem State.settleN_calm (k : Nat) (s : State) (n : s.params.noInstantTrip) (h : s.NotWaiting) :
    Quiet s (s.settleN k) ∧ Seated s (s.settleN k) := by
  induction k generalizing s with
  | zero => exact ((State.handOn_calm s).trans (State.restPreload_calm _)) n
  | succ k ih =>
    have a := ((State.handOn_calm s).trans (State.weighUncommanded_calm _)) n
    have na := a.1.settings.noInstantTrip n
    have ha := h.of_slot a.2.slot
    unfold State.settleN
    dsimp only
    split
    · next t e =>
      have b := State.decideLatch_calm _ _ e na
      have c := ih t (b.1.settings.noInstantTrip na) (ha.of_slot b.2.slot)
      exact ⟨(a.1.trans b.1).trans c.1, (a.2.trans b.2).trans c.2⟩
    · rw [ha.ready]
      exact a

/-- With no instant trip and no phase that waits for the latch, settling touches neither the slot nor the working set, the
steer axis or the tilt axis's session. -/
theorem State.settle_seated (s : State) (n : s.params.noInstantTrip) (h : s.NotWaiting) : Seated s s.settle :=
  (State.settleN_calm 8 s n h).2

end Sys2Proof.Machine
end

