-- ==== Sys2Proof/Tests/Slice0.lean ====
section
/-! SUPPORT. Tests: ill-formed commands refused, worked examples of the manual, and for every statement with hypotheses a state
and operands that meet them, clause by clause. -/

namespace Sys2Proof.Tests

open Sys2Proof.Machine

set_option maxRecDepth 40000

/-! ## States to test on -/

/-- The state that an outcome goes on to. -/
def after (o : Host.Outcome State Fault Refusal) : State :=
  match o with
  | .next t => t
  | .fault _ => .reset
  | .refused _ => .reset

/-- The state after the commands, one after the other. -/
def run (cs : List Instr) (s : State) : State := cs.foldl (fun s c => after (exec c s)) s

/-- A request frame with reference 7. -/
def frame (p : Port) (bytes : List Byte) : Frame := { port := p, ref := 7, payload := bytes }

/-- After reset, the first confirm debounce over. -/
def base : State := State.reset.setLatchUnit { LatchUnit.reset false true with first := none }

/-- A hold of port `p` since time 0. -/
def heldBy (p : Port) (s : State) : State :=
  (s.setAuth { s.auth with hold := some { port := p, thetaRef := 0, lastContact := 0, takeoverSince := none } }).setPath
    { PathUnit.empty with held := some 0 }

/-- A segment of 500 cm. -/
def seg (endRelease : Bool) : Segment :=
  { tag := 5, length := 500, k0 := 0, k1 := -40, ceiling := some 300, trim := none, endRelease := endRelease }

/-- Port A holds, with this queue. -/
def onPath (q : List Segment) : State := (heldBy .a base).setPath { PathUnit.empty with queue := q }

/-- One record in the trip set. -/
def tripped (t : TripId) (sev : Severity) (s : State) : State :=
  s.setInputs { s.inputs with trips := [{ id := t, severity := sev }] }

/-- The latch in another state. -/
def latched (l : LatchState) (closed : Bool) (s : State) : State :=
  s.setLatchUnit { s.latch with state := l, closed := closed }

/-- The holding place of port A occupied since time 0. -/
def occupied : State :=
  base.setPortA { PortRec.reset with
    place := some { kind := 1, ref := 0, at_ := 0, answer := { status := .ok, payload := [] } } }

/-- A wheel that has run. -/
def wheelAt (v T : Nat) : WheelRec := { mode := .running, lastEdge := some 0, period := some T, speed := v, odd := false }

/-- All wheels at `v`. -/
def rolling (v : Nat) (s : State) : State :=
  s.setSpeed { s.speed with rear := wheelAt v 5750, frontL := wheelAt v 5750, frontR := wheelAt v 5750, median := v, v := v }

/-- An axis in a mode, to return to TRACK. -/
def moded (x : Axis) (m : AxisMode) (s : State) : State :=
  s.setAxis x { s.axis x with mode := m, returnMode := some .track }

/-- A routine of port A under way in a phase. -/
def inRoutine (r : Routine) : State := moded r.axis .routine ((heldBy .a base).setSlot (.routine r))

/-- A routine in a phase. -/
def routineAt (x : Axis) (k : RoutineKind) (ph : Phase) : Routine := { Routine.start x k 0 with phase := ph }

/-- An attempt set. -/
def setAt (d : Direction) (n : Nat) (st : SetStage) : AttemptSet :=
  { direction := d, attempt := n, stage := st, origin := .own }

/-- A pulse. -/
def pulseAt (ph : PulsePhase) (hold : Nat) : Pulse :=
  { direction := .release, phase := ph, phaseEnd := 30000, pullDuty := 1000, holdMs := hold, holdDuty := 400,
    lastOfFailed := false }

/-- The latch with a set and a pulse. -/
def attempting (l : LatchState) (closed : Bool) (x : Option AttemptSet) (q : Option Pulse) : State :=
  base.setLatchUnit { base.latch with state := l, closed := closed, set := x, pulse := q }

/-- The confirm switch has differed since time 0. -/
def differing (s : State) : State := s.setLatchUnit { s.latch with differSince := some 0 }

/-- A tilt routine whose phase waits for the set that a confirm level which has differed since time 0 completes. -/
def awaiting (d : Direction) (q : Routine) : State :=
  (inRoutine q).setLatchUnit { base.latch with
    state := if d = .release then .releasing else .engaging, closed := d = .release, differSince := some 0,
    set := some (setAt d 1 (.window 120000)) }

/-- C2 logs the changes of a condition. -/
def watching (c : Cond) (s : State) : State :=
  s.setParams { s.params with
    c2 := { s.params.c2 with a := { cond := c, inverted := false }, fn := .aOnly, action := .event } }

/-- No combiner has an action. -/
def freed (s : State) : State :=
  s.setParams { s.params with c0 := { s.params.c0 with action := .none }, c1 := { s.params.c1 with action := .none } }

/-- No combiner has an action, and every condition has been handed on. -/
def noChange (s : State) : State := (freed s).handOn

/-- On a lift, switched on. -/
def lifted (s : State) : State := s.setInputs { s.inputs with lift := { active := true, differSince := none } }

/-! ## Premises that the statements share -/

theorem quiet : Params.loadedBuiltin.noInstantTrip := by intro u; cases u <;> decide

theorem valid : Params.loadedBuiltin.Valid := by
  constructor
  · intro x; cases x <;> decide
  all_goals decide

theorem validFreed : (freed base).params.Valid := by
  constructor
  · intro x; cases x <;> decide
  all_goals decide

theorem waitsFree (s : State) (h : s.slot = .free) : s.NotWaiting := by
  intro r hr; rw [h] at hr; cases hr

theorem waitsPush : (inRoutine (routineAt .tilt .lockTest .pushLeft)).NotWaiting := by
  intro r h; cases h; exact Or.inr rfl

/-- A part whose combiners have no action, with a free slot, leaves the latch to the latch controller. -/
theorem alone (s : State) (h : s.params = (freed base).params) (k : s.slot = .free) : s.LatchAlone where
  trips := by rw [h]; intro u; cases u <;> decide
  combiners := .inl (by rw [h]; intro i; cases i <;> decide)
  phases := waitsFree s k

/-- A part with PRELOAD_MS at 0. -/
def noPreload (s : State) : State := s.setParams { s.params with preloadMs := 0 }

/-- As `alone`, with PRELOAD_MS at 0. -/
theorem aloneNoPreload (s : State) (h : s.params = (noPreload (freed base)).params) (k : s.slot = .free) :
    s.LatchAlone where
  trips := by rw [h]; intro u; cases u <;> decide
  combiners := .inl (by rw [h]; intro i; cases i <;> decide)
  phases := waitsFree s k

/-- A part with the default working set, every condition handed on, its combiners at rest and a free slot leaves the latch to the
latch controller too. -/
theorem aloneAtRest (s : State) (h : s.params = base.params) (k : s.slot = .free) (w : s.waitingChanges = [])
    (e : ∀ i, s.inputs.evaluate (s.params.combiner i) (s.inputs.combiner i) = s.inputs.combiner i) : s.LatchAlone where
  trips := by rw [h]; intro u; cases u <;> decide
  combiners := .inr ⟨w, fun i => by refine ⟨?_, ?_, ?_, e i⟩ <;> rw [h] <;> cases i <;> decide⟩
  phases := waitsFree s k

/-- The default working set at speed: STILL is handed on as false, and no combiner demands a lock. -/
def ridden : State := moded .tilt .track ((rolling 500 base).handOn)

/-- A credit of 17 cm waits for the return to GOOD, and no hold stands. -/
def withholding : State :=
  (rolling 900 base).setSpeed { (rolling 900 base).speed with estimate := .suspect, withheld := 17 }

/-- The part at speed in TRACK, with C0 demanding a lock and T1 about to fire where C0 turns false. -/
def demanding : State :=
  let p := base.params
  let q := { p with
    c0 := { p.c0 with a := .always, fn := .aOnly }, c1 := { p.c1 with action := .none },
    t1 := { p.t1 with
      enabled := true, a := { cond := .c0, inverted := true }, b := .always, c := .always, time := .ms0, severity := .degrade } }
  let s := (moded .tilt .track (rolling 500 base)).setParams q
  s.setInputs { s.inputs with c0 := { stored := false, output := true } }

/-- A preload with every condition handed on. -/
def settledPreload : State := ((latched .releasePreload true (freed base)).handOn)

theorem writesPpr : Params.loadedBuiltin.write (.num .ppr) [24, 0] = some .loadedBuiltin := by decide

/-- A routine's last phase under way again while the latch is in state `l`. -/
def resuming (l : LatchState) (closed : Bool) (r : Routine) : State :=
  (inRoutine { r with held := some 0 }).setLatchUnit { base.latch with state := l, closed := closed }

/-- A return to GOOD at the next edge of a wheel that is not the source, with 17 cm withheld under a hold. -/
def withheld : State := heldBy .a withholding

/-- On a segment with a ceiling of 300 cm/s, with the wheels at `a`, `b` and `c` and v at `v`. -/
def underCeiling (a b c v : Nat) (since : Option Nat) : State :=
  ((onPath [seg true]).setPath { PathUnit.empty with queue := [seg true], ceilingSince := since }).setSpeed { base.speed with
    rear := wheelAt a 5750, frontL := wheelAt b 5750, frontR := wheelAt c 5750, median := v, v := v }

/-- At `v`, one centimetre before the end of the first of two segments. -/
def nearEnd (v : Nat) : State :=
  rolling v ((onPath []).setPath { PathUnit.empty with queue := [seg false, seg false], pos := 499 })

/-- At `v`, one centimetre before the end of the last segment. -/
def lastEnd (v : Nat) : State := rolling v ((onPath []).setPath { PathUnit.empty with queue := [seg true], pos := 499 })

/-- Port A holds, with a batch open and one segment staged. -/
def opened : State := (heldBy .a base).setPath { PathUnit.empty with held := some 0, batchOpen := true, staging := [seg true] }

/-- A preload at speed with every condition handed on and no combiner demand. -/
def preloading : State := (latched .releasePreload true ridden).handOn

/-- The default set with another C0. -/
def setC0 (x : CombinerCfg) : Params := { Params.loadedBuiltin with c0 := x }

/-- The default set with another T1. -/
def setT1 (x : TripCfg) : Params := { Params.loadedBuiltin with t1 := x }

/-- A hold on such a queue has the path unit's shape. -/
theorem pathShape_of (s : State) (q : List Segment) (c : Option Nat × Nat)
    (h : s.path = { PathUnit.empty with queue := q, pos := c.2, ceilingSince := c.1 }) (k : s.auth.hold ≠ none)
    (hq : q = [seg true] ∨ q = [seg false, seg false]) (hn : c.2 < 500) : s.PathShape := by
  have hs : ∀ b, (seg b).Settled := fun b => by cases b <;> (constructor <;> decide)
  have hl : ∀ g ∈ q, g = seg true ∨ g = seg false := by
    rcases hq with rfl | rfl <;> simp
  refine ⟨?_, ?_, ?_, ?_, ?_, fun e => absurd e k, fun _ => ?_, fun _ => ?_⟩ <;> rw [h]
  · rcases hq with rfl | rfl <;> exact Nat.le_of_ble_eq_true rfl
  · exact Nat.le_of_ble_eq_true rfl
  · intro g hg; rcases hl g hg with rfl | rfl <;> exact hs _
  · intro g hg; cases hg
  · intro g rest e
    have hg : g ∈ q := by rw [show q = g :: rest from e]; exact List.mem_cons_self
    rcases hl g hg with rfl | rfl <;> exact hn
  · rcases hq with rfl | rfl <;> simp [PathUnit.empty]
  · rcases hq with rfl | rfl <;> exact ⟨_, _, 300, rfl, rfl⟩

/-! ## Well-formedness -/

theorem test_wf_frame : (Instr.enable 0 (frame .a (List.replicate 39 0))).wf = false := by decide
theorem test_wf_longest : (Instr.enable 0 (frame .a (List.replicate 38 0))).wf = true := by decide
theorem test_wf_tail : (Instr.loadPathOnly 0 (frame .a (List.replicate 38 0))).wf = false := by decide
theorem test_wf_tail_longest : (Instr.loadPathOnly 0 (frame .a (List.replicate 37 0))).wf = true := by decide
theorem test_wf_length : (Instr.frameAbandon 0 .a (.badLength 40)).wf = false := by decide
theorem test_wf_length_above : (Instr.frameAbandon 0 .a (.badLength 41)).wf = true := by decide
theorem test_wf_character : (Instr.frameAbandon 0 .a (.characterError (.of 0x5A))).wf = false := by decide
theorem test_wf_character_error : (Instr.frameAbandon 0 .a (.characterError { data := 0x5A, parity := true, stop := true })).wf =
    true := by decide
theorem test_wf_known_kind : (Instr.unknown 0 0x41 (frame .a [])).wf = false := by decide
theorem test_wf_unknown_kind : (Instr.unknown 0 0x42 (frame .a [])).wf = true := by decide

/-! ## Worked examples -/

theorem test_no_word_spells_a_command : decodeTableWord 16 0x5A02 = none ∧
    (State.reset.withFetchWord 16 0x5A02).pending = [] := by decide
theorem test_full_reset : after (exec (.fullReset quietSwitches true) State.reset) = State.reset := by decide
theorem test_first_debounce_open :
    (after (exec (.firstConfirmDebounce 0 false) State.reset)).latch.first = some { level := false, since := 0 } ∧
    (run [.firstConfirmDebounce 0 false, .firstConfirmDebounce 5000 false] State.reset).latch.closed = false := by decide
/-- The tilt axis back in TRACK, driving, after a LOCK_TEST slip told before the first confirm debounce. -/
def slippedEarly : State :=
  (State.reset.setLatchUnit { State.reset.latch with state := .unlatchedFault }).setTilt
    { AxisCtl.reset with mode := .track, drive := 300, trackSince := some 0 }
theorem test_first_debounce_stops_the_tilt_drive :
    (after (exec (.firstConfirmDebounce 5000 true) slippedEarly)).latch.state = .engaged ∧
    (after (exec (.firstConfirmDebounce 5000 true) slippedEarly)).tilt.drive = 0 ∧
    (after (exec (.firstConfirmDebounce 5000 true) slippedEarly)).tilt.trackSince = none ∧
    (after (exec (.firstConfirmDebounce 5000 true) slippedEarly)).log = slippedEarly.log := by decide
theorem test_wheel_edge_example :
    (after (exec (.wheelEdge 5750 .rear) (rolling 900 base))).speed.rear.speed = 1000 := by decide
theorem test_wheel_glitch : (after (exec (.wheelEdge 299 .rear) (rolling 900 base))).speed = (rolling 900 base).speed := by decide
theorem test_decay : (after (exec (.decayStep 250000 .rear) (rolling 900 base))).speed.rear.speed = 23 := by decide
theorem test_stall : (after (exec (.stallExpiry 251000 .rear) (rolling 900 base))).speed.rear.mode = .stalled := by decide
theorem test_suspect_trip :
    (after (exec (.suspectTimerExpiry 500000)
      (base.setSpeed { base.speed with estimate := .suspect, suspectSince := some 0 }))).grade = .degrade := by decide
theorem test_kmax_table : kMax 450 4000 300 = 444 ∧ kMax 450 1500 300 = 166 ∧ kMax 450 4000 500 = 160 := by decide
theorem test_steer_table : steerTarget 450 9532 3400 = 3094 ∧ steerTarget 444 9532 3400 = 3053 ∧
    steerTarget 160 9532 3400 = 1100 := by decide
theorem test_solve_period :
    (after (exec (.solvePeriod 2000) (rolling 500 (heldBy .a (base.setSolve { base.solve with kc := 100 }))))).solve.periodDue
      = 4000 := by decide
theorem test_segment_curvature : ({ seg false with length := 500 } : Segment).curvatureAt 350 = -28 := by decide
theorem test_load_path : (after (exec (.loadPathOnly 0 (frame .a [8, 5, 10, 0, 0xF4, 0x01])) (heldBy .a base))).path.queue =
    [{ tag := 5, length := 10, k0 := 500, k1 := 500, ceiling := none, trim := none, endRelease := true }] := by decide
theorem test_load_path_batch : (run [.loadPathFirst 0 (frame .a [0, 1, 10, 0, 0, 0]), .replySent 2000 .a,
    .loadPathMiddle 0 (frame .a [0, 2, 10, 0, 0, 0]), .replySent 2000 .a,
    .loadPathLast 0 (frame .a [])] (heldBy .a base)).path.queue.map (·.tag) = [1, 2] := by decide
theorem test_flush : (after (exec (.flushPath 0 (frame .a [])) (onPath [seg false, seg true]))).path.held = some 0 := by decide
theorem test_overspeed : (after (exec (.overspeedExpiry 200000)
    ((onPath [seg false]).setPath { PathUnit.empty with queue := [seg false], ceilingSince := some 0 }))).auth.hold = none := by
  decide
theorem test_take_and_drop : (run [.takeHold 0 (frame .b [0]), .replySent 2000 .b, .dropHold 0 (frame .b [])] base).log.records.map
    (·.event) = [.startFull .factory, .holdBegin .b, .holdEnd .dropped] := by decide
theorem test_preempt : (after (exec (.takeHold 0 (frame .a [1])) (heldBy .b base))).holds .a = true := by decide
theorem test_silence : (after (exec (.silenceExpiry 300000) (heldBy .a base))).auth.hold = none ∧
    (after (exec (.silenceExpiry 299999) (heldBy .a base))).auth.hold ≠ none := by decide
theorem test_handlebar : (after (exec (.handlebarSample 0 3438) base)).auth.riderDemand = 500 ∧
    (after (exec (.handlebarSample 0 (-1000)) base)).auth.riderDemand = -145 := by decide
theorem test_takeover : (run [.handlebarSample 0 801, .takeoverExpiry 150000] (heldBy .a base)).auth.hold = none := by decide
theorem test_dropout : (run [.handlebarSample 0 4801, .handlebarDropoutExpiry 100000] base).inputs.trips =
    [{ id := .handlebar, severity := .degrade }] := by decide
theorem test_axis_sample : (after (exec (.axisSample 0 .steer 100) (moded .steer .track base))).steer.drive = -200 := by decide
theorem test_axis_invalid : (after (exec (.axisSample 0 .tilt 4801) base)).grade = .lockdown := by decide
theorem test_tracking : (after (exec (.trackingExpiry 300000 .steer)
    (base.setSteer { base.steer with mode := .track, trackSince := some 0 }))).grade = .degrade := by decide
theorem test_enable : (after (exec (.enable 0 (frame .a [])) base)).tilt.mode = .track := by decide
theorem test_start_routine : (after (exec (.startRoutine 0 (frame .a [1, 1])) (heldBy .a base))).steer.mode = .routine := by decide
theorem test_sweep : (after (exec (.sweepStopFound 200000) (inRoutine (routineAt .steer .home .sweepLeft)))).steer.drive = -300 :=
  by decide
theorem test_phase_timeout : (after (exec (.phaseTimeout 4000000)
    (inRoutine (routineAt .steer .home .centre)))).steer.result.outcome = .failTimeout := by decide
theorem test_ramp : (after (exec (.rampStep 2000)
    (inRoutine { routineAt .steer .friction .rampLeft with rampSince := some 0 }))).steer.drive = 2 := by decide
theorem test_push : (after (exec (.pushPhaseEnd 300000) (inRoutine (routineAt .tilt .lockTest .pushRight)))).slot = .free := by
  decide
theorem test_suspend_resume : (run [.suspendRoutine 0 (frame .a []), .replySent 2000 .a, .resumeRoutine 0 (frame .a [])]
    (inRoutine (routineAt .steer .home .sweepLeft))).log.records.map (·.event) =
    [.startFull .factory, .routineSuspend .steer, .routineResume .steer] := by decide
theorem test_abort : (after (exec (.abortRoutine 0 (frame .a [])) (inRoutine (routineAt .steer .home .sweepLeft)))).steer.mode =
    .track := by decide
theorem test_read_result : (after (exec (.readResult 0 (frame .b [1])) base)).portB.place.map (·.answer.payload.length) =
    some 9 := by decide
theorem test_service : (run [.enterService 0 (frame .a [1]), .replySent 2000 .a, .serviceDrive 0 (frame .a [0xE8, 0x03]),
    .replySent 2000 .a] (heldBy .a base)).steer.drive = 900 := by decide
theorem test_service_ends : (run [.enterService 0 (frame .a [1]), .replySent 2000 .a, .serviceDrive 0 (frame .a [100, 0]),
    .serviceDriveExpiry 100000] (heldBy .a base)).steer.drive = 0 := by decide
theorem test_leave_service : (run [.enterService 0 (frame .a [1]), .replySent 2000 .a, .leaveService 0 (frame .a [])]
    (heldBy .a base)).slot = .free := by decide
theorem test_slip : (run [.confirmEdge 0 false, .confirmEdge 5000 false] base).log.records.map (·.event) =
    [.startFull .factory, .lockState .unlatchedFault, .lockFault .slip] := by decide
theorem test_preload : (after (exec (.preloadExpiry 40000)
    (base.setLatchUnit { base.latch with state := .releasePreload, preloadEnd := some 40000 }))).latch.state = .releasing := by
  decide
theorem test_pullin : ((after (exec (.pullinEnd 30000)
    (attempting .releasing true none (some (pulseAt .pullIn 60))))).latch.pulse.map (·.phaseEnd)) = some 90000 := by decide
theorem test_pulse_end : (after (exec (.pulseEnd 30000)
    (attempting .releasing true none (some (pulseAt .hold 60))))).latch.pulse = none := by decide
theorem test_third_failure : (after (exec (.confirmWindowClose 120000)
    (attempting .releasing true (some (setAt .release 3 (.window 120000))) none))).log.records.map (·.event) =
    [.startFull .factory, .lockState .jammed, .lockFault .jammed, .lockState .engaged] := by decide
theorem test_second_attempt : ((after (exec (.attemptPauseEnd 50000)
    (attempting .engaging false (some (setAt .engage 1 (.pause 50000))) none))).latch.set.map (·.attempt)) = some 2 := by decide
theorem test_lock_demand : (after (exec (.lockDemandLock 0 (frame .b [])) base)).latch.itemB = .lock ∧
    (run [.lockDemandLock 0 (frame .b []), .replySent 2000 .b, .lockDemandNone 0 (frame .b [])] base).latch.itemB = .none := by decide
theorem test_permit : (after (exec (.lockDemandPermit 0 (frame .a [])) (lifted (heldBy .a base)))).latch.itemA = .permit := by decide
theorem test_park : (after (exec (.park 0 (frame .a [])) base)).latch.run = .parked := by decide
theorem test_auto_park : (run [.keyOffExpiry 2000000, .autoPark 0] base).latch.run = .parked := by decide
theorem test_input : (run [.inputChange 0 .brake true, .inputChange 8000 .brake true] base).inputs.brake.active = true ∧
    (run [.inputChange 0 .brake true, .inputChange 7999 .brake true] base).inputs.brake.active = false := by decide
theorem test_trip_unit : (after (exec (.tripUnitExpiry 20000 .t1)
    ((base.setParams { base.params with t1 := { base.params.t1 with enabled := true, time := .ms20 } }).setInputs
      { base.inputs with t1 := { since := some 0, fired := false } }))).inputs.trips.map (·.id) = [.trip1] := by decide
theorem test_clear_trip : (after (exec (.clearTrip 0 (frame .a [])) (tripped .speed .degrade base))).inputs.trips = [] := by decide
theorem test_read_events : (after (exec (.readEvents 0 (frame .a [])) base)).log = .empty := by decide
theorem test_rearm_gap : (run [.readEvents 0 (frame .a []), .rearmGapEnd 50 .a]
    (base.setLog { base.log with records := List.replicate 7 { event := .startSoft, stamp := 0 } })).log.attnA =
    { asserted := true, gapEnd := none } := by decide
theorem test_crc : crc8 [0x02, 0x01, 0x07] = 0xD6 := by decide
theorem test_status_frame : (run [.receivedCharacter 44 .a (.of 0x5A), .receivedCharacter 44 .a (.of 0x02),
    .receivedCharacter 44 .a (.of 0x01), .receivedCharacter 44 .a (.of 0x07), .receivedCharacter 44 .a (.of 0xD6)] base).portA.place.map (fun h => (h.kind, h.ref)) =
    some (0x01, 0x07) := by decide
theorem test_character_error : (run [.receivedCharacter 44 .a (.of 0x5A),
    .receivedCharacter 44 .a { data := 0x02, parity := false, stop := true }] base).portA.rx = .hunt := by decide
theorem test_frame_gap : (after (exec (.frameGapTimeout 2001 .a) (base.setPortA { PortRec.reset with rx := .length }))).portA.rx =
    .hunt := by decide
theorem test_frame_abandon : (after (exec (.frameAbandon 0 .a (.badLength 41))
    (base.setPortA { PortRec.reset with rx := .length }))).portA.rx = .hunt := by decide
theorem test_port_overrun : (after (exec (.portOverrun 0 .a) occupied)).log.records.map (·.event) =
    [.startFull .factory, .portOverrun .a] := by decide
theorem test_reply_sent : (after (exec (.replySent 264 .a) occupied)).portA.place = none ∧
    (after (exec (.replySent 263 .a) occupied)).portA.place ≠ none := by decide
theorem test_unknown : (after (exec (.unknown 0 0x42 (frame .a [])) base)).portA.place.map (·.answer.status) = some .unknown := by
  decide
theorem test_status : (after (exec (.status 0 (frame .a [])) base)).portA.place.map (·.answer.payload.length) = some 32 := by decide
theorem test_get_param : (after (exec (.getParam 0 (frame .a [0x12])) base)).portA.place.map (·.answer.payload) =
    some [0x12, 0xA0, 0x0F] := by decide
theorem test_set_param : (after (exec (.setParam 0 (frame .a [0x13, 0xFF, 0x7F])) base)).params.aSafe = 4000 := by decide
theorem test_soft_restart : (after (exec (.softRestart 0 (frame .a [])) base)).log.records.map (·.event) =
    [.startFull .factory, .startSoft] := by decide
theorem test_commit : (run [.commitCal 0 (frame .a []), .storeDone 60000 true] base).store.source = .user ∧
    (run [.commitCal 0 (frame .a []), .storeDone 60000 false] base).store.user.passes = false := by decide
theorem test_restore : (after (exec (.restoreCal 0 (frame .a []))
    (base.setParams { base.params with aMax := 500, aSafe := 300 }))).params.aMax = 4000 := by decide
theorem test_reply_frame : (after (exec (.enable 0 (frame .a [1])) base)).portA.tx =
    [0x5A, 0x03, 0x90, 0x07, 0x06, crc8 [0x03, 0x90, 0x07, 0x06]].map .of := by decide
theorem test_sent_characters : ((after (exec (.enable 0 (frame .a [1])) base)).portA.tx.take 3).map (·.parity) =
    [false, false, false] ∧ Character.of 0x07 = { data := 0x07, parity := true, stop := true } := by decide
theorem test_uncommanded_at_speed : (run [.confirmEdge 0 true, .confirmEdge 5000 true]
    (rolling 500 (latched .released false (moded .tilt .track (freed base))))).latch.state = .engaged := by decide
theorem test_lockdown_abandons_before_the_hold_ends :
    (after (exec (.axisSample 0 .tilt 4801) (heldBy .a (latched .releasePreload true base)))).log.records.map (·.event) =
    [.startFull .factory, .trip .sensorTilt, .lockState .engaged, .holdEnd .safe] := by decide
theorem test_absent_handlebar : (after (step (State.reset.setPins { State.reset.pins with handlebar := 4801 }))).auth.dropoutSince =
    some 0 := by decide
theorem test_no_change_is_lost :
    (run [.confirmEdge 5000 true] (watching .locked (rolling 500 ((moded .tilt .track (differing
      (attempting .engaging false (some (setAt .engage 1 (.window 120000))) none))).setInputs
        { base.inputs with conds := { base.inputs.conds with locked := false } })))).log.records.map (·.event) =
    [.startFull .factory, .lockState .engaged, .combiner .c1 false, .lockState .releasePreload, .combiner .c2 true,
      .combiner .c2 false] := by decide
theorem test_preemption_grants_anew :
    (run [.takeHold 0 (frame .a [1])] (((heldBy .b base).setParams { base.params with
      t1 := { base.params.t1 with enabled := true, time := .ms0,
                                      a := { cond := .holdStands, inverted := false }, b := .always, c := .always } }).setInputs
        { base.inputs with conds := { base.inputs.conds with holdStands := true },
                           t1 := { since := some 0, fired := true } })).log.records.map (·.event) =
    [.startFull .factory, .holdEnd .preempted, .holdBegin .a, .trip .trip1, .holdEnd .safe] := by decide
theorem test_demand_that_passes_ends_the_mark_of_an_uncommanded_closing :
    let s := rolling 500 (moded .tilt .track ((heldBy .b base).setParams { (freed base).params with
      c0 := { a := { cond := .holdStands, inverted := true }, b := .always, c := .always, fn := .aOnly, inverted := false,
              action := .lockHold } }))
    let s := s.setInputs { s.inputs with conds := { s.inputs.conds with holdStands := true } }
    let s := s.setLatchUnit { s.latch with uncommanded := true }
    s.settle.latch.state = .engaged ∧ (run [.takeHold 0 (frame .a [1])] s).latch.state = .releasePreload := by decide
theorem test_credit_together_with_a_hold :
    (run [.wheelEdge 5750 .frontL, .takeHold 0 (frame .a [0])] withholding).path.dryCount = 17 ∧
    (run [.wheelEdge 5750 .frontL, .takeHold 1 (frame .a [0])] withholding).path.dryCount = 0 := by decide
theorem test_write_off_lock_hold_is_heard_before_the_trip_units :
    (demanding.writeParam (.combiner .c0)
      { demanding.params with c0 := { demanding.params.c0 with fn := .never, action := .none } }).log.records.map (·.event) =
    [.startFull .factory, .lockState .releasePreload, .trip .trip1] := by decide
theorem test_idle : (after (step base)).now = 1 ∧ (after (step base)).pending = [] := by decide
theorem test_idle_samples : (after (step (base.setNow 499))).pending = [.axisSample 0 .tilt 0, .axisSample 0 .steer 0] := by decide

/-! ## Witnesses of the statements' premises -/

theorem witness_RequestsTouchOnlyTheirOwnPort :
    (∃ (c : Instr) (f : Frame) (s t : State), c.frame? = some f ∧ exec c s = .next t) :=
  ⟨.status 0 (frame .a []), frame .a [], base, after (exec (.status 0 (frame .a [])) base), by decide, rfl⟩

theorem witness_OccupiedPlaceDiscardsEveryRequest :
    (∃ (c : Instr) (f : Frame) (s : State), c.frame? = some f ∧ c.wf = true ∧ (s.port f.port).place ≠ none) :=
  ⟨.enable 0 (frame .a []), frame .a [], occupied, by decide, by decide, by decide⟩

theorem witness_OtherRequestsWakeAParkedPart :
    (∃ (s : State), s.latch.run = .run) ∧
    (∃ (c : Instr) (f : Frame) (s : State), c.frame? = some f ∧ c.wf = true ∧ (∀ dt, c ≠ .status dt f ∧ c ≠
      .readEvents dt f ∧ c ≠ .getParam dt f ∧ c ≠ .readResult dt f) ∧ (∀ dt k, c ≠ .unknown dt k f) ∧ (∀ dt, c ≠
      .park dt f) ∧ (s.port f.port).place = none ∧ s.latch.run = .parked) :=
  ⟨⟨base, by decide⟩,
    ⟨.enable 0 (frame .a []), frame .a [], base.setLatchUnit { base.latch with run := .parked }, by decide, by decide,
      (by intro dt; simp), (by intro dt k; simp), (by intro dt; simp), by decide, by decide⟩⟩

theorem witness_StepKeepsTheLogAndTheTripSet :
    (∃ (s t : State), step s = .next t ∧ s.LogBounded ∧ s.TripsOnce) :=
  ⟨base, after (step base), rfl, (by unfold State.LogBounded; decide), (by unfold State.TripsOnce; decide)⟩

theorem witness_StepKeepsSpeedsBounded :
    (∃ (s t : State), step s = .next t ∧ s.SpeedsBounded) ∧
    (∃ (s t : State), step s = .next t ∧ s.MedianTaken) :=
  ⟨⟨rolling 2500 base, after (step (rolling 2500 base)), rfl, ⟨fun w => by cases w <;> decide, by decide⟩⟩,
    ⟨rolling 900 base, after (step (rolling 900 base)), rfl, (fun _ => rfl)⟩⟩

theorem witness_StepKeepsThePathShape :
    (∃ (s t : State), s.PathShape ∧ step s = .next t) :=
  ⟨onPath [seg true], after (step (onPath [seg true])), (pathShape_of _ _ (none, 0) rfl (by decide) (.inl rfl) (by
    decide)), rfl⟩

/-- A LOCK_TEST under way has the session's shape. -/
theorem sessionShape_push : (inRoutine (routineAt .tilt .lockTest .pushLeft)).SessionShape := by
  constructor
  · intro x
    cases x
    · exact ⟨fun _ => ⟨routineAt .tilt .lockTest .pushLeft, rfl, rfl⟩, fun _ => rfl⟩
    · exact ⟨fun h => (by cases h), fun ⟨r, h, e⟩ => by cases h; cases e⟩
  · intro x
    constructor
    · intro h; cases x <;> cases h
    · rintro ⟨d, h⟩; cases h
  · intro _ h; cases h
  · intro h; exact absurd rfl h
  · intro h; cases h

theorem witness_StepKeepsTheSessionShape :
    (∃ (s t : State), s.SessionShape ∧ step s = .next t) :=
  ⟨inRoutine (routineAt .tilt .lockTest .pushLeft), after (step (inRoutine (routineAt .tilt .lockTest .pushLeft))),
    sessionShape_push, rfl⟩

theorem witness_StepKeepsTheWorkingSetCoupled :
    (∃ (s t : State), s.TravelBounded ∧ step s = .next t) :=
  ⟨base, after (step base), ⟨valid, by decide⟩, rfl⟩

theorem witness_FullResetStartsThePart :
    (∃ (s : State), s.store.user.passes = true) ∧
    (∃ (s : State), s.store.user.passes = false ∧ s.store.factory.passes = true) ∧
    (∃ (s : State), s.store.user.passes = false ∧ s.store.factory.passes = false) ∧
    (∃ (l : Switches) (closed : Bool) (s : State), (after (exec (.fullReset l closed) s)).params.noInstantTrip) :=
  ⟨⟨State.reset.setStore { State.reset.store with user := { set := .builtin, passes := true } }, by decide⟩,
    ⟨State.reset, by decide, by decide⟩,
    ⟨State.reset.setStore { State.reset.store with factory := { set := .builtin, passes := false } }, by decide, by
      decide⟩,
    ⟨quietSwitches, true, State.reset, quiet⟩⟩

theorem witness_FirstConfirmDebounceGivesTheLatchState :
    (∃ (dt : Nat) (closed : Bool) (x : FirstDebounce) (s : State), s.latch.first = some x ∧ closed = x.level ∧ x.since
      + 5000 ≤ s.now + dt ∧ closed = true ∧ s.fast = false ∧ s.permit = false ∧ s.NotWaiting) ∧
    (∃ (dt : Nat) (closed : Bool) (x : FirstDebounce) (s : State), s.latch.first = some x ∧ closed = x.level ∧ x.since
      + 5000 ≤ s.now + dt ∧ closed = true ∧ s.fast = false ∧ s.permit = false ∧ s.NotWaiting ∧ s.tilt.mode = .track ∧
      s.tilt.drive ≠ 0) ∧
    (∃ (dt : Nat) (closed : Bool) (x : FirstDebounce) (s : State), s.latch.first = some x ∧ closed = x.level ∧ x.since
      + 5000 ≤ s.now + dt ∧ closed = false ∧ s.params.uprightWindow < mag s.tilt.meas ∧ s.NotWaiting) ∧
    (∃ (dt : Nat) (closed : Bool) (x : FirstDebounce) (s : State) (r : Routine), s.latch.first = some x ∧ closed =
      x.level ∧ x.since + 5000 ≤ s.now + dt ∧ s.slot = .routine r ∧ r.held = none ∧ r.phase = .release ∧ closed =
      true ∧ s.latch.set = none) ∧
    (∃ (dt : Nat) (closed : Bool) (x : FirstDebounce) (s : State), s.latch.first = some x ∧ closed = x.level ∧ s.now +
      dt < x.since + 5000) ∧
    (∃ (closed : Bool) (x : FirstDebounce) (s : State), s.latch.first = some x ∧ closed ≠ x.level) :=
  ⟨⟨5000, true, { level := true, since := 0 }, State.reset, rfl, by decide, by decide, by decide, by decide, by
      decide, waitsFree _ rfl⟩,
    ⟨5000, true, { level := true, since := 0 }, slippedEarly, rfl, by decide, by decide, by decide, by decide, by
      decide, waitsFree _ rfl, by decide, by decide⟩,
    ⟨5000, false, { level := false, since := 0 }, (State.reset.setLatchUnit (.reset true false)).setTilt {
      AxisCtl.reset with meas := 151 }, rfl, by decide, by decide, by decide, by decide, waitsFree _ rfl⟩,
    ⟨5000, true, { level := true, since := 0 }, (heldBy .a State.reset).setSlot (.routine (routineAt .tilt .home
      .release)), routineAt .tilt .home .release, rfl, by decide, by decide, rfl, by decide, by decide, by decide,
      by decide⟩,
    ⟨4999, true, { level := true, since := 0 }, State.reset, rfl, by decide, by decide⟩,
    ⟨false, { level := true, since := 0 }, State.reset, rfl, by decide⟩⟩

theorem witness_EdgesMeasureTheWheel :
    (∃ (dt e : Nat) (w : Wheel) (s : State), (s.speed.wheel w).lastEdge = some e ∧ ((s.now + dt - e : Nat) : Int) <
      s.params.glitchMin) ∧
    (∃ (dt : Nat) (w : Wheel) (s : State), (∀ e, (s.speed.wheel w).lastEdge = some e → s.params.glitchMin ≤ ((s.now +
      dt - e : Nat) : Int)) ∧ (s.speed.wheel w).mode ≠ .stalled ∧ (s.speed.wheel w).lastEdge = some 0 ∧
      s.speed.source.isWheel w = true) ∧
    (∃ (dt : Nat) (w : Wheel) (s : State), (∀ e, (s.speed.wheel w).lastEdge = some e → s.params.glitchMin ≤ ((s.now +
      dt - e : Nat) : Int)) ∧ (s.speed.wheel w).mode = .stalled ∧ s.speed.source.isWheel w = false) ∧
    (∃ (dt : Nat) (w : Wheel) (s : State), (∀ e, (s.speed.wheel w).lastEdge = some e → s.params.glitchMin ≤ ((s.now +
      dt - e : Nat) : Int)) ∧ s.latch.run = .parked ∧ s.params.wakeMask.getLsbD 0 = true) ∧
    (∃ (dt : Nat) (w : Wheel) (s : State), (∀ e, (s.speed.wheel w).lastEdge = some e → s.params.glitchMin ≤ ((s.now +
      dt - e : Nat) : Int)) ∧ s.latch.run = .parked ∧ s.params.wakeMask.getLsbD 0 = false) ∧
    (∃ (dt : Nat) (w : Wheel) (s : State), (∀ e, (s.speed.wheel w).lastEdge = some e → s.params.glitchMin ≤ ((s.now +
      dt - e : Nat) : Int)) ∧ (s.latch.run = .run ∨ s.params.wakeMask.getLsbD 0 = false) ∧ (s.speed.source.isWheel
      w = false ∨ s.speed.estimate = .suspect ∨ s.auth.hold = none)) ∧
    (∃ (dt : Nat) (w : Wheel) (s t : State), (∀ e, (s.speed.wheel w).lastEdge = some e → s.params.glitchMin ≤ ((s.now
      + dt - e : Nat) : Int)) ∧ exec (.wheelEdge dt w) s = .next t ∧ s.latch.run = .run ∧ s.params.noInstantTrip ∧
      s.speed.source.isWheel w = true ∧ s.speed.estimate = .good) ∧
    (∃ (dt : Nat) (w : Wheel) (s t : State), (∀ e, (s.speed.wheel w).lastEdge = some e → s.params.glitchMin ≤ ((s.now
      + dt - e : Nat) : Int)) ∧ exec (.wheelEdge dt w) s = .next t ∧ s.latch.run = .run ∧ s.params.noInstantTrip ∧
      s.speed.source.isWheel w = true ∧ s.speed.estimate = .suspect ∧ t.speed.estimate = .suspect) ∧
    (∃ (dt : Nat) (w : Wheel) (s t : State), (∀ e, (s.speed.wheel w).lastEdge = some e → s.params.glitchMin ≤ ((s.now
      + dt - e : Nat) : Int)) ∧ exec (.wheelEdge dt w) s = .next t ∧ s.latch.run = .run ∧ s.params.noInstantTrip ∧
      s.speed.source.isWheel w = true ∧ s.speed.estimate = .suspect ∧ t.speed.estimate = .good) ∧
    (∃ (dt : Nat) (w : Wheel) (s t : State), (∀ e, (s.speed.wheel w).lastEdge = some e → s.params.glitchMin ≤ ((s.now
      + dt - e : Nat) : Int)) ∧ exec (.wheelEdge dt w) s = .next t ∧ s.latch.run = .run ∧ s.params.noInstantTrip ∧
      s.speed.estimate = .suspect ∧ t.speed.estimate = .good ∧ s.auth.hold = none ∧ 0 < s.speed.withheld) ∧
    (∃ (dt : Nat) (w : Wheel) (s t : State), (∀ e, (s.speed.wheel w).lastEdge = some e → s.params.glitchMin ≤ ((s.now
      + dt - e : Nat) : Int)) ∧ exec (.wheelEdge dt w) s = .next t ∧ (t.speed.wheel w).speed ≠ (s.speed.wheel
      w).speed ∧ s.speed.estimate = .good ∧ t.speed.estimate = .suspect) ∧
    (∃ (dt : Nat) (w : Wheel) (s t : State) (r : Routine), (∀ e, (s.speed.wheel w).lastEdge = some e →
      s.params.glitchMin ≤ ((s.now + dt - e : Nat) : Int)) ∧ exec (.wheelEdge dt w) s = .next t ∧ s.latch.run =
      .run ∧ s.params.noInstantTrip ∧ s.slot = .routine r ∧ r.held = none ∧ t.auth = s.auth ∧ (∃ x, 0 <
      (t.speed.wheel x).speed) ∧ s.speed.source.isWheel w = false ∧ s.path.queue = []) ∧
    (∃ (dt : Nat) (w : Wheel) (s t : State) (r : Routine), (∀ e, (s.speed.wheel w).lastEdge = some e →
      s.params.glitchMin ≤ ((s.now + dt - e : Nat) : Int)) ∧ exec (.wheelEdge dt w) s = .next t ∧ s.latch.run =
      .run ∧ s.params.noInstantTrip ∧ s.slot = .routine r ∧ r.held = none ∧ t.auth = s.auth ∧ (∃ x, 0 <
      (t.speed.wheel x).speed) ∧ s.speed.source.isWheel w = true ∧ s.speed.estimate = .suspect ∧ s.path.queue = []
      ∧ (∀ i, (s.params.combiner i).action = .none)) ∧
    (∃ (dt : Nat) (w : Wheel) (s t : State), (∀ e, (s.speed.wheel w).lastEdge = some e → s.params.glitchMin ≤ ((s.now
      + dt - e : Nat) : Int)) ∧ exec (.wheelEdge dt w) s = .next t ∧ s.latch.run = .run ∧ s.params.noInstantTrip ∧
      s.speed.source.isWheel w = false ∧ s.speed.estimate = .suspect ∧ t.speed.estimate = .good ∧ s.auth.hold ≠
      none ∧ 0 < s.speed.withheld) ∧
    (∃ (dt : Nat) (w : Wheel) (s t : State), (∀ e, (s.speed.wheel w).lastEdge = some e → s.params.glitchMin ≤ ((s.now
      + dt - e : Nat) : Int)) ∧ exec (.wheelEdge dt w) s = .next t ∧ s.latch.run = .run ∧ s.params.noInstantTrip ∧
      s.PathShape ∧ t.path.queue = s.path.queue ∧ t.speed.v ≠ s.speed.v ∧ t.AboveCeiling) ∧
    (∃ (dt : Nat) (w : Wheel) (s t : State), (∀ e, (s.speed.wheel w).lastEdge = some e → s.params.glitchMin ≤ ((s.now
      + dt - e : Nat) : Int)) ∧ exec (.wheelEdge dt w) s = .next t ∧ s.latch.run = .run ∧ s.params.noInstantTrip ∧
      s.PathShape ∧ t.path.queue = s.path.queue ∧ t.speed.v = s.speed.v) ∧
    (∃ (dt : Nat) (w : Wheel) (s t : State), (∀ e, (s.speed.wheel w).lastEdge = some e → s.params.glitchMin ≤ ((s.now
      + dt - e : Nat) : Int)) ∧ exec (.wheelEdge dt w) s = .next t ∧ s.latch.run = .run ∧ s.params.noInstantTrip ∧
      s.PathShape ∧ t.path.queue ≠ s.path.queue ∧ t.AboveCeiling) ∧
    (∃ (dt : Nat) (w : Wheel) (s t : State), (∀ e, (s.speed.wheel w).lastEdge = some e → s.params.glitchMin ≤ ((s.now
      + dt - e : Nat) : Int)) ∧ exec (.wheelEdge dt w) s = .next t ∧ s.latch.run = .run ∧ s.params.noInstantTrip ∧
      s.PathShape ∧ t.path.queue ≠ s.path.queue ∧ ¬t.AboveCeiling) :=
  ⟨⟨299, 0, .rear, rolling 900 base, by decide, by decide⟩,
    ⟨300, .rear, rolling 900 base, (fun e h => by cases h; decide), by decide, by decide, by decide⟩,
    ⟨0, .frontR, base, (fun e h => by cases h), by decide, by decide⟩,
    ⟨0, .rear, base.setLatchUnit { base.latch with run := .parked }, (fun e h => by cases h), by decide, by decide⟩,
    ⟨0, .rear, (base.setLatchUnit { base.latch with run := .parked }).setParams { base.params with wakeMask := 2 },
      (fun e h => by cases h), by decide, by decide⟩,
    ⟨300, .rear, rolling 900 base, (fun e h => by cases h; decide), by decide, by decide⟩,
    ⟨5750, .rear, rolling 900 base, after (exec (.wheelEdge 5750 .rear) (rolling 900 base)),
      (fun e h => by cases h; decide), rfl, by decide, quiet, by decide, by decide⟩,
    ⟨5750, .rear, base.setSpeed { base.speed with
      rear := wheelAt 900 5750, frontL := wheelAt 100 5750, frontR := wheelAt 2000 5750, estimate := .suspect },
      after (exec (.wheelEdge 5750 .rear) (base.setSpeed { base.speed with
      rear := wheelAt 900 5750, frontL := wheelAt 100 5750, frontR := wheelAt 2000 5750, estimate := .suspect })),
      (fun e h => by cases h; decide), rfl, by decide, quiet, by decide, by decide, by decide⟩,
    ⟨5750, .rear, (rolling 900 base).setSpeed { (rolling 900 base).speed with estimate := .suspect }, after (exec
      (.wheelEdge 5750 .rear) ((rolling 900 base).setSpeed { (rolling 900 base).speed with
      estimate := .suspect })), (fun e h => by cases h; decide), rfl, by decide, quiet, by decide, by decide, by
      decide⟩,
    ⟨5750, .frontL, withholding, after (exec (.wheelEdge 5750 .frontL) (withholding)),
      (fun e h => by cases h; decide), rfl, by decide, quiet, by decide, by decide, by decide⟩,
    ⟨57500, .frontL, base.setSpeed { base.speed with
      rear := wheelAt 900 5750, frontL := wheelAt 900 5750, frontR := wheelAt 2000 5750 }, after (exec (.wheelEdge
      57500 .frontL) (base.setSpeed { base.speed with
      rear := wheelAt 900 5750, frontL := wheelAt 900 5750, frontR := wheelAt 2000 5750 })),
      (fun e h => by cases h; decide), rfl, by decide, by decide, by decide⟩,
    ⟨30000, .frontR, (inRoutine (routineAt .steer .home .sweepLeft)).setSpeed { base.speed with
      frontR := { WheelRec.reset with mode := .armed, lastEdge := some 0 } }, after (exec (.wheelEdge 30000
      .frontR) ((inRoutine (routineAt .steer .home .sweepLeft)).setSpeed { base.speed with
      frontR := { WheelRec.reset with mode := .armed, lastEdge := some 0 } })), routineAt .steer .home .sweepLeft,
      (fun e h => by cases h; decide), rfl, by decide, quiet, rfl, by decide, by decide, ⟨.frontR, by decide⟩, by
      decide, by decide⟩,
    ⟨30000, .rear, (freed (inRoutine (routineAt .steer .home .sweepLeft))).setSpeed { base.speed with
      rear := { WheelRec.reset with mode := .armed, lastEdge := some 0 }, estimate := .suspect, frontL := wheelAt 900 5750, frontR := wheelAt 2000 5750 },
      after (exec (.wheelEdge 30000 .rear) ((freed (inRoutine (routineAt .steer .home .sweepLeft))).setSpeed {
      base.speed with
      rear := { WheelRec.reset with mode := .armed, lastEdge := some 0 }, estimate := .suspect, frontL := wheelAt 900 5750, frontR := wheelAt 2000 5750 })),
      routineAt .steer .home .sweepLeft, (fun e h => by cases h; decide), rfl, by decide, quiet, rfl, by decide,
      by decide, ⟨.rear, by decide⟩, by decide, by decide, by decide, (fun i => by cases i <;> decide)⟩,
    ⟨5750, .frontL, withheld, after (exec (.wheelEdge 5750 .frontL) (withheld)), (fun e h => by cases h; decide), rfl,
      by decide, quiet, by decide, by decide, by decide, by decide, by decide⟩,
    ⟨5750, .frontR, underCeiling 1000 900 500 900 none, after (exec (.wheelEdge 5750 .frontR) (underCeiling 1000 900
      500 900 none)), (fun e h => by cases h; decide), rfl, by decide, quiet, (pathShape_of _ _ (_, _) rfl (by
      decide) (.inl rfl) (by decide)), by decide, by decide, ⟨seg true, [], 300, rfl, rfl, by decide⟩⟩,
    ⟨5750, .rear, underCeiling 1000 900 500 900 none, after (exec (.wheelEdge 5750 .rear) (underCeiling 1000 900 500
      900 none)), (fun e h => by cases h; decide), rfl, by decide, quiet, (pathShape_of _ _ (_, _) rfl (by decide)
      (.inl rfl) (by decide)), by decide, by decide⟩,
    ⟨5750, .rear, nearEnd 900, after (exec (.wheelEdge 5750 .rear) (nearEnd 900)), (fun e h => by cases h; decide),
      rfl, by decide, quiet, (pathShape_of _ _ (_, _) rfl (by decide) (.inr rfl) (by decide)), by decide, ⟨seg
      false, [], 300, rfl, rfl, by decide⟩⟩,
    ⟨5750, .rear, lastEnd 900, after (exec (.wheelEdge 5750 .rear) (lastEnd 900)), (fun e h => by cases h; decide),
      rfl, by decide, quiet, (pathShape_of _ _ (_, _) rfl (by decide) (.inl rfl) (by decide)), by decide,
      (by rintro ⟨_, _, _, h, _⟩; cases h)⟩⟩

theorem witness_WheelsDecayAndStall :
    (∃ (dt e T : Nat) (w : Wheel) (s : State), (s.now + dt) % 1000 = 0 ∧ (s.speed.wheel w).lastEdge = some e ∧
      (s.speed.wheel w).mode = .running ∧ (s.speed.wheel w).period = some T ∧ T < s.now + dt - e ∧ s.now + dt - e
      ≤ s.params.stallTime.toNat * 1000) ∧
    (∃ (dt e : Nat) (w : Wheel) (s : State), (s.now + dt) % 1000 = 0 ∧ (s.speed.wheel w).lastEdge = some e ∧
      (s.speed.wheel w).mode ≠ .stalled ∧ s.params.stallTime.toNat * 1000 < s.now + dt - e ∧ (s.speed.wheel
      w).speed ≠ 0) ∧
    (∃ (dt e : Nat) (w : Wheel) (s t : State), (s.now + dt) % 1000 = 0 ∧ (s.speed.wheel w).lastEdge = some e ∧
      (s.speed.wheel w).mode = .running ∧ (s.speed.wheel w).period = some 5750 ∧ 5750 < s.now + dt - e ∧ s.now +
      dt - e ≤ s.params.stallTime.toNat * 1000 ∧ (t.speed.wheel w).speed ≠ (s.speed.wheel w).speed ∧ exec
      (.decayStep dt w) s = .next t ∧ s.params.noInstantTrip ∧ s.speed.estimate = .suspect ∧ t.speed.estimate =
      .good) ∧
    (∃ (dt e : Nat) (w : Wheel) (s t : State), (s.now + dt) % 1000 = 0 ∧ (s.speed.wheel w).lastEdge = some e ∧
      (s.speed.wheel w).mode = .running ∧ (s.speed.wheel w).period = some 5750 ∧ 5750 < s.now + dt - e ∧ s.now +
      dt - e ≤ s.params.stallTime.toNat * 1000 ∧ (t.speed.wheel w).speed ≠ (s.speed.wheel w).speed ∧ exec
      (.decayStep dt w) s = .next t ∧ s.params.noInstantTrip ∧ s.speed.estimate = .suspect ∧ t.speed.estimate =
      .good ∧ s.auth.hold = none ∧ 0 < s.speed.withheld) ∧
    (∃ (dt e : Nat) (w : Wheel) (s t : State), (s.now + dt) % 1000 = 0 ∧ (s.speed.wheel w).lastEdge = some e ∧
      (s.speed.wheel w).mode = .running ∧ (s.speed.wheel w).period = some 5750 ∧ 5750 < s.now + dt - e ∧ s.now +
      dt - e ≤ s.params.stallTime.toNat * 1000 ∧ (t.speed.wheel w).speed ≠ (s.speed.wheel w).speed ∧ exec
      (.decayStep dt w) s = .next t ∧ s.params.noInstantTrip ∧ (s.speed.estimate = .good ∨ t.speed.estimate =
      .suspect)) ∧
    (∃ (dt e : Nat) (w : Wheel) (s t : State), (s.now + dt) % 1000 = 0 ∧ (s.speed.wheel w).lastEdge = some e ∧
      (s.speed.wheel w).mode ≠ .stalled ∧ s.params.stallTime.toNat * 1000 < s.now + dt - e ∧ exec (.stallExpiry dt
      w) s = .next t ∧ s.params.noInstantTrip ∧ s.speed.estimate = .suspect ∧ t.speed.estimate = .good) ∧
    (∃ (dt e : Nat) (w : Wheel) (s t : State), (s.now + dt) % 1000 = 0 ∧ (s.speed.wheel w).lastEdge = some e ∧
      (s.speed.wheel w).mode ≠ .stalled ∧ s.params.stallTime.toNat * 1000 < s.now + dt - e ∧ exec (.stallExpiry dt
      w) s = .next t ∧ s.params.noInstantTrip ∧ s.speed.estimate = .suspect ∧ t.speed.estimate = .good ∧
      s.auth.hold = none ∧ 0 < s.speed.withheld) ∧
    (∃ (dt e : Nat) (w : Wheel) (s t : State), (s.now + dt) % 1000 = 0 ∧ (s.speed.wheel w).lastEdge = some e ∧
      (s.speed.wheel w).mode ≠ .stalled ∧ s.params.stallTime.toNat * 1000 < s.now + dt - e ∧ exec (.stallExpiry dt
      w) s = .next t ∧ s.params.noInstantTrip ∧ (s.speed.estimate = .good ∨ t.speed.estimate = .suspect)) ∧
    (∃ (dt e : Nat) (w : Wheel) (s t : State), (s.now + dt) % 1000 = 0 ∧ (s.speed.wheel w).lastEdge = some e ∧
      (s.speed.wheel w).mode = .running ∧ (s.speed.wheel w).period = some 5750 ∧ 5750 < s.now + dt - e ∧ s.now +
      dt - e ≤ s.params.stallTime.toNat * 1000 ∧ exec (.decayStep dt w) s = .next t ∧ s.params.noInstantTrip ∧
      s.PathShape ∧ t.path.queue = s.path.queue ∧ t.speed.v ≠ s.speed.v ∧ t.AboveCeiling) ∧
    (∃ (dt e : Nat) (w : Wheel) (s t : State), (s.now + dt) % 1000 = 0 ∧ (s.speed.wheel w).lastEdge = some e ∧
      (s.speed.wheel w).mode = .running ∧ (s.speed.wheel w).period = some 5750 ∧ 5750 < s.now + dt - e ∧ s.now +
      dt - e ≤ s.params.stallTime.toNat * 1000 ∧ exec (.decayStep dt w) s = .next t ∧ s.params.noInstantTrip ∧
      s.PathShape ∧ s.path.ceilingSince ≠ none ∧ t.speed.v ≠ s.speed.v ∧ ¬t.AboveCeiling) :=
  ⟨⟨250000, 0, 5750, .frontL, rolling 900 base, by decide, by decide, by decide, by decide, by decide, by decide⟩,
    ⟨251000, 0, .rear, rolling 900 base, by decide, by decide, by decide, by decide, by decide⟩,
    ⟨250000, 0, .frontL, (rolling 900 base).setSpeed { (rolling 900 base).speed with estimate := .suspect }, after
      (exec (.decayStep 250000 .frontL) ((rolling 900 base).setSpeed { (rolling 900 base).speed with
      estimate := .suspect })), by decide, by decide, by decide, by decide, by decide, by decide, by decide, rfl,
      quiet, by decide⟩,
    ⟨250000, 0, .frontL, withholding, after (exec (.decayStep 250000 .frontL) (withholding)), by decide, by decide, by
      decide, by decide, by decide, by decide, by decide, rfl, quiet, by decide, by decide⟩,
    ⟨250000, 0, .frontL, rolling 900 base, after (exec (.decayStep 250000 .frontL) (rolling 900 base)), by decide, by
      decide, by decide, by decide, by decide, by decide, by decide, rfl, quiet, by decide⟩,
    ⟨251000, 0, .frontL, (rolling 900 base).setSpeed { (rolling 900 base).speed with estimate := .suspect }, after
      (exec (.stallExpiry 251000 .frontL) ((rolling 900 base).setSpeed { (rolling 900 base).speed with
      estimate := .suspect })), by decide, by decide, by decide, by decide, rfl, quiet, by decide⟩,
    ⟨251000, 0, .frontL, withholding, after (exec (.stallExpiry 251000 .frontL) (withholding)), by decide, by decide,
      by decide, by decide, rfl, quiet, by decide, by decide⟩,
    ⟨251000, 0, .frontL, rolling 900 base, after (exec (.stallExpiry 251000 .frontL) (rolling 900 base)), by decide,
      by decide, by decide, by decide, rfl, quiet, by decide⟩,
    ⟨250000, 0, .frontL, underCeiling 900 1000 920 920 (some 0), after (exec (.decayStep 250000 .frontL) (underCeiling
      900 1000 920 920 (some 0))), by decide, by decide, by decide, by decide, by decide, by decide, rfl, quiet,
      (pathShape_of _ _ (_, _) rfl (by decide) (.inl rfl) (by decide)), by decide, by decide, ⟨seg true, [], 300,
      rfl, rfl, by decide⟩⟩,
    ⟨250000, 0, .frontL, underCeiling 20 900 1000 900 (some 0), after (exec (.decayStep 250000 .frontL) (underCeiling
      20 900 1000 900 (some 0))), by decide, by decide, by decide, by decide, by decide, by decide, rfl, quiet,
      (pathShape_of _ _ (_, _) rfl (by decide) (.inl rfl) (by decide)), by decide, by decide,
      (by rintro ⟨_, _, _, h, k, l⟩; cases h; cases k; revert l; decide)⟩⟩

theorem witness_CurvatureCeiling :
    (∃ (A v : Nat), 0 < v ∧ v ≤ 2500 ∧ A ≤ 9000) :=
  ⟨9000, 2500, by decide, by decide, by decide⟩

theorem witness_LateralAccelerationStaysUnderTheCeiling :
    (∃ (s : State), s.params.Valid ∧ 0 < s.speed.v ∧ s.gated = false) ∧
    (∃ (s : State), s.params.Valid ∧ s.speed.v = 0) :=
  ⟨⟨rolling 2500 (latched .released false base), valid, by decide, by decide⟩,
    ⟨base, valid, by decide⟩⟩

theorem witness_LeanMagnitudeInterpolatesTheTable :
    (∃ (p : Params) (a : Nat), p.Valid ∧ 8 ≤ a / 1250) ∧
    (∃ (p : Params) (a b : Nat), p.Valid ∧ a / 1250 < 8 ∧ a ≤ b) :=
  ⟨⟨.loadedBuiltin, 10000, valid, by decide⟩,
    ⟨.loadedBuiltin, 9999, 10000, valid, by decide, by decide⟩⟩

theorem witness_SetpointsStepAtTheirRates :
    (∃ (x t r : Int), 0 ≤ r ∧ |t - x| ≤ r) ∧
    (∃ (x t r : Int), 0 ≤ r ∧ r < |t - x| ∧ x < t) ∧
    (∃ (x t r : Int), 0 ≤ r ∧ r < |t - x| ∧ t < x) ∧
    (∃ (s : State), (s.latch.state = .released ∨ s.latch.state = .engaging ∨ s.latch.state = .unlatchedFault) ∧
      s.steer.mode ≠ .off) :=
  ⟨⟨0, 60, 60, by decide, by decide⟩,
    ⟨0, 61, 60, by decide, by decide, by decide⟩,
    ⟨61, 0, 60, by decide, by decide, by decide⟩,
    ⟨latched .released false (moded .steer .track base), by decide, by decide⟩⟩

theorem witness_SolvePeriodComputesTheTargets :
    (∃ (s : State), s.auth.hold = none) ∧
    (∃ (s : State) (k : Int), s.auth.hold ≠ none ∧ s.path.queue = [] ∧ s.path.held = some k) ∧
    (∃ (s : State) (g : Segment) (rest : List Segment), s.auth.hold ≠ none ∧ s.path.queue = g :: rest) ∧
    (∃ (n d : Int), 0 < d ∧ 2 * |roundDiv n d * d - n| = d) ∧
    (∃ (dt : Nat) (s : State), (s.latch.run = .parked ∨ s.now + dt < s.solve.periodDue)) ∧
    (∃ (dt : Nat) (s : State), s.latch.run = .run ∧ s.solve.periodDue ≤ s.now + dt ∧ s.params.Valid) ∧
    (∃ (dt : Nat) (s : State), s.latch.run = .run ∧ s.solve.periodDue ≤ s.now + dt ∧ s.params.Valid ∧ (¬(s.latch.state
      ≠ .released ∨ s.slow = true ∨ s.grade = .lockdown))) :=
  ⟨⟨base, by decide⟩,
    ⟨heldBy .a base, 0, by decide, by decide, by decide⟩,
    ⟨onPath [seg true], seg true, [], by decide, rfl⟩,
    ⟨5, 2, by decide, by decide⟩,
    ⟨1999, base, by decide⟩,
    ⟨2000, base, by decide, by decide, valid⟩,
    ⟨2000, rolling 500 (latched .released false base), by decide, by decide, valid, by decide⟩⟩

theorem witness_SolvePeriodMovesTheSetpoints :
    (∃ (dt : Nat) (s : State), s.latch.run = .run ∧ s.solve.periodDue ≤ s.now + dt ∧ s.params.Valid ∧
      s.params.noInstantTrip ∧ s.NotWaiting ∧ s.steer.mode = .off ∧ (s.latch.state = .engaged ∨ s.latch.state =
      .jammed)) ∧
    (∃ (dt : Nat) (s : State), s.latch.run = .run ∧ s.solve.periodDue ≤ s.now + dt ∧ s.params.Valid ∧
      s.params.noInstantTrip ∧ s.NotWaiting ∧ s.steer.mode ≠ .off ∧ (s.latch.state = .released ∨ s.latch.state =
      .engaging ∨ s.latch.state = .unlatchedFault)) ∧
    (∃ (dt : Nat) (s : State), s.latch.run = .run ∧ s.solve.periodDue ≤ s.now + dt ∧ s.params.Valid ∧
      s.params.noInstantTrip ∧ s.NotWaiting ∧ s.latch.state = .releasing) ∧
    (∃ (dt : Nat) (s : State), s.latch.run = .run ∧ s.solve.periodDue ≤ s.now + dt ∧ s.params.Valid ∧
      s.params.noInstantTrip ∧ s.NotWaiting ∧ s.latch.state = .releasePreload) ∧
    (∃ (dt : Nat) (s : State), s.latch.run = .run ∧ s.solve.periodDue ≤ s.now + dt ∧ s.params.Valid ∧
      s.params.noInstantTrip ∧ s.NotWaiting ∧ s.latch.state = .releasePreload ∧ s.preloadOff = false ∧
      s.DemandSteady) ∧
    (∃ (dt : Nat) (s : State), s.latch.run = .run ∧ s.solve.periodDue ≤ s.now + dt ∧ s.params.Valid ∧
      s.params.noInstantTrip ∧ s.NotWaiting ∧ s.latch.state = .releasePreload ∧ s.preloadOff = false ∧
      s.DemandSteady ∧ (∃ i, (s.params.combiner i).action = .lockHold)) :=
  ⟨⟨2000, base, by decide, by decide, valid, quiet, waitsFree _ rfl, by decide, by decide⟩,
    ⟨2000, moded .steer .track (latched .released false base), by decide, by decide, valid, quiet, waitsFree _ rfl, by
      decide, by decide⟩,
    ⟨2000, latched .releasing true base, by decide, by decide, valid, quiet, waitsFree _ rfl, by decide⟩,
    ⟨2000, latched .releasePreload true base, by decide, by decide, valid, quiet, waitsFree _ rfl, by decide⟩,
    ⟨2000, moded .tilt .track (rolling 500 (latched .releasePreload true (freed base))), by decide, by decide,
      validFreed, quiet, waitsFree _ rfl, by decide, by decide, (State.LatchAlone.combiners (alone _ rfl rfl))⟩,
    ⟨2000, (latched .releasePreload true ridden).handOn, by decide, by decide, valid, quiet, waitsFree _ rfl, by
      decide, by decide, (State.LatchAlone.combiners (aloneAtRest _ rfl rfl rfl
      (fun i => by cases i <;> decide))), ⟨.c0, rfl⟩⟩⟩

theorem witness_SegmentBytesReadAsLaidOut :
    (∃ (n : Nat) (k0 : Int) (k1 : Option Int) (c : Option Nat) (trim : Option Int), 10 ≤ n ∧ n < 65536 ∧ -32768 ≤ k0 ∧
      k0 < 32768 ∧ (∀ k ∈ k1, -32768 ≤ k ∧ k < 32768) ∧ (∀ x ∈ c, x ≤ 2500) ∧ (∀ x ∈ trim, -32768 ≤ x ∧ x <
      32768)) ∧
    (∃ (n : Nat) (k0 : Int) (k1 : Option Int) (c : Option Nat) (trim : Option Int), 10 ≤ n ∧ n < 65536 ∧ -32768 ≤ k0 ∧
      k0 < 32768 ∧ (∀ k ∈ k1, -32768 ≤ k ∧ k < 32768) ∧ (∀ x ∈ c, x ≤ 2500) ∧ (∀ x ∈ trim, -32768 ≤ x ∧ x <
      32768)) ∧
    (∃ (n : Nat) (k0 : Int) (k1 : Option Int) (c : Option Nat) (trim : Option Int), 10 ≤ n ∧ n < 65536 ∧ -32768 ≤ k0 ∧
      k0 < 32768 ∧ (∀ k ∈ k1, -32768 ≤ k ∧ k < 32768) ∧ (∀ x ∈ c, x ≤ 2500) ∧ (∀ x ∈ trim, -32768 ≤ x ∧ x <
      32768)) ∧
    (∃ (bytes : List Byte), bytes.length < 6) ∧
    (∃ (options : Byte), 16 ≤ options.toNat) ∧
    (∃ (l0 l1 : Byte), l0.toNat + 256 * l1.toNat < 10) ∧
    (∃ (options : Byte) (rest : List Byte), rest.length < 2 * ((options.getLsbD 0).toNat + (options.getLsbD 1).toNat +
      (options.getLsbD 2).toNat)) ∧
    (∃ (options lo hi : Byte) (rest more : List Byte), options.getLsbD 1 = true ∧ rest.drop (2 * (options.getLsbD
      0).toNat) = lo :: hi :: more ∧ 2500 < lo.toNat + 256 * hi.toNat) ∧
    (∃ (bytes : List Byte) (segs : List ReadSegment), readSegments bytes = some segs ∧ segs.length = 2) :=
  ⟨⟨10, -32768, some 32767, some 2500, some (-301), by decide, by decide, by decide, by decide, by decide, by decide,
      by decide⟩,
    ⟨65535, 32767, none, some 0, none, by decide, by decide, by decide, by decide, by decide, by decide, by decide⟩,
    ⟨65535, 0, none, none, some 300, by decide, by decide, by decide, by decide, by decide, by decide, by decide⟩,
    ⟨[0, 1, 10, 0, 0], by decide⟩,
    ⟨16, by decide⟩,
    ⟨9, 0, by decide⟩,
    ⟨7, [0, 0, 0, 0, 0], by decide⟩,
    ⟨3, 0xC5, 9, [0, 0, 0xC5, 9], [], by decide, by decide, by decide⟩,
    ⟨[0, 1, 10, 0, 0, 0, 0, 2, 10, 0, 0, 0], (readSegments [0, 1, 10, 0, 0, 0, 0, 2, 10, 0, 0, 0]).getD [], by decide,
      by decide⟩⟩

theorem witness_LoadPathFirstOpensABatch :
    (∃ (p : Port) (bytes : List Byte) (segs : List ReadSegment) (s : State), bytes.length ≤ 37 ∧ Ready s p ∧ s.holds p
      = true ∧ s.axisBusy = false ∧ readSegments bytes = some segs) :=
  ⟨.a, [0, 1, 10, 0, 0xF5, 0x01], (readSegments [0, 1, 10, 0, 0xF5, 0x01]).getD [], heldBy .a base, by decide, ⟨rfl,
    rfl⟩, by decide, by decide, by decide⟩

theorem witness_LoadPathMiddleAddsToTheBatch :
    (∃ (p : Port) (bytes : List Byte) (segs : List ReadSegment) (s : State), bytes.length ≤ 37 ∧ Ready s p ∧ s.holds p
      = true ∧ s.axisBusy = false ∧ readSegments bytes = some segs ∧ s.path.batchOpen = false) ∧
    (∃ (p : Port) (bytes : List Byte) (segs : List ReadSegment) (s : State), bytes.length ≤ 37 ∧ Ready s p ∧ s.holds p
      = true ∧ s.axisBusy = false ∧ readSegments bytes = some segs ∧ s.path.batchOpen = true ∧
      s.path.staging.length + segs.length ≤ 8) ∧
    (∃ (p : Port) (bytes : List Byte) (segs : List ReadSegment) (s : State), bytes.length ≤ 37 ∧ Ready s p ∧ s.holds p
      = true ∧ s.axisBusy = false ∧ readSegments bytes = some segs ∧ s.path.batchOpen = true ∧ 8 <
      s.path.staging.length + segs.length) :=
  ⟨⟨.a, [0, 1, 10, 0, 0xF5, 0x01], (readSegments [0, 1, 10, 0, 0xF5, 0x01]).getD [], heldBy .a base, by decide, ⟨rfl,
      rfl⟩, by decide, by decide, by decide, by decide⟩,
    ⟨.a, [0, 1, 10, 0, 0xF5, 0x01], (readSegments [0, 1, 10, 0, 0xF5, 0x01]).getD [], (heldBy .a base).setPath {
      PathUnit.empty with held := some 0, batchOpen := true, staging := List.replicate 7 (seg false) }, by decide,
      ⟨rfl, rfl⟩, by decide, by decide, by decide, by decide, by decide⟩,
    ⟨.a, [0, 1, 10, 0, 0xF5, 0x01], (readSegments [0, 1, 10, 0, 0xF5, 0x01]).getD [], (heldBy .a base).setPath {
      PathUnit.empty with held := some 0, batchOpen := true, staging := List.replicate 8 (seg false) }, by decide,
      ⟨rfl, rfl⟩, by decide, by decide, by decide, by decide, by decide⟩⟩

theorem witness_LoadPathCommitsAWholeBatch :
    (∃ (dt : Nat) (f : Frame) (s : State) (c : Instr), (c = .loadPathFirst dt f ∨ c = .loadPathMiddle dt f ∨ c =
      .loadPathLast dt f ∨ c = .loadPathOnly dt f) ∧ f.payload.length ≤ 37 ∧ Ready s f.port ∧ s.holds f.port =
      true ∧ s.axisBusy = false ∧ readSegments f.payload = none ∧ s.path.batchOpen = true) ∧
    (∃ (dt : Nat) (f : Frame) (s : State) (c : Instr), (c = .loadPathFirst dt f ∨ c = .loadPathMiddle dt f ∨ c =
      .loadPathLast dt f ∨ c = .loadPathOnly dt f) ∧ f.payload.length ≤ 37 ∧ Ready s f.port ∧ s.holds f.port =
      true ∧ s.axisBusy = false ∧ readSegments f.payload = none ∧ s.path.batchOpen = true) ∧
    (∃ (dt : Nat) (f : Frame) (s : State) (c : Instr), (c = .loadPathFirst dt f ∨ c = .loadPathMiddle dt f ∨ c =
      .loadPathLast dt f ∨ c = .loadPathOnly dt f) ∧ f.payload.length ≤ 37 ∧ Ready s f.port ∧ s.holds f.port =
      true ∧ s.axisBusy = false ∧ readSegments f.payload = none ∧ s.path.batchOpen = true) ∧
    (∃ (dt : Nat) (f : Frame) (s : State) (c : Instr), (c = .loadPathFirst dt f ∨ c = .loadPathMiddle dt f ∨ c =
      .loadPathLast dt f ∨ c = .loadPathOnly dt f) ∧ f.payload.length ≤ 37 ∧ Ready s f.port ∧ s.holds f.port =
      true ∧ s.axisBusy = false ∧ readSegments f.payload = none ∧ s.path.batchOpen = true) ∧
    (∃ (dt : Nat) (p : Port) (ref : Byte) (bytes : List Byte) (x : Character) (s : State), Ready s p ∧ s.holds p =
      true ∧ s.axisBusy = false ∧ (s.port p).rx = .check ∧ s.now + dt ≤ (s.port p).lastEnd + 2044 ∧ x.good = true
      ∧ x.data = crc8 ((s.port p).need :: (s.port p).body) ∧ (s.port p).body = 0x22 :: ref :: bytes ∧ (bytes = []
      ∨ (∃ b more, bytes = b :: more ∧ 4 ≤ b.toNat))) ∧
    (∃ (dt : Nat) (p : Port) (ref : Byte) (bytes : List Byte) (x : Character) (s : State), Ready s p ∧ s.holds p =
      true ∧ s.axisBusy = false ∧ (s.port p).rx = .check ∧ s.now + dt ≤ (s.port p).lastEnd + 2044 ∧ x.good = true
      ∧ x.data = crc8 ((s.port p).need :: (s.port p).body) ∧ (s.port p).body = 0x22 :: ref :: bytes ∧ (bytes = []
      ∨ (∃ b more, bytes = b :: more ∧ 4 ≤ b.toNat))) ∧
    (∃ (p : Port) (bytes : List Byte) (segs : List ReadSegment) (s : State), bytes.length ≤ 37 ∧ Ready s p ∧ s.holds p
      = true ∧ s.axisBusy = false ∧ readSegments bytes = some segs ∧ s.path.queue.length + segs.length ≤ 16) ∧
    (∃ (p : Port) (bytes : List Byte) (segs : List ReadSegment) (s : State), bytes.length ≤ 37 ∧ Ready s p ∧ s.holds p
      = true ∧ s.axisBusy = false ∧ readSegments bytes = some segs ∧ 16 < s.path.queue.length + segs.length ∧
      s.path.queue.length ≤ 16) ∧
    (∃ (p : Port) (bytes : List Byte) (segs : List ReadSegment) (s : State), bytes.length ≤ 37 ∧ Ready s p ∧ s.holds p
      = true ∧ s.axisBusy = false ∧ readSegments bytes = some segs ∧ s.path.batchOpen = true ∧
      s.path.staging.length + segs.length ≤ 8 ∧ s.path.queue.length + (s.path.staging.length + segs.length) ≤ 16) ∧
    (∃ (p : Port) (bytes : List Byte) (segs : List ReadSegment) (s : State), bytes.length ≤ 37 ∧ Ready s p ∧ s.holds p
      = true ∧ s.axisBusy = false ∧ readSegments bytes = some segs ∧ s.path.batchOpen = false) ∧
    (∃ (p : Port) (bytes : List Byte) (segs : List ReadSegment) (s : State), bytes.length ≤ 37 ∧ Ready s p ∧ s.holds p
      = true ∧ s.axisBusy = false ∧ readSegments bytes = some segs ∧ s.path.batchOpen = true ∧
      s.path.staging.length + segs.length ≤ 8 ∧ 16 < s.path.queue.length + (s.path.staging.length + segs.length) ∧
      s.path.queue.length ≤ 16) ∧
    (∃ (p : Port) (bytes : List Byte) (segs : List ReadSegment) (s : State), bytes.length ≤ 37 ∧ Ready s p ∧ s.holds p
      = true ∧ s.axisBusy = false ∧ readSegments bytes = some segs ∧ s.path.batchOpen = true ∧ 8 <
      s.path.staging.length + segs.length) :=
  ⟨⟨0, frame .a [0], opened, .loadPathFirst 0 (frame .a [0]), (.inl rfl), by decide, ⟨rfl, rfl⟩, by decide, by
      decide, by decide, by decide⟩,
    ⟨0, frame .a [16, 1, 10, 0, 0, 0], opened, .loadPathMiddle 0 (frame .a [16, 1, 10, 0, 0, 0]), (.inr (.inl rfl)),
      by decide, ⟨rfl, rfl⟩, by decide, by decide, by decide, by decide⟩,
    ⟨0, frame .a (List.replicate 5 [0, 1, 10, 0, 0, 0]).flatten, opened, .loadPathLast 0 (frame .a (List.replicate 5
      [0, 1, 10, 0, 0, 0]).flatten), (.inr (.inr (.inl rfl))), by decide, ⟨rfl, rfl⟩, by decide, by decide, by
      decide, by decide⟩,
    ⟨0, frame .a [0, 1, 9, 0, 0, 0], opened, .loadPathOnly 0 (frame .a [0, 1, 9, 0, 0, 0]), (.inr (.inr (.inr rfl))),
      by decide, ⟨rfl, rfl⟩, by decide, by decide, by decide, by decide⟩,
    ⟨0, .a, 7, [], .of (crc8 (2 :: 0x22 :: 7 :: [])), opened.setPortA { PortRec.reset with
      rx := .check, need := 2, body := 0x22 :: 7 :: [] }, ⟨rfl, rfl⟩, by decide, by decide, by decide, by decide,
      by decide, by decide, by decide, (.inl rfl)⟩,
    ⟨0, .a, 7, [4], .of (crc8 (3 :: 0x22 :: 7 :: [4])), opened.setPortA { PortRec.reset with
      rx := .check, need := 3, body := 0x22 :: 7 :: [4] }, ⟨rfl, rfl⟩, by decide, by decide, by decide, by decide,
      by decide, by decide, by decide, (.inr ⟨4, [], rfl, by decide⟩)⟩,
    ⟨.a, [0, 1, 10, 0, 0xF5, 0x01], (readSegments [0, 1, 10, 0, 0xF5, 0x01]).getD [], onPath (List.replicate 15 (seg
      false)), by decide, ⟨rfl, rfl⟩, by decide, by decide, by decide, by decide⟩,
    ⟨.a, [0, 1, 10, 0, 0xF5, 0x01], (readSegments [0, 1, 10, 0, 0xF5, 0x01]).getD [], onPath (List.replicate 16 (seg
      false)), by decide, ⟨rfl, rfl⟩, by decide, by decide, by decide, by decide, by decide⟩,
    ⟨.a, [0, 1, 10, 0, 0xF5, 0x01], (readSegments [0, 1, 10, 0, 0xF5, 0x01]).getD [], (heldBy .a base).setPath {
      PathUnit.empty with held := some 0, batchOpen := true, staging := List.replicate 7 (seg false) }, by decide,
      ⟨rfl, rfl⟩, by decide, by decide, by decide, by decide, by decide, by decide⟩,
    ⟨.a, [0, 1, 10, 0, 0xF5, 0x01], (readSegments [0, 1, 10, 0, 0xF5, 0x01]).getD [], heldBy .a base, by decide, ⟨rfl,
      rfl⟩, by decide, by decide, by decide, by decide⟩,
    ⟨.a, [0, 1, 10, 0, 0xF5, 0x01], (readSegments [0, 1, 10, 0, 0xF5, 0x01]).getD [], (onPath (List.replicate 9 (seg
      false))).setPath { PathUnit.empty with
      queue := List.replicate 9 (seg false), batchOpen := true, staging := List.replicate 7 (seg false) }, by
      decide, ⟨rfl, rfl⟩, by decide, by decide, by decide, by decide, by decide, by decide, by decide⟩,
    ⟨.a, [0, 1, 10, 0, 0xF5, 0x01], (readSegments [0, 1, 10, 0, 0xF5, 0x01]).getD [], (heldBy .a base).setPath {
      PathUnit.empty with held := some 0, batchOpen := true, staging := List.replicate 8 (seg false) }, by decide,
      ⟨rfl, rfl⟩, by decide, by decide, by decide, by decide, by decide⟩⟩

theorem witness_FlushPathEmptiesTheQueue :
    (∃ (p : Port) (s : State), Ready s p ∧ s.holds p = true ∧ s.path.queue = []) ∧
    (∃ (p : Port) (s : State), Ready s p ∧ s.holds p = true ∧ s.path.queue ≠ []) :=
  ⟨⟨.a, heldBy .a base, ⟨rfl, rfl⟩, by decide, by decide⟩,
    ⟨.a, onPath [seg true], ⟨rfl, rfl⟩, by decide, by decide⟩⟩

theorem witness_CreditConsumesTheQueue :
    (∃ (n : Nat) (s : State), s.auth.hold ≠ none ∧ s.path.queue = [] ∧ 0 < n ∧ ((s.path.dryCount + n : Nat) : Int) <
      s.params.dryDistance) ∧
    (∃ (n : Nat) (s : State), s.auth.hold ≠ none ∧ s.path.queue = [] ∧ 0 < n ∧ s.params.dryDistance ≤
      ((s.path.dryCount + n : Nat) : Int)) ∧
    (∃ (n : Nat) (s : State) (g : Segment) (rest : List Segment) (h : Segment), s.auth.hold ≠ none ∧ s.path.queue = g
      :: rest ∧ 0 < n ∧ rest = [h] ∧ g.length - s.path.pos ≤ n ∧ 0 < h.length ∧ h.length ≤ n - (g.length -
      s.path.pos)) ∧
    (∃ (n : Nat) (s : State) (g : Segment) (rest : List Segment), s.auth.hold ≠ none ∧ s.path.queue = g :: rest ∧ 0 <
      n ∧ rest = [] ∧ g.length - s.path.pos ≤ n ∧ g.endRelease = false ∧ s.params.dryDistance ≤ ((n - (g.length -
      s.path.pos) : Nat) : Int)) ∧
    (∃ (n : Nat) (s : State) (g : Segment) (rest : List Segment), s.auth.hold ≠ none ∧ s.path.queue = g :: rest ∧ 0 <
      n ∧ n < g.length - s.path.pos) ∧
    (∃ (n : Nat) (s : State) (g : Segment) (rest : List Segment) (h : Segment), s.auth.hold ≠ none ∧ s.path.queue = g
      :: rest ∧ 0 < n ∧ rest = [h] ∧ g.length - s.path.pos ≤ n ∧ n - (g.length - s.path.pos) < h.length ∧ ¬(∃ x,
      h.ceiling = some x ∧ (x : Int) + s.params.overspeedMargin < s.speed.v)) ∧
    (∃ (n : Nat) (s : State) (g : Segment) (rest : List Segment) (h : Segment), s.auth.hold ≠ none ∧ s.path.queue = g
      :: rest ∧ 0 < n ∧ rest = [h] ∧ g.length - s.path.pos ≤ n ∧ n - (g.length - s.path.pos) < h.length ∧ (∃ x,
      h.ceiling = some x ∧ (x : Int) + s.params.overspeedMargin < s.speed.v)) ∧
    (∃ (n : Nat) (s : State) (g : Segment) (rest : List Segment), s.auth.hold ≠ none ∧ s.path.queue = g :: rest ∧ 0 <
      n ∧ rest = [] ∧ g.length - s.path.pos ≤ n ∧ g.endRelease = true) ∧
    (∃ (n : Nat) (s : State) (g : Segment) (rest : List Segment), s.auth.hold ≠ none ∧ s.path.queue = g :: rest ∧ 0 <
      n ∧ rest = [] ∧ g.length - s.path.pos ≤ n ∧ g.endRelease = false ∧ ((n - (g.length - s.path.pos) : Nat) :
      Int) < s.params.dryDistance) :=
  ⟨⟨199, heldBy .a base, by decide, by decide, by decide, by decide⟩,
    ⟨200, heldBy .a base, by decide, by decide, by decide, by decide⟩,
    ⟨1000, onPath [seg true, seg false], seg true, [seg false], seg false, by decide, by decide, by decide, by decide,
      by decide, by decide, by decide⟩,
    ⟨700, onPath [seg false], seg false, [], by decide, by decide, by decide, by decide, by decide, by decide, by
      decide⟩,
    ⟨499, onPath [seg false], seg false, [], by decide, by decide, by decide, by decide⟩,
    ⟨999, onPath [seg true, seg false], seg true, [seg false], seg false, by decide, by decide, by decide, by decide,
      by decide, by decide, (by rintro ⟨_, k, l⟩; cases k; revert l; decide)⟩,
    ⟨500, rolling 900 (onPath [seg true, seg false]), seg true, [seg false], seg false, by decide, by decide, by
      decide, by decide, by decide, by decide, ⟨300, rfl, by decide⟩⟩,
    ⟨500, onPath [seg true], seg true, [], by decide, by decide, by decide, by decide, by decide, by decide⟩,
    ⟨699, onPath [seg false], seg false, [], by decide, by decide, by decide, by decide, by decide, by decide, by
      decide⟩⟩

theorem witness_TakeHoldGrantsTheHold :
    (∃ (p : Port) (b : Byte) (s : State), b.toNat < 2 ∧ Ready s p ∧ s.holds p = true) ∧
    (∃ (p : Port) (b : Byte) (s : State), b.toNat < 2 ∧ Ready s p ∧ s.holds p = false ∧ (s.grade ≠ .none ∨
      s.store.source = .defaults)) ∧
    (∃ (p : Port) (b : Byte) (s : State), b.toNat < 2 ∧ Ready s p ∧ s.heldByOther p = true ∧ s.grade = .none ∧
      s.store.source ≠ .defaults ∧ (p = .b ∨ b = 0)) ∧
    (∃ (dt : Nat) (p : Port) (b : Byte) (s : State), b.toNat < 2 ∧ Ready s p ∧ s.auth.hold = none ∧ s.grade = .none ∧
      s.store.source ≠ .defaults ∧ s.params.noInstantTrip ∧ (s.speed.passedAt (s.now + dt) = 0 ∨ (s.speed.passedAt
      (s.now + dt) : Int) < s.params.dryDistance)) ∧
    (∃ (dt : Nat) (p : Port) (b : Byte) (s : State), b.toNat < 2 ∧ Ready s p ∧ s.auth.hold = none ∧ s.grade = .none ∧
      s.store.source ≠ .defaults ∧ s.params.noInstantTrip ∧ s.speed.passedAt (s.now + dt) = 199 ∧
      (s.speed.passedAt (s.now + dt) = 0 ∨ (s.speed.passedAt (s.now + dt) : Int) < s.params.dryDistance)) ∧
    (∃ (dt : Nat) (p : Port) (b : Byte) (s : State), b.toNat < 2 ∧ Ready s p ∧ s.auth.hold = none ∧ s.grade = .none ∧
      s.store.source ≠ .defaults ∧ s.params.noInstantTrip ∧ 0 < s.speed.passedAt (s.now + dt) ∧
      s.params.dryDistance ≤ (s.speed.passedAt (s.now + dt) : Int)) :=
  ⟨⟨.a, 1, heldBy .a base, by decide, ⟨rfl, rfl⟩, by decide⟩,
    ⟨.a, 0, tripped .speed .degrade base, by decide, ⟨rfl, rfl⟩, by decide, by decide⟩,
    ⟨.b, 1, heldBy .a base, by decide, ⟨rfl, rfl⟩, by decide, by decide, by decide, by decide⟩,
    ⟨0, .a, 0, base, by decide, ⟨rfl, rfl⟩, by decide, by decide, by decide, quiet, by decide⟩,
    ⟨5, .a, 0, base.setSpeed { base.speed with passed := some { cm := 199, at_ := 5 } }, by decide, ⟨rfl, rfl⟩, by
      decide, by decide, by decide, quiet, by decide, by decide⟩,
    ⟨5, .a, 0, base.setSpeed { base.speed with passed := some { cm := 200, at_ := 5 } }, by decide, ⟨rfl, rfl⟩, by
      decide, by decide, by decide, quiet, by decide, by decide⟩⟩

theorem witness_PortAPreemptsPortB :
    (∃ (h : Hold) (s : State), s.auth.hold = some h ∧ h.port = .b ∧ Ready s .a ∧ s.grade = .none ∧ s.store.source ≠
      .defaults ∧ s.params.noInstantTrip ∧ s.noRoutine) :=
  ⟨{ port := .b, thetaRef := 0, lastContact := 0, takeoverSince := none }, heldBy .b base, rfl, by decide, ⟨rfl,
    rfl⟩, by decide, by decide, quiet, rfl⟩

theorem witness_DropHoldEndsTheHold :
    (∃ (p : Port) (h : Hold) (s : State), Ready s p ∧ s.auth.hold = some h ∧ h.port = p) ∧
    (∃ (p : Port) (s : State), Ready s p ∧ s.holds p = false) :=
  ⟨⟨.a, { port := .a, thetaRef := 0, lastContact := 0, takeoverSince := none }, heldBy .a base, ⟨rfl, rfl⟩, rfl, by
      decide⟩,
    ⟨.b, heldBy .a base, ⟨rfl, rfl⟩, by decide⟩⟩

theorem witness_HoldTimersEndTheHold :
    (∃ (dt : Nat) (h : Hold) (s : State), s.auth.hold = some h ∧ h.lastContact + s.params.holdTimeout.toNat * 1000 ≤
      s.now + dt ∧ h.takeoverSince = none) ∧
    (∃ (dt : Nat) (h : Hold) (s : State), s.auth.hold = some h ∧ s.now + dt < h.lastContact +
      s.params.holdTimeout.toNat * 1000) ∧
    (∃ (dt e : Nat) (h : Hold) (s : State), s.auth.hold = some h ∧ h.takeoverSince = some e ∧ e +
      s.auth.takeoverTime.toNat * 1000 ≤ s.now + dt) ∧
    (∃ (dt e : Nat) (s : State), s.auth.hold ≠ none ∧ s.path.ceilingSince = some e ∧ e + 200000 ≤ s.now + dt) ∧
    (∃ (dt e : Nat) (h : Hold) (s : State), s.auth.hold = some h ∧ h.takeoverSince = some e ∧ s.now + dt < e +
      s.auth.takeoverTime.toNat * 1000) ∧
    (∃ (dt e : Nat) (s : State), s.auth.hold ≠ none ∧ s.path.ceilingSince = some e ∧ s.now + dt < e + 200000) ∧
    (∃ (s : State), s.auth.hold = none ∧ s.path.ceilingSince = none) :=
  ⟨⟨300000, { port := .a, thetaRef := 0, lastContact := 0, takeoverSince := none }, heldBy .a base, rfl, by decide,
      by decide⟩,
    ⟨299999, { port := .a, thetaRef := 0, lastContact := 0, takeoverSince := none }, heldBy .a base, rfl, by decide⟩,
    ⟨150000, 0, { port := .a, thetaRef := 0, lastContact := 0, takeoverSince := some 0 }, (heldBy .a base).setAuth {
      base.auth with
      hold := some { port := .a, thetaRef := 0, lastContact := 0, takeoverSince := some 0 }, takeoverTime := 150 },
      rfl, by decide, by decide⟩,
    ⟨200000, 0, (heldBy .a base).setPath { PathUnit.empty with queue := [seg true], ceilingSince := some 0 }, by
      decide, by decide, by decide⟩,
    ⟨149999, 0, { port := .a, thetaRef := 0, lastContact := 0, takeoverSince := some 0 }, (heldBy .a base).setAuth {
      base.auth with
      hold := some { port := .a, thetaRef := 0, lastContact := 0, takeoverSince := some 0 }, takeoverTime := 150 },
      rfl, by decide, by decide⟩,
    ⟨199999, 0, (heldBy .a base).setPath { PathUnit.empty with queue := [seg true], ceilingSince := some 0 }, by
      decide, by decide, by decide⟩,
    ⟨base, by decide, by decide⟩⟩

theorem witness_HandlebarSampleFollowsTheBar :
    (∃ (x : Int), -4800 ≤ x ∧ x ≤ 4800) ∧
    (∃ (x : Int), (x < -4800 ∨ 4800 < x)) :=
  ⟨⟨4800, by decide, by decide⟩,
    ⟨-4801, by decide⟩⟩

theorem witness_ExpiriesFireTheirTrips :
    (∃ (dt e : Nat) (s : State), e ≤ s.now + dt ∧ s.speed.estimate = .suspect ∧ s.speed.suspectSince = some e ∧ e +
      500000 ≤ s.now + dt ∧ (∀ x ∈ s.inputs.trips, x.id ≠ .speed)) ∧
    (∃ (dt e : Nat) (s : State), s.auth.dropoutSince = some e ∧ e + 100000 ≤ s.now + dt ∧ (∀ x ∈ s.inputs.trips, x.id
      ≠ .handlebar) ∧ s.grade = .none ∧ s.auth.hold ≠ none) ∧
    (∃ (dt e : Nat) (x : Axis) (s : State), (s.axis x).mode = .track ∧ (x = .tilt → s.latch.state ≠ .engaged ∧
      s.latch.state ≠ .jammed) ∧ (s.axis x).valid = true ∧ (s.axis x).trackFired = false ∧ (s.axis x).trackSince =
      some e ∧ e + 300000 ≤ s.now + dt ∧ (∀ y ∈ s.inputs.trips, y.id ≠ (trackTrip x).1) ∧ ((trackTrip x).2 =
      .degrade ∨ (s.latch.state ≠ .releasePreload ∧ s.latch.state ≠ .released ∧ s.latch.state ≠ .jammed)) ∧
      s.grade = .none ∧ s.auth.hold ≠ none) ∧
    (∃ (dt e : Nat) (x : Axis) (s : State), (s.axis x).mode = .track ∧ (x = .tilt → s.latch.state ≠ .engaged ∧
      s.latch.state ≠ .jammed) ∧ (s.axis x).valid = true ∧ (s.axis x).trackFired = false ∧ (s.axis x).trackSince =
      some e ∧ e + 300000 ≤ s.now + dt ∧ (∀ y ∈ s.inputs.trips, y.id ≠ (trackTrip x).1) ∧ s.grade ≠ .lockdown ∧
      (trackTrip x).2 = .lockdown ∧ s.latch.state = .releasePreload ∧ s.latch.first = none) ∧
    (∃ (dt e : Nat) (u : TripUnit) (s : State), (s.inputs.tripUnit u).fired = false ∧ (s.inputs.tripUnit u).since =
      some e ∧ e + (s.params.tripUnit u).time.ms * 1000 ≤ s.now + dt ∧ (∀ y ∈ s.inputs.trips, y.id ≠ tripIdOf u)) :=
  ⟨⟨500000, 0, base.setSpeed { base.speed with estimate := .suspect, suspectSince := some 0 }, by decide, by decide,
      by decide, by decide, by decide⟩,
    ⟨100000, 0, (heldBy .a base).setAuth { (heldBy .a base).auth with dropoutSince := some 0 }, by decide, by decide,
      by decide, by decide, by decide⟩,
    ⟨300000, 0, .tilt, (latched .engaging false (heldBy .a base)).setTilt { base.tilt with
      mode := .track, trackSince := some 0 }, by decide, fun _ => by decide, by decide, by decide, by decide, by
      decide, by decide, by decide, by decide, by decide⟩,
    ⟨300000, 0, .tilt, (latched .releasePreload true base).setTilt { base.tilt with
      mode := .track, trackSince := some 0 }, by decide, fun _ => by decide, by decide, by decide, by decide, by
      decide, by decide, by decide, by decide, by decide, by decide⟩,
    ⟨2000000, 0, .t2, (base.setParams { base.params with
      t2 := { base.params.t2 with enabled := true, time := .ms2000 } }).setInputs { base.inputs with
      t2 := { since := some 0, fired := false } }, by decide, by decide, by decide, by decide⟩⟩

theorem witness_ClearTripEmptiesTheSet :
    (∃ (p : Port) (s : State), Ready s p ∧ s.still = true ∧ s.inputs.trips ≠ [] ∧ (∀ x ∈ s.inputs.trips,
      s.causePresent x.id = false) ∧ s.params.noInstantTrip) ∧
    (∃ (p : Port) (s : State), Ready s p ∧ s.still = true ∧ s.inputs.trips = []) ∧
    (∃ (p : Port) (s : State), Ready s p ∧ (s.still = false ∨ (∃ x ∈ s.inputs.trips, s.causePresent x.id = true))) :=
  ⟨⟨.a, tripped .speed .degrade base, ⟨rfl, rfl⟩, by decide, by decide, by decide, quiet⟩,
    ⟨.b, base, ⟨rfl, rfl⟩, by decide, by decide⟩,
    ⟨.a, rolling 1 base, ⟨rfl, rfl⟩, by decide⟩⟩

theorem witness_InputSamplesDebounce :
    (∃ (dt : Nat) (i : Input) (b : Bool) (s : State), b ≠ (s.inputs.switch i).active ∧ ((s.inputs.switch
      i).differSince.getD (s.now + dt)) + s.params.debounce.toNat * 1000 ≤ s.now + dt ∧
      s.params.inputEventMask.getLsbD (inputCode i) = true ∧ i = .key) ∧
    (∃ (dt : Nat) (i : Input) (b : Bool) (s : State), b ≠ (s.inputs.switch i).active ∧ ((s.inputs.switch
      i).differSince.getD (s.now + dt)) + s.params.debounce.toNat * 1000 ≤ s.now + dt ∧ i ≠ .key) ∧
    (∃ (dt : Nat) (i : Input) (b : Bool) (s : State), b ≠ (s.inputs.switch i).active ∧ ((s.inputs.switch
      i).differSince.getD (s.now + dt)) + s.params.debounce.toNat * 1000 ≤ s.now + dt ∧ s.latch.run = .parked ∧
      s.params.wakeMask.getLsbD (if i = .key then 1 else 2) = true) ∧
    (∃ (dt : Nat) (i : Input) (b : Bool) (s : State), b ≠ (s.inputs.switch i).active ∧ s.now + dt < ((s.inputs.switch
      i).differSince.getD (s.now + dt)) + s.params.debounce.toNat * 1000) ∧
    (∃ (dt : Nat) (i : Input) (b : Bool) (s : State), b ≠ (s.inputs.switch i).active ∧ ((s.inputs.switch
      i).differSince.getD (s.now + dt)) + s.params.debounce.toNat * 1000 ≤ s.now + dt ∧ i = .lift ∧ b = false) ∧
    (∃ (dt : Nat) (i : Input) (b : Bool) (s : State), b ≠ (s.inputs.switch i).active ∧ ((s.inputs.switch
      i).differSince.getD (s.now + dt)) + s.params.debounce.toNat * 1000 ≤ s.now + dt ∧ (i ≠ .lift ∨ b = true) ∧
      s.params.noInstantTrip) ∧
    (∃ (i : Input) (b : Bool) (s : State), b = (s.inputs.switch i).active) :=
  ⟨⟨8000, .key, true, base.setInputs { base.inputs with key := { active := false, differSince := some 0 } }, by
      decide, by decide, by decide, by decide⟩,
    ⟨8000, .stand, true, base.setInputs { base.inputs with stand := { active := false, differSince := some 0 } }, by
      decide, by decide, by decide⟩,
    ⟨8000, .key, true, (base.setInputs { base.inputs with
      key := { active := false, differSince := some 0 } }).setLatchUnit { base.latch with run := .parked }, by
      decide, by decide, by decide, by decide⟩,
    ⟨7999, .key, true, base.setInputs { base.inputs with key := { active := false, differSince := some 0 } }, by
      decide, by decide⟩,
    ⟨8000, .lift, false, base.setInputs { base.inputs with lift := { active := true, differSince := some 0 } }, by
      decide, by decide, by decide, by decide⟩,
    ⟨8000, .key, true, base.setInputs { base.inputs with key := { active := false, differSince := some 0 } }, by
      decide, by decide, by decide, quiet⟩,
    ⟨.key, false, base, by decide⟩⟩

theorem witness_CombinersComputeTheirFunctions :
    (∃ (u : InputUnit) (cfg : CombinerCfg), cfg.fn = .latch ∧ (u.cond cfg.b.cond != cfg.b.inverted) = false ∧ (u.cond
      cfg.a.cond != cfg.a.inverted) = true) ∧
    (∃ (u : InputUnit) (cfg : CombinerCfg), cfg.fn = .latch ∧ (u.cond cfg.b.cond != cfg.b.inverted) = true) ∧
    (∃ (cfg : CombinerCfg), cfg.fn = .all ∧ cfg.fn ≠ .latch) ∧
    (∃ (c : Cond) (b : Bool) (s : State), s.params.noInstantTrip ∧ (s.setInputs (s.inputs.afterChange s.params c
      b)).combined = s.combined) ∧
    (∃ (c : Cond) (b : Bool) (s : State), s.params.noInstantTrip ∧ (s.setInputs (s.inputs.afterChange s.params c
      b)).combined ≠ s.combined) ∧
    (∃ (c : Cond) (b : Bool) (rest : List (Cond × Bool)) (s : State), s.waitingChanges = (c, b) :: rest) ∧
    (∃ (dt : Nat) (i : Input) (b : Bool) (s : State), i ≠ .key ∧ i ≠ .lift ∧ b ≠ (s.inputs.switch i).active ∧
      ((s.inputs.switch i).differSince.getD (s.now + dt)) + s.params.debounce.toNat * 1000 ≤ s.now + dt ∧
      s.latch.run = .run ∧ s.params.noInstantTrip ∧ s.NotWaiting ∧ (∀ k, (s.params.combiner k).action ≠ .lockHold)
      ∧ s.decideLatch = none ∧ s.waitingChanges = [] ∧ s.inputs.cond (condOf i) ≠ b) :=
  ⟨⟨base.inputs, { base.params.c0 with fn := .latch, a := .always, b := { cond := .seat, inverted := false } }, by
      decide, by decide, by decide⟩,
    ⟨base.inputs, { base.params.c0 with fn := .latch, b := .always }, by decide, by decide⟩,
    ⟨base.params.c1, by decide, by decide⟩,
    ⟨.brake, true, base, quiet, by decide⟩,
    ⟨.still, false, base, quiet, by decide⟩,
    ⟨.locked, false, [(.locked, true)], base.setChanges [(.locked, false), (.locked, true)], by decide⟩,
    ⟨8000, .brake, true, (freed base).setInputs { base.inputs with
      brake := { active := false, differSince := some 0 } }, by decide, by decide, by decide, by decide, by
      decide, quiet, waitsFree _ rfl, (fun i => by cases i <;> decide), rfl, by decide, by decide⟩⟩

theorem witness_AxisSampleDrivesTheAxis :
    (∃ (x : Axis) (m : Int) (s : State), s.params.noInstantTrip ∧ s.NotWaiting ∧ (m < -4800 ∨ 4800 < m) ∧ (s.axis
      x).valid = true ∧ (∀ y ∈ s.inputs.trips, y.id ≠ (sensorTrip x).1)) ∧
    (∃ (x : Axis) (m : Int) (s : State), s.params.noInstantTrip ∧ s.NotWaiting ∧ (m < -4800 ∨ 4800 < m) ∧ (s.axis
      x).valid = false) ∧
    (∃ (x : Axis) (m : Int) (s : State), s.params.noInstantTrip ∧ s.NotWaiting ∧ -4800 ≤ m ∧ m ≤ 4800 ∧ (s.axis
      x).mode = .off) ∧
    (∃ (x : Axis) (m : Int) (s : State), s.params.noInstantTrip ∧ s.NotWaiting ∧ -4800 ≤ m ∧ m ≤ 4800 ∧ (s.axis
      x).mode = .track ∧ x = .tilt ∧ (s.latch.state = .engaged ∨ s.latch.state = .jammed)) ∧
    (∃ (x : Axis) (m : Int) (s : State), s.params.noInstantTrip ∧ s.NotWaiting ∧ -4800 ≤ m ∧ m ≤ 4800 ∧ (s.axis
      x).mode = .track ∧ (x = .steer ∨ s.latch.state = .releasing ∨ s.latch.state = .engaging ∨ (s.latch.state =
      .unlatchedFault ∧ s.params.Valid) ∨ (s.latch.state = .released ∧ (s.latch.closed = false ∨ (s.params.Valid ∧
      ((s.slow = false ∧ s.grade ≠ .lockdown) ∨ s.params.uprightWindow < |m - s.params.centre x| ∨
      s.params.uprightWindow < |s.solve.phiS|)))) ∨ (s.latch.state = .releasePreload ∧ s.preloadOff = false ∧ ∀ i,
      (s.params.combiner i).action ≠ .lockHold)) ∧ s.params.trackErr x < |s.setpoint x - (m - s.params.centre x)|) ∧
    (∃ (x : Axis) (m : Int) (s : State), s.params.noInstantTrip ∧ s.NotWaiting ∧ -4800 ≤ m ∧ m ≤ 4800 ∧ (s.axis
      x).mode = .track ∧ (x = .steer ∨ s.latch.state = .releasing ∨ s.latch.state = .engaging ∨ (s.latch.state =
      .unlatchedFault ∧ s.params.Valid) ∨ (s.latch.state = .released ∧ (s.latch.closed = false ∨ (s.params.Valid ∧
      ((s.slow = false ∧ s.grade ≠ .lockdown) ∨ s.params.uprightWindow < |m - s.params.centre x| ∨
      s.params.uprightWindow < |s.solve.phiS|)))) ∨ (s.latch.state = .releasePreload ∧ s.preloadOff = false ∧ ∀ i,
      (s.params.combiner i).action ≠ .lockHold)) ∧ |s.setpoint x - (m - s.params.centre x)| ≤ s.params.trackErr x) ∧
    (∃ (x : Axis) (m : Int) (s : State), s.params.noInstantTrip ∧ s.NotWaiting ∧ -4800 ≤ m ∧ m ≤ 4800 ∧ (s.axis
      x).mode = .track ∧ (x = .steer ∨ s.latch.state = .releasing ∨ s.latch.state = .engaging ∨ (s.latch.state =
      .unlatchedFault ∧ s.params.Valid) ∨ (s.latch.state = .released ∧ (s.latch.closed = false ∨ (s.params.Valid ∧
      ((s.slow = false ∧ s.grade ≠ .lockdown) ∨ s.params.uprightWindow < |m - s.params.centre x| ∨
      s.params.uprightWindow < |s.solve.phiS|)))) ∨ (s.latch.state = .releasePreload ∧ s.preloadOff = false ∧ ∀ i,
      (s.params.combiner i).action ≠ .lockHold)) ∧ |s.setpoint x - (m - s.params.centre x)| ≤ s.params.trackErr x) ∧
    (∃ (x : Axis) (m : Int) (s : State), s.params.noInstantTrip ∧ s.NotWaiting ∧ -4800 ≤ m ∧ m ≤ 4800 ∧ (s.axis
      x).mode = .track ∧ (x = .steer ∨ s.latch.state = .releasing ∨ s.latch.state = .engaging ∨ (s.latch.state =
      .unlatchedFault ∧ s.params.Valid) ∨ (s.latch.state = .released ∧ (s.latch.closed = false ∨ (s.params.Valid ∧
      ((s.slow = false ∧ s.grade ≠ .lockdown) ∨ s.params.uprightWindow < |m - s.params.centre x| ∨
      s.params.uprightWindow < |s.solve.phiS|)))) ∨ (s.latch.state = .releasePreload ∧ s.preloadOff = false ∧ ∀ i,
      (s.params.combiner i).action ≠ .lockHold)) ∧ |s.setpoint x - (m - s.params.centre x)| ≤ s.params.trackErr x) ∧
    (∃ (x : Axis) (m : Int) (s : State), s.params.noInstantTrip ∧ s.NotWaiting ∧ -4800 ≤ m ∧ m ≤ 4800 ∧ (s.axis
      x).mode = .track ∧ (x = .steer ∨ s.latch.state = .releasing ∨ s.latch.state = .engaging ∨ (s.latch.state =
      .unlatchedFault ∧ s.params.Valid) ∨ (s.latch.state = .released ∧ (s.latch.closed = false ∨ (s.params.Valid ∧
      ((s.slow = false ∧ s.grade ≠ .lockdown) ∨ s.params.uprightWindow < |m - s.params.centre x| ∨
      s.params.uprightWindow < |s.solve.phiS|)))) ∨ (s.latch.state = .releasePreload ∧ s.preloadOff = false ∧ ∀ i,
      (s.params.combiner i).action ≠ .lockHold)) ∧ s.params.trackErr x < |s.setpoint x - (m - s.params.centre x)|) ∧
    (∃ (x : Axis) (m : Int) (s : State), s.params.noInstantTrip ∧ s.NotWaiting ∧ -4800 ≤ m ∧ m ≤ 4800 ∧ (s.axis
      x).mode = .track ∧ x = .tilt ∧ s.latch.state = .released ∧ s.latch.closed = true ∧ s.latch.pulse = none ∧
      s.latch.set = none ∧ s.latch.first = none ∧ s.latch.run = .run ∧ s.slot.onTilt = false ∧ s.params.Valid ∧
      ((s.slow = true ∧ s.permit = false) ∨ s.grade = .lockdown) ∧ |m - s.params.centre x| ≤
      s.params.uprightWindow ∧ |s.solve.phiS| ≤ s.params.uprightWindow) ∧
    (∃ (x : Axis) (m : Int) (s : State), s.params.noInstantTrip ∧ s.NotWaiting ∧ -4800 ≤ m ∧ m ≤ 4800 ∧ (s.axis
      x).mode = .service ∧ s.slot = .service x none) ∧
    (∃ (r : Routine) (m : Int) (s : State), s.slot = .routine r ∧ (s.axis r.axis).mode = .routine ∧
      s.params.noInstantTrip ∧ -4800 ≤ m + s.params.centre r.axis ∧ m + s.params.centre r.axis ≤ 4800 ∧ r.held =
      some 5) ∧
    (∃ (r : Routine) (m : Int) (s : State), s.slot = .routine r ∧ (s.axis r.axis).mode = .routine ∧
      s.params.noInstantTrip ∧ -4800 ≤ m + s.params.centre r.axis ∧ m + s.params.centre r.axis ≤ 4800 ∧ r.held =
      none ∧ r.axis = .tilt ∧ ((r.phase = .release ∧ s.latch.state ≠ .released) ∨ (r.phase = .engage ∧
      (s.latch.state = .engaging ∨ s.latch.state = .unlatchedFault ∨ s.latch.state = .released ∨ s.latch.state =
      .releasing)))) ∧
    (∃ (r : Routine) (m : Int) (s : State), s.slot = .routine r ∧ (s.axis r.axis).mode = .routine ∧
      s.params.noInstantTrip ∧ -4800 ≤ m + s.params.centre r.axis ∧ m + s.params.centre r.axis ≤ 4800 ∧ r.held =
      none ∧ (r.phase = .rampLeft ∨ r.phase = .rampRight) ∧ r.rampSince ≠ none) ∧
    (∃ (r : Routine) (m : Int) (s : State), s.slot = .routine r ∧ (s.axis r.axis).mode = .routine ∧
      s.params.noInstantTrip ∧ -4800 ≤ m + s.params.centre r.axis ∧ m + s.params.centre r.axis ≤ 4800 ∧ r.held =
      none ∧ (r.phase = .sweepLeft ∨ r.phase = .sweepRight) ∧ 10 ≤ |m - r.reference|) ∧
    (∃ (r : Routine) (m : Int) (s : State), s.slot = .routine r ∧ (s.axis r.axis).mode = .routine ∧
      s.params.noInstantTrip ∧ -4800 ≤ m + s.params.centre r.axis ∧ m + s.params.centre r.axis ≤ 4800 ∧ r.held =
      none ∧ (r.phase = .sweepLeft ∨ r.phase = .sweepRight) ∧ |m - r.reference| < 10) ∧
    (∃ (r : Routine) (m : Int) (s : State), s.slot = .routine r ∧ (s.axis r.axis).mode = .routine ∧
      s.params.noInstantTrip ∧ -4800 ≤ m + s.params.centre r.axis ∧ m + s.params.centre r.axis ≤ 4800 ∧ r.held =
      none ∧ r.phase = .centre ∧ 20 < |r.target - m|) ∧
    (∃ (r : Routine) (m : Int) (s : State), s.slot = .routine r ∧ (s.axis r.axis).mode = .routine ∧
      s.params.noInstantTrip ∧ -4800 ≤ m + s.params.centre r.axis ∧ m + s.params.centre r.axis ≤ 4800 ∧ r.held =
      none ∧ (r.phase = .rampLeft ∨ r.phase = .rampRight) ∧ r.rampSince = none ∧ 20 < |r.target - m|) ∧
    (∃ (r : Routine) (m : Int) (s : State), s.slot = .routine r ∧ (s.axis r.axis).mode = .routine ∧
      s.params.noInstantTrip ∧ -4800 ≤ m + s.params.centre r.axis ∧ m + s.params.centre r.axis ≤ 4800 ∧ r.held =
      none ∧ (r.phase = .rampLeft ∨ r.phase = .rampRight) ∧ r.rampSince = none ∧ |r.target - m| ≤ 20) ∧
    (∃ (r : Routine) (m : Int) (s : State), s.slot = .routine r ∧ (s.axis r.axis).mode = .routine ∧
      s.params.noInstantTrip ∧ -4800 ≤ m + s.params.centre r.axis ∧ m + s.params.centre r.axis ≤ 4800 ∧ r.held =
      none ∧ (r.phase = .pushLeft ∨ r.phase = .pushRight) ∧ max r.maxDisp |m - r.reference| < 30) ∧
    (∃ (r : Routine) (m : Int) (s : State), s.slot = .routine r ∧ (s.axis r.axis).mode = .routine ∧
      s.params.noInstantTrip ∧ -4800 ≤ m + s.params.centre r.axis ∧ m + s.params.centre r.axis ≤ 4800 ∧ r.held =
      none ∧ (r.phase = .pushLeft ∨ r.phase = .pushRight) ∧ 30 ≤ max r.maxDisp |m - r.reference| ∧ s.fast = false) ∧
    (∃ (r : Routine) (m : Int) (s : State), s.slot = .routine r ∧ (s.axis r.axis).mode = .routine ∧
      s.params.noInstantTrip ∧ -4800 ≤ m + s.params.centre r.axis ∧ m + s.params.centre r.axis ≤ 4800 ∧ r.held =
      none ∧ r.axis = .tilt ∧ r.phase = .engage ∧ s.latch.state = .engaging) ∧
    (∃ (r : Routine) (m mid : Int) (s : State), s.slot = .routine r ∧ (s.axis r.axis).mode = .routine ∧
      s.params.noInstantTrip ∧ -4800 ≤ m + s.params.centre r.axis ∧ m + s.params.centre r.axis ≤ 4800 ∧ r.held =
      none ∧ r.phase = .centre ∧ |r.target - m| ≤ 20 ∧ r.kind = .home ∧ r.axis = .steer ∧ r.v3 = some mid ∧
      r.outcome = .pass) ∧
    (∃ (r : Routine) (m mid : Int) (s : State), s.slot = .routine r ∧ (s.axis r.axis).mode = .routine ∧
      s.params.noInstantTrip ∧ -4800 ≤ m + s.params.centre r.axis ∧ m + s.params.centre r.axis ≤ 4800 ∧ r.held =
      none ∧ r.phase = .centre ∧ |r.target - m| ≤ 20 ∧ r.kind = .home ∧ r.axis = .steer ∧ r.v3 = some mid ∧
      r.outcome = .failSpan) ∧
    (∃ (r : Routine) (m : Int) (s : State), s.slot = .routine r ∧ (s.axis r.axis).mode = .routine ∧
      s.params.noInstantTrip ∧ -4800 ≤ m + s.params.centre r.axis ∧ m + s.params.centre r.axis ≤ 4800 ∧ r.held =
      none ∧ r.phase = .centre ∧ |r.target - m| ≤ 20 ∧ r.kind = .home ∧ r.axis = .tilt ∧ s.latch.state = .released
      ∧ s.latch.set = none ∧ s.latch.first = none ∧ s.latch.closed = false) :=
  ⟨⟨.tilt, 4801, base, quiet, waitsFree _ rfl, by decide, by decide, by decide⟩,
    ⟨.steer, 4801, base.setSteer { base.steer with valid := false }, quiet, waitsFree _ rfl, by decide, by decide⟩,
    ⟨.steer, 4800, base, quiet, waitsFree _ rfl, by decide, by decide, by decide⟩,
    ⟨.tilt, -4800, moded .tilt .track base, quiet, waitsFree _ rfl, by decide, by decide, by decide, by decide, by
      decide⟩,
    ⟨.tilt, 601, moded .tilt .track (rolling 500 (latched .released true base)), quiet, waitsFree _ rfl, by decide, by
      decide, by decide, (.inr (.inr (.inr (.inr (.inl ⟨rfl, .inr ⟨valid, by decide⟩⟩))))), by decide⟩,
    ⟨.tilt, 600, moded .tilt .track (latched .engaging false base), quiet, waitsFree _ rfl, by decide, by decide, by
      decide, (.inr (.inr (.inl (by decide)))), by decide⟩,
    ⟨.tilt, 150, moded .tilt .track (latched .released false base), quiet, waitsFree _ rfl, by decide, by decide, by
      decide, (.inr (.inr (.inr (.inr (.inl ⟨rfl, .inl rfl⟩))))), by decide⟩,
    ⟨.tilt, 600, moded .tilt .track (rolling 500 (latched .unlatchedFault false base)), quiet, waitsFree _ rfl, by
      decide, by decide, by decide, (.inr (.inr (.inr (.inl ⟨rfl, valid⟩)))), by decide⟩,
    ⟨.tilt, -601, moded .tilt .track (rolling 500 (latched .releasePreload true (freed base))), quiet, waitsFree _
      rfl, by decide, by decide, by decide, (.inr (.inr (.inr (.inr (.inr ⟨by decide, by decide,
      fun i => by cases i <;> decide⟩))))), by decide⟩,
    ⟨.tilt, 150, moded .tilt .track (latched .released true base), quiet, waitsFree _ rfl, by decide, by decide, by
      decide, by decide, by decide, by decide, by decide, by decide, by decide, by decide, by decide, valid, by
      decide, by decide, by decide⟩,
    ⟨.steer, 0, (moded .steer .service base).setSlot (.service .steer none), quiet, (by intro r h; cases h), by
      decide, by decide, by decide, by decide⟩,
    ⟨{ routineAt .steer .home .centre with held := some 5 }, 0, inRoutine ({ routineAt .steer .home .centre with
      held := some 5 }), rfl, by decide, quiet, by decide, by decide, by decide⟩,
    ⟨routineAt .tilt .friction .release, 10, inRoutine (routineAt .tilt .friction .release), rfl, by decide, quiet, by
      decide, by decide, by decide, by decide, by decide⟩,
    ⟨{ routineAt .steer .friction .rampRight with rampSince := some 0, rampDrive := 40 }, 3, inRoutine ({ routineAt
      .steer .friction .rampRight with rampSince := some 0, rampDrive := 40 }), rfl, by decide, quiet, by decide,
      by decide, by decide, by decide, by decide⟩,
    ⟨routineAt .steer .home .sweepLeft, 10, inRoutine (routineAt .steer .home .sweepLeft), rfl, by decide, quiet, by
      decide, by decide, by decide, by decide, by decide⟩,
    ⟨routineAt .tilt .home .sweepRight, -9, inRoutine (routineAt .tilt .home .sweepRight), rfl, by decide, quiet, by
      decide, by decide, by decide, by decide, by decide⟩,
    ⟨routineAt .tilt .home .centre, 21, inRoutine (routineAt .tilt .home .centre), rfl, by decide, quiet, by decide,
      by decide, by decide, by decide, by decide⟩,
    ⟨routineAt .tilt .friction .rampLeft, 21, inRoutine (routineAt .tilt .friction .rampLeft), rfl, by decide, quiet,
      by decide, by decide, by decide, by decide, by decide, by decide⟩,
    ⟨routineAt .steer .friction .rampRight, -20, inRoutine (routineAt .steer .friction .rampRight), rfl, by decide,
      quiet, by decide, by decide, by decide, by decide, by decide, by decide⟩,
    ⟨routineAt .tilt .lockTest .pushLeft, -29, inRoutine (routineAt .tilt .lockTest .pushLeft), rfl, by decide, quiet,
      by decide, by decide, by decide, by decide, by decide⟩,
    ⟨routineAt .tilt .lockTest .pushRight, 30, inRoutine (routineAt .tilt .lockTest .pushRight), rfl, by decide,
      quiet, by decide, by decide, by decide, by decide, by decide, by decide⟩,
    ⟨routineAt .tilt .home .engage, -400, awaiting .engage (routineAt .tilt .home .engage), rfl, by decide, quiet, by
      decide, by decide, by decide, by decide, by decide⟩,
    ⟨{ routineAt .steer .home .centre with v3 := some 50, outcome := .pass, target := 50 }, 70, 50, inRoutine ({
      routineAt .steer .home .centre with v3 := some 50, outcome := .pass, target := 50 }), rfl, by decide, quiet,
      by decide, by decide, by decide, by decide, by decide, by decide, by decide, by decide, by decide⟩,
    ⟨{ routineAt .steer .home .centre with v3 := some 50, outcome := .failSpan, target := 50 }, 30, 50, inRoutine ({
      routineAt .steer .home .centre with v3 := some 50, outcome := .failSpan, target := 50 }), rfl, by decide,
      quiet, by decide, by decide, by decide, by decide, by decide, by decide, by decide, by decide, by decide⟩,
    ⟨routineAt .tilt .home .centre, 20, latched .released false (inRoutine (routineAt .tilt .home .centre)), rfl, by
      decide, quiet, by decide, by decide, by decide, by decide, by decide, by decide, by decide, by decide, by
      decide, by decide, by decide⟩⟩

theorem witness_EnableBringsAxesToTrack :
    (∃ (p : Port) (s : State), Ready s p ∧ s.store.source = .defaults) ∧
    (∃ (p : Port) (s : State), Ready s p ∧ s.store.source ≠ .defaults ∧ s.params.noInstantTrip ∧ s.NotWaiting ∧
      (s.axis .tilt).mode = .off) ∧
    (∃ (p : Port) (s : State), Ready s p ∧ s.store.source ≠ .defaults ∧ s.params.noInstantTrip ∧ s.NotWaiting ∧
      (s.axis .tilt).mode = .routine) :=
  ⟨⟨.a, base.setStore { base.store with source := .defaults }, ⟨rfl, rfl⟩, by decide⟩,
    ⟨.a, base, ⟨rfl, rfl⟩, by decide, quiet, waitsFree _ rfl, by decide⟩,
    ⟨.a, inRoutine (routineAt .tilt .lockTest .pushLeft), ⟨rfl, rfl⟩, by decide, quiet, waitsPush, by decide⟩⟩

theorem witness_StartRoutineTakesTheSlot :
    (∃ (p : Port) (bytes : List Byte) (s : State), bytes.length ≤ 38 ∧ Ready s p ∧ (∀ (x : Axis) (k : RoutineKind), (x
      = .steer ∧ k = .lockTest) ∨ bytes ≠ [byteOf (axisNumber x), byteOf k.number])) ∧
    (∃ (p : Port) (bytes : List Byte) (s : State), bytes.length ≤ 38 ∧ Ready s p ∧ (∀ (x : Axis) (k : RoutineKind), (x
      = .steer ∧ k = .lockTest) ∨ bytes ≠ [byteOf (axisNumber x), byteOf k.number])) ∧
    (∃ (p : Port) (bytes : List Byte) (s : State), bytes.length ≤ 38 ∧ Ready s p ∧ (∀ (x : Axis) (k : RoutineKind), (x
      = .steer ∧ k = .lockTest) ∨ bytes ≠ [byteOf (axisNumber x), byteOf k.number])) ∧
    (∃ (p : Port) (x : Axis) (k : RoutineKind) (s : State), ¬(x = .steer ∧ k = .lockTest) ∧ Ready s p ∧ s.holds p =
      true ∧ s.slot ≠ .free) ∧
    (∃ (p : Port) (x : Axis) (k : RoutineKind) (s : State), ¬(x = .steer ∧ k = .lockTest) ∧ Ready s p ∧ s.holds p =
      true ∧ s.slot = .free ∧ (s.path.queue ≠ [] ∨ s.path.staging ≠ [] ∨ s.path.batchOpen = true ∨ s.grade ≠ .none
      ∨ s.still = false ∨ (∃ w, (s.speed.wheel w).speed ≠ 0) ∨ (x = .tilt ∧ (s.latch.state ≠ .engaged ∨
      (s.inputs.lift.active = false ∧ (k ≠ .lockTest ∨ s.inputs.stand.active = false)))))) ∧
    (∃ (p : Port) (x : Axis) (k : RoutineKind) (s : State), ¬(x = .steer ∧ k = .lockTest) ∧ Ready s p ∧ s.holds p =
      true ∧ s.slot = .free ∧ (s.path.queue ≠ [] ∨ s.path.staging ≠ [] ∨ s.path.batchOpen = true ∨ s.grade ≠ .none
      ∨ s.still = false ∨ (∃ w, (s.speed.wheel w).speed ≠ 0) ∨ (x = .tilt ∧ (s.latch.state ≠ .engaged ∨
      (s.inputs.lift.active = false ∧ (k ≠ .lockTest ∨ s.inputs.stand.active = false)))))) ∧
    (∃ (p : Port) (x : Axis) (k : RoutineKind) (s : State), ¬(x = .steer ∧ k = .lockTest) ∧ Ready s p ∧ s.holds p =
      true ∧ s.slot = .free ∧ (s.path.queue ≠ [] ∨ s.path.staging ≠ [] ∨ s.path.batchOpen = true ∨ s.grade ≠ .none
      ∨ s.still = false ∨ (∃ w, (s.speed.wheel w).speed ≠ 0) ∨ (x = .tilt ∧ (s.latch.state ≠ .engaged ∨
      (s.inputs.lift.active = false ∧ (k ≠ .lockTest ∨ s.inputs.stand.active = false)))))) ∧
    (∃ (p : Port) (x : Axis) (k : RoutineKind) (s : State), ¬(x = .steer ∧ k = .lockTest) ∧ Ready s p ∧ s.holds p =
      true ∧ s.slot = .free ∧ (s.path.queue ≠ [] ∨ s.path.staging ≠ [] ∨ s.path.batchOpen = true ∨ s.grade ≠ .none
      ∨ s.still = false ∨ (∃ w, (s.speed.wheel w).speed ≠ 0) ∨ (x = .tilt ∧ (s.latch.state ≠ .engaged ∨
      (s.inputs.lift.active = false ∧ (k ≠ .lockTest ∨ s.inputs.stand.active = false)))))) ∧
    (∃ (p : Port) (x : Axis) (k : RoutineKind) (s : State), ¬(x = .steer ∧ k = .lockTest) ∧ Ready s p ∧ s.holds p =
      true ∧ s.slot = .free ∧ (s.path.queue ≠ [] ∨ s.path.staging ≠ [] ∨ s.path.batchOpen = true ∨ s.grade ≠ .none
      ∨ s.still = false ∨ (∃ w, (s.speed.wheel w).speed ≠ 0) ∨ (x = .tilt ∧ (s.latch.state ≠ .engaged ∨
      (s.inputs.lift.active = false ∧ (k ≠ .lockTest ∨ s.inputs.stand.active = false)))))) ∧
    (∃ (p : Port) (x : Axis) (k : RoutineKind) (s : State), ¬(x = .steer ∧ k = .lockTest) ∧ Ready s p ∧ s.holds p =
      true ∧ s.slot = .free ∧ s.path.queue = [] ∧ s.path.staging = [] ∧ s.path.batchOpen = false ∧ s.grade = .none
      ∧ s.still = true ∧ (∀ w, (s.speed.wheel w).speed = 0) ∧ (x = .tilt → s.latch.state = .engaged ∧
      (s.inputs.lift.active = true ∨ (k = .lockTest ∧ s.inputs.stand.active = true))) ∧ s.params.noInstantTrip ∧
      s.latch.closed = true ∧ s.latch.set = none ∧ x = .tilt ∧ k ≠ .lockTest ∧ s.latch.first = none) ∧
    (∃ (p : Port) (x : Axis) (k : RoutineKind) (s : State), ¬(x = .steer ∧ k = .lockTest) ∧ Ready s p ∧ s.holds p =
      true ∧ s.slot = .free ∧ s.path.queue = [] ∧ s.path.staging = [] ∧ s.path.batchOpen = false ∧ s.grade = .none
      ∧ s.still = true ∧ (∀ w, (s.speed.wheel w).speed = 0) ∧ (x = .tilt → s.latch.state = .engaged ∧
      (s.inputs.lift.active = true ∨ (k = .lockTest ∧ s.inputs.stand.active = true))) ∧ s.params.noInstantTrip ∧
      s.latch.closed = true ∧ s.latch.set = none ∧ s.latch.first ≠ none) :=
  ⟨⟨.b, [1, 2], base, by decide, ⟨rfl, rfl⟩, (fun x k => by cases x <;> cases k <;> decide)⟩,
    ⟨.b, [2, 0], base, by decide, ⟨rfl, rfl⟩, (fun x k => by cases x <;> cases k <;> decide)⟩,
    ⟨.b, List.replicate 38 0, base, by decide, ⟨rfl, rfl⟩, (fun x k => by cases x <;> cases k <;> decide)⟩,
    ⟨.a, .tilt, .lockTest, inRoutine (routineAt .steer .home .sweepLeft), by decide, ⟨rfl, rfl⟩, by decide, by decide⟩,
    ⟨.a, .steer, .home, onPath [seg true], by decide, ⟨rfl, rfl⟩, by decide, by decide, (.inl (by decide))⟩,
    ⟨.a, .steer, .home, opened, by decide, ⟨rfl, rfl⟩, by decide, by decide, (.inr (.inl (by decide)))⟩,
    ⟨.a, .steer, .home, rolling 20 (heldBy .a base), by decide, ⟨rfl, rfl⟩, by decide, by decide, (.inr (.inr (.inr
      (.inr (.inl (by decide))))))⟩,
    ⟨.a, .steer, .home, (heldBy .a base).setSpeed { base.speed with frontR := wheelAt 5 5750 }, by decide, ⟨rfl, rfl⟩,
      by decide, by decide, (.inr (.inr (.inr (.inr (.inr (.inl ⟨.frontR, by decide⟩))))))⟩,
    ⟨.a, .tilt, .home, heldBy .a base, by decide, ⟨rfl, rfl⟩, by decide, by decide, (.inr (.inr (.inr (.inr (.inr
      (.inr (by decide)))))))⟩,
    ⟨.a, .tilt, .home, lifted (heldBy .a base), by decide, ⟨rfl, rfl⟩, by decide, by decide, by decide, by decide, by
      decide, by decide, by decide, (fun w => by cases w <;> decide), fun _ => by decide, quiet, by decide, by
      decide, by decide, by decide, by decide⟩,
    ⟨.a, .tilt, .friction, lifted (heldBy .a State.reset), by decide, ⟨rfl, rfl⟩, by decide, by decide, by decide, by
      decide, by decide, by decide, by decide, (fun w => by cases w <;> decide), fun _ => by decide, quiet, by
      decide, by decide, by decide⟩⟩

theorem witness_RequestsNeedTheHold :
    (∃ (p : Port) (x : Axis) (k : RoutineKind) (s : State), Ready s p ∧ s.holds p = false ∧ kindExists x k = true) ∧
    (∃ (f : Frame) (s : State), f.payload.length ≤ 37 ∧ Ready s f.port ∧ s.holds f.port = false) ∧
    (∃ (f : Frame) (s : State), f.payload.length ≤ 37 ∧ Ready s f.port ∧ s.holds f.port = true ∧ s.axisBusy = true) :=
  ⟨⟨.b, .tilt, .lockTest, heldBy .a base, ⟨rfl, rfl⟩, by decide, by decide⟩,
    ⟨frame .b [0], heldBy .a base, by decide, ⟨rfl, rfl⟩, by decide⟩,
    ⟨frame .a (List.replicate 37 0), inRoutine (routineAt .steer .home .centre), by decide, ⟨rfl, rfl⟩, by decide, by
      decide⟩⟩

theorem witness_SweepsFindTheirStopsAndLatePhasesFail :
    (∃ (dt : Nat) (r : Routine) (s : State), s.slot = .routine r ∧ r.held = none ∧ s.params.noInstantTrip ∧ (r.phase =
      .sweepLeft ∨ r.phase = .sweepRight ∨ r.phase = .centre ∨ ((r.phase = .rampLeft ∨ r.phase = .rampRight) ∧
      r.rampSince = none)) ∧ r.phaseStart + 4000000 ≤ s.now + dt) ∧
    (∃ (dt : Nat) (r : Routine) (s : State), s.slot = .routine r ∧ r.held = none ∧ s.params.noInstantTrip ∧ r.kind =
      .home ∧ (s.axis r.axis).mode = .routine ∧ r.stopSince + 200000 ≤ s.now + dt ∧ r.phase = .sweepLeft) ∧
    (∃ (dt : Nat) (r : Routine) (s : State) (left right : Int), s.slot = .routine r ∧ r.held = none ∧
      s.params.noInstantTrip ∧ r.kind = .home ∧ (s.axis r.axis).mode = .routine ∧ r.stopSince + 200000 ≤ s.now +
      dt ∧ r.phase = .sweepRight ∧ r.v1 = some left ∧ right = (s.axis r.axis).meas + (s.axis r.axis).against.getD
      r.centre - r.centre ∧ r.axis = .tilt ∧ 7000 ≤ left - right ∧ left - right ≤ 9800) ∧
    (∃ (dt : Nat) (r : Routine) (s : State) (left right : Int), s.slot = .routine r ∧ r.held = none ∧
      s.params.noInstantTrip ∧ r.kind = .home ∧ (s.axis r.axis).mode = .routine ∧ r.stopSince + 200000 ≤ s.now +
      dt ∧ r.phase = .sweepRight ∧ r.v1 = some left ∧ right = (s.axis r.axis).meas + (s.axis r.axis).against.getD
      r.centre - r.centre ∧ r.axis = .steer ∧ left - right < 6000) :=
  ⟨⟨4000000, routineAt .steer .home .centre, inRoutine (routineAt .steer .home .centre), rfl, by decide, quiet, by
      decide, by decide⟩,
    ⟨200000, routineAt .tilt .home .sweepLeft, inRoutine (routineAt .tilt .home .sweepLeft), rfl, by decide, quiet, by
      decide, by decide, by decide, by decide⟩,
    ⟨200000, { routineAt .tilt .home .sweepRight with v1 := some 7000 }, inRoutine { routineAt .tilt .home .sweepRight
      with v1 := some 7000 }, 7000, 0, rfl, by decide, quiet, by decide, by decide, by decide, by decide, by
      decide, by decide, by decide⟩,
    ⟨200000, { routineAt .steer .home .sweepRight with v1 := some 5999 }, inRoutine { routineAt .steer .home
      .sweepRight with v1 := some 5999 }, 5999, 0, rfl, by decide, quiet, by decide, by decide, by decide, by
      decide, by decide, by decide, by decide⟩⟩

theorem witness_RampsAndPushesMeasure :
    (∃ (dt : Nat) (r : Routine) (s : State), s.slot = .routine r ∧ r.held = none ∧ r.kind = .lockTest ∧ r.axis = .tilt
      ∧ (s.axis .tilt).mode = .routine ∧ r.phaseStart + 300000 ≤ s.now + dt ∧ s.params.noInstantTrip ∧ r.phase =
      .pushLeft) ∧
    (∃ (dt : Nat) (r : Routine) (s : State), s.slot = .routine r ∧ r.held = none ∧ r.kind = .lockTest ∧ r.axis = .tilt
      ∧ (s.axis .tilt).mode = .routine ∧ r.phaseStart + 300000 ≤ s.now + dt ∧ s.params.noInstantTrip ∧ r.phase =
      .pushRight ∧ r.outcome = .none) ∧
    (∃ (dt e : Nat) (r : Routine) (s : State), s.slot = .routine r ∧ r.held = none ∧ r.rampSince = some e ∧ e + 2000 ≤
      s.now + dt ∧ (r.phase = .rampLeft ∨ r.phase = .rampRight) ∧ r.kind = .friction ∧ (s.axis r.axis).mode =
      .routine ∧ s.params.noInstantTrip ∧ mag ((s.axis r.axis).meas - r.reference) ≤ 20 ∧ r.rampDrive <
      s.params.driveMax) ∧
    (∃ (dt e : Nat) (r : Routine) (s : State), s.slot = .routine r ∧ r.held = none ∧ r.rampSince = some e ∧ e + 2000 ≤
      s.now + dt ∧ (r.phase = .rampLeft ∨ r.phase = .rampRight) ∧ r.kind = .friction ∧ (s.axis r.axis).mode =
      .routine ∧ s.params.noInstantTrip ∧ mag ((s.axis r.axis).meas - r.reference) ≤ 20 ∧ s.params.driveMax ≤
      r.rampDrive) ∧
    (∃ (dt e : Nat) (r : Routine) (s : State), s.slot = .routine r ∧ r.held = none ∧ r.rampSince = some e ∧ e + 2000 ≤
      s.now + dt ∧ (r.phase = .rampLeft ∨ r.phase = .rampRight) ∧ r.kind = .friction ∧ (s.axis r.axis).mode =
      .routine ∧ s.params.noInstantTrip ∧ 20 < mag ((s.axis r.axis).meas - r.reference) ∧ r.phase = .rampLeft) ∧
    (∃ (dt e : Nat) (r : Routine) (s : State) (left : Int), s.slot = .routine r ∧ r.held = none ∧ r.rampSince = some e
      ∧ e + 2000 ≤ s.now + dt ∧ (r.phase = .rampLeft ∨ r.phase = .rampRight) ∧ r.kind = .friction ∧ (s.axis
      r.axis).mode = .routine ∧ s.params.noInstantTrip ∧ 20 < mag ((s.axis r.axis).meas - r.reference) ∧ r.phase =
      .rampRight ∧ r.axis = .steer ∧ r.v1 = some left ∧ r.outcome = .none) :=
  ⟨⟨300000, routineAt .tilt .lockTest .pushLeft, inRoutine (routineAt .tilt .lockTest .pushLeft), rfl, by decide, by
      decide, by decide, by decide, by decide, quiet, by decide⟩,
    ⟨300000, routineAt .tilt .lockTest .pushRight, inRoutine (routineAt .tilt .lockTest .pushRight), rfl, by decide,
      by decide, by decide, by decide, by decide, quiet, by decide, by decide⟩,
    ⟨2000, 0, { routineAt .steer .friction .rampLeft with rampSince := some 0, reference := 20, rampDrive := 899 },
      inRoutine { routineAt .steer .friction .rampLeft with
      rampSince := some 0, reference := 20, rampDrive := 899 }, rfl, by decide, by decide, by decide, by decide,
      by decide, by decide, quiet, by decide, by decide⟩,
    ⟨2000, 0, { routineAt .steer .friction .rampLeft with rampSince := some 0, reference := 20, rampDrive := 900 },
      inRoutine { routineAt .steer .friction .rampLeft with
      rampSince := some 0, reference := 20, rampDrive := 900 }, rfl, by decide, by decide, by decide, by decide,
      by decide, by decide, quiet, by decide, by decide⟩,
    ⟨2000, 0, { routineAt .steer .friction .rampLeft with rampSince := some 0, reference := 21 }, inRoutine {
      routineAt .steer .friction .rampLeft with rampSince := some 0, reference := 21 }, rfl, by decide, by decide,
      by decide, by decide, by decide, by decide, quiet, by decide, by decide⟩,
    ⟨2000, 0, { routineAt .steer .friction .rampRight with rampSince := some 0, reference := 21, v1 := some 80 },
      inRoutine { routineAt .steer .friction .rampRight with
      rampSince := some 0, reference := 21, v1 := some 80 }, 80, rfl, by decide, by decide, by decide, by decide,
      by decide, by decide, quiet, by decide, by decide, by decide, by decide, by decide⟩⟩

theorem witness_RoutinesSuspendResumeAbort :
    (∃ (p : Port) (r : Routine) (s : State), Ready s p ∧ s.holds p = true ∧ s.slot = .routine r ∧ r.held = none ∧
      s.params.noInstantTrip) ∧
    (∃ (p : Port) (r : Routine) (s : State), Ready s p ∧ s.holds p = true ∧ s.slot = .routine r ∧ r.held ≠ none ∧
      s.still = true ∧ s.wheelsStopped = true ∧ r.phase.awaits = none ∧ s.params.noInstantTrip) ∧
    (∃ (p : Port) (bytes : List Byte) (s : State), bytes.length ≤ 38 ∧ Ready s p ∧ bytes ≠ []) ∧
    (∃ (p : Port) (s : State), Ready s p ∧ s.holds p = true ∧ (∀ r, s.slot ≠ .routine r)) ∧
    (∃ (p : Port) (s : State), Ready s p ∧ s.holds p = true ∧ (∀ r, s.slot = .routine r → r.held = none ∨ s.still =
      false ∨ ∃ w, (s.speed.wheel w).speed ≠ 0)) ∧
    (∃ (p : Port) (s : State), Ready s p ∧ s.holds p = true ∧ (∀ r, s.slot = .routine r → r.held = none ∨ s.still =
      false ∨ ∃ w, (s.speed.wheel w).speed ≠ 0)) :=
  ⟨⟨.a, routineAt .steer .home .sweepLeft, inRoutine (routineAt .steer .home .sweepLeft), ⟨rfl, rfl⟩, by decide, rfl,
      by decide, quiet⟩,
    ⟨.a, { routineAt .steer .home .sweepLeft with held := some 0 }, inRoutine { routineAt .steer .home .sweepLeft with
      held := some 0 }, ⟨rfl, rfl⟩, by decide, rfl, by decide, by decide, by decide, by decide, quiet⟩,
    ⟨.b, [0], base, by decide, ⟨rfl, rfl⟩, by decide⟩,
    ⟨.a, heldBy .a base, ⟨rfl, rfl⟩, by decide, (fun _ h => Slot.noConfusion (show Slot.free = _ from h))⟩,
    ⟨.a, inRoutine (routineAt .steer .home .sweepLeft), ⟨rfl, rfl⟩, by decide, (fun r h => .inl
      (by rw [← Slot.routine.inj h]; rfl))⟩,
    ⟨.a, rolling 20 (inRoutine { routineAt .steer .home .sweepLeft with held := some 0 }), ⟨rfl, rfl⟩, by decide, (fun
      r h => .inr (.inl (by decide)))⟩⟩

theorem witness_RoutinesSuspendResumeAbort_waiting :
    (∃ (p : Port) (r : Routine) (s : State), Ready s p ∧ s.holds p = true ∧ s.slot = .routine r ∧ r.axis = .tilt ∧
      r.held ≠ none ∧ s.still = true ∧ (∀ w, (s.speed.wheel w).speed = 0) ∧ s.params.noInstantTrip ∧ (r.phase =
      .release ∨ r.phase = .engage) ∧ r.phase = .release ∧ s.latch.state = .engaged ∧ s.latch.set = none ∧
      s.latch.first = none ∧ s.latch.closed = true ∧ s.latch.pulse = none) ∧
    (∃ (p : Port) (r : Routine) (s : State), Ready s p ∧ s.holds p = true ∧ s.slot = .routine r ∧ r.axis = .tilt ∧
      r.held ≠ none ∧ s.still = true ∧ (∀ w, (s.speed.wheel w).speed = 0) ∧ s.params.noInstantTrip ∧ (r.phase =
      .release ∨ r.phase = .engage) ∧ (s.latch.state = .releasing ∨ s.latch.state = .engaging) ∧ s.latch.set ≠
      none) ∧
    (∃ (p : Port) (r : Routine) (s : State), Ready s p ∧ s.holds p = true ∧ s.slot = .routine r ∧ r.axis = .tilt ∧
      r.held ≠ none ∧ s.still = true ∧ (∀ w, (s.speed.wheel w).speed = 0) ∧ s.params.noInstantTrip ∧ (r.phase =
      .release ∨ r.phase = .engage) ∧ r.phase = .release ∧ s.latch.state = .released ∧ (r.kind = .home ∨ r.kind =
      .friction)) ∧
    (∃ (p : Port) (r : Routine) (s : State), Ready s p ∧ s.holds p = true ∧ s.slot = .routine r ∧ r.axis = .tilt ∧
      r.held ≠ none ∧ s.still = true ∧ (∀ w, (s.speed.wheel w).speed = 0) ∧ s.params.noInstantTrip ∧ (r.phase =
      .release ∨ r.phase = .engage) ∧ r.phase = .engage ∧ s.latch.state = .engaged ∧ r.outcome ≠ .none ∧ r.kind =
      .home ∧ r.v3 = some 50 ∧ r.outcome = .pass) ∧
    (∃ (p : Port) (r : Routine) (s : State), Ready s p ∧ s.holds p = true ∧ s.slot = .routine r ∧ r.axis = .tilt ∧
      r.held ≠ none ∧ s.still = true ∧ (∀ w, (s.speed.wheel w).speed = 0) ∧ s.params.noInstantTrip ∧ (r.phase =
      .release ∨ r.phase = .engage) ∧ r.phase = .engage ∧ s.latch.state = .engaged ∧ r.kind = .home ∧ r.outcome =
      .failSpan ∧ s.waitingChanges = []) ∧
    (∃ (p : Port) (r : Routine) (s : State), Ready s p ∧ s.holds p = true ∧ s.slot = .routine r ∧ r.axis = .tilt ∧
      r.held ≠ none ∧ s.still = true ∧ (∀ w, (s.speed.wheel w).speed = 0) ∧ s.params.noInstantTrip ∧ (r.phase =
      .release ∨ r.phase = .engage) ∧ r.phase = .engage ∧ s.latch.state = .engaged ∧ r.kind = .friction ∧ r.v1 =
      some 80 ∧ r.v2 = some 90 ∧ r.outcome = .none) ∧
    (∃ (p : Port) (r : Routine) (s : State), Ready s p ∧ s.holds p = true ∧ s.slot = .routine r ∧ r.axis = .tilt ∧
      r.held ≠ none ∧ s.still = true ∧ (∀ w, (s.speed.wheel w).speed = 0) ∧ s.params.noInstantTrip ∧ (r.phase =
      .release ∨ r.phase = .engage) ∧ r.phase = .engage ∧ s.latch.state = .released ∧ s.latch.set = none ∧
      s.latch.first = none ∧ s.latch.closed = false ∧ s.latch.pulse = none) :=
  ⟨⟨.a, { routineAt .tilt .home .release with held := some 0 }, inRoutine ({ routineAt .tilt .home .release with
      held := some 0 }), ⟨rfl, rfl⟩, by decide, rfl, by decide, by decide, by decide,
      (fun w => by cases w <;> decide), quiet, by decide, by decide, by decide, by decide, by decide, by decide,
      by decide⟩,
    ⟨.a, { routineAt .tilt .home .release with held := some 0 }, (resuming .releasing true (routineAt .tilt .home
      .release)).setLatchUnit { base.latch with
      state := .releasing, set := some (setAt .release 1 (.window 120000)) }, ⟨rfl, rfl⟩, by decide, rfl, by
      decide, by decide, by decide, (fun w => by cases w <;> decide), quiet, by decide, by decide, by decide⟩,
    ⟨.a, { routineAt .tilt .home .release with held := some 0 }, resuming .released false (routineAt .tilt .home
      .release), ⟨rfl, rfl⟩, by decide, rfl, by decide, by decide, by decide, (fun w => by cases w <;> decide),
      quiet, by decide, by decide, by decide, by decide⟩,
    ⟨.a, { routineAt .tilt .home .engage with v3 := some 50, outcome := .pass, held := some 0 }, resuming .engaged
      true ({ routineAt .tilt .home .engage with v3 := some 50, outcome := .pass, held := some 0 }), ⟨rfl, rfl⟩,
      by decide, rfl, by decide, by decide, by decide, (fun w => by cases w <;> decide), quiet, by decide, by
      decide, by decide, by decide, by decide, by decide, by decide⟩,
    ⟨.a, { routineAt .tilt .home .engage with outcome := .failSpan, held := some 0 }, (resuming .engaged true ({
      routineAt .tilt .home .engage with outcome := .failSpan, held := some 0 })).setInputs { base.inputs with
      conds := { base.inputs.conds with holdStands := true } }, ⟨rfl, rfl⟩, by decide, rfl, by decide, by decide,
      by decide, (fun w => by cases w <;> decide), quiet, by decide, by decide, by decide, by decide, by decide,
      by decide⟩,
    ⟨.a, { routineAt .tilt .friction .engage with v1 := some 80, v2 := some 90, held := some 0 }, resuming .engaged
      true { routineAt .tilt .friction .engage with v1 := some 80, v2 := some 90 }, ⟨rfl, rfl⟩, by decide, rfl, by
      decide, by decide, by decide, (fun w => by cases w <;> decide), quiet, by decide, by decide, by decide, by
      decide, by decide, by decide, by decide⟩,
    ⟨.a, { routineAt .tilt .home .engage with held := some 0 }, resuming .released false ({ routineAt .tilt .home
      .engage with held := some 0 }), ⟨rfl, rfl⟩, by decide, rfl, by decide, by decide, by decide,
      (fun w => by cases w <;> decide), quiet, by decide, by decide, by decide, by decide, by decide, by decide,
      by decide⟩⟩

theorem witness_ServiceSessionsDriveTheAxis :
    (∃ (p : Port) (bytes : List Byte) (s : State), bytes.length ≤ 38 ∧ Ready s p ∧ (∀ x, bytes ≠ [byteOf (axisNumber
      x)]) ∧ bytes.length ≠ 2 ∧ bytes ≠ []) ∧
    (∃ (p : Port) (s : State), Ready s p ∧ s.holds p = true ∧ s.slot ≠ .free ∧ (∀ y d, s.slot ≠ .service y d)) ∧
    (∃ (p : Port) (x : Axis) (s : State), Ready s p ∧ s.holds p = true ∧ s.slot = .free ∧ (s.path.queue ≠ [] ∨
      s.path.staging ≠ [] ∨ s.path.batchOpen = true ∨ s.grade ≠ .none ∨ s.still = false ∨ (x = .tilt ∧
      s.latch.state ≠ .released ∧ s.latch.state ≠ .unlatchedFault))) ∧
    (∃ (p : Port) (x : Axis) (s : State), Ready s p ∧ s.holds p = true ∧ s.slot = .free ∧ (s.path.queue ≠ [] ∨
      s.path.staging ≠ [] ∨ s.path.batchOpen = true ∨ s.grade ≠ .none ∨ s.still = false ∨ (x = .tilt ∧
      s.latch.state ≠ .released ∧ s.latch.state ≠ .unlatchedFault))) ∧
    (∃ (p : Port) (x : Axis) (s : State), Ready s p ∧ s.holds p = true ∧ s.slot = .free ∧ s.path.queue = [] ∧
      s.path.staging = [] ∧ s.path.batchOpen = false ∧ s.grade = .none ∧ s.still = true ∧ (x = .tilt →
      s.latch.state = .released ∨ s.latch.state = .unlatchedFault) ∧ s.params.noInstantTrip) ∧
    (∃ (dt : Nat) (p : Port) (x : Axis) (d : StandingDrive) (s : State), Ready s p ∧ s.holds p = true ∧ s.slot =
      .service x (some d) ∧ s.params.noInstantTrip ∧ d.expiresAt ≤ s.now + dt) ∧
    (∃ (dt : Nat) (x : Axis) (d : StandingDrive) (s : State), s.slot = .service x (some d) ∧ s.now + dt < d.expiresAt) :=
  ⟨⟨.b, [2], base, by decide, ⟨rfl, rfl⟩, (fun x => by cases x <;> decide), by decide, by decide⟩,
    ⟨.a, (heldBy .a base).setSlot (.storeProgramming 0), ⟨rfl, rfl⟩, by decide, by decide, nofun⟩,
    ⟨.a, .tilt, heldBy .a base, ⟨rfl, rfl⟩, by decide, by decide, (.inr (.inr (.inr (.inr (.inr (by decide))))))⟩,
    ⟨.a, .steer, rolling 20 (heldBy .a base), ⟨rfl, rfl⟩, by decide, by decide, (.inr (.inr (.inr (.inr (.inl (by
      decide))))))⟩,
    ⟨.a, .tilt, latched .unlatchedFault false (heldBy .a base), ⟨rfl, rfl⟩, by decide, by decide, by decide, by
      decide, by decide, by decide, by decide, fun _ => by decide, quiet⟩,
    ⟨100000, .a, .steer, { value := 100, expiresAt := 100000 }, (moded .steer .service (heldBy .a base)).setSlot
      (.service .steer (some { value := 100, expiresAt := 100000 })), ⟨rfl, rfl⟩, by decide, by decide, quiet, by
      decide⟩,
    ⟨99999, .steer, { value := 100, expiresAt := 100000 }, (moded .steer .service (heldBy .a base)).setSlot (.service
      .steer (some { value := 100, expiresAt := 100000 })), by decide, by decide⟩⟩

theorem witness_ConfirmEdgesMoveTheLatch :
    (∃ (s : State), (s.fast = false ∨ s.lockDemand = true ∨ s.grade = .lockdown ∨ s.tilt.mode ≠ .track)) ∧
    (∃ (s : State), s.latch.first = none) ∧
    (∃ (dt e : Nat) (c : Bool) (s : State) (x : AttemptSet), s.latch.first = none ∧ c ≠ s.latch.closed ∧
      s.latch.differSince = some e ∧ e + 5000 ≤ s.now + dt ∧ s.latch.set = some x ∧ (∃ n, x.stage = .window n) ∧
      x.stage ≠ .waitCoil ∧ c = x.direction.target) ∧
    (∃ (dt e : Nat) (c : Bool) (s : State) (x : AttemptSet), s.latch.first = none ∧ c ≠ s.latch.closed ∧
      s.latch.differSince = some e ∧ e + 5000 ≤ s.now + dt ∧ s.latch.set = some x ∧ (x.stage = .waitPulse ∨ (∃ n,
      x.stage = .pause n)) ∧ c = x.direction.target) ∧
    (∃ (dt e : Nat) (c : Bool) (s : State) (x : AttemptSet), s.latch.first = none ∧ c ≠ s.latch.closed ∧
      s.latch.differSince = some e ∧ e + 5000 ≤ s.now + dt ∧ s.latch.set = some x ∧ x.stage ≠ .waitCoil ∧ c =
      x.direction.target ∧ s.LatchAlone ∧ x.direction = .engage ∧ s.fast = false ∧ s.permit = false) ∧
    (∃ (dt e : Nat) (c : Bool) (s : State) (x : AttemptSet), s.latch.first = none ∧ c ≠ s.latch.closed ∧
      s.latch.differSince = some e ∧ e + 5000 ≤ s.now + dt ∧ s.latch.set = some x ∧ x.stage ≠ .waitCoil ∧ c =
      x.direction.target ∧ s.LatchAlone ∧ x.direction = .release ∧ (s.params.uprightWindow < mag s.tilt.meas ∨
      (s.slow = false ∧ s.grade ≠ .lockdown))) ∧
    (∃ (dt e : Nat) (c : Bool) (s : State) (x : AttemptSet), s.latch.first = none ∧ c ≠ s.latch.closed ∧
      s.latch.differSince = some e ∧ e + 5000 ≤ s.now + dt ∧ s.latch.set = some x ∧ (x.stage = .waitCoil ∨ c ≠
      x.direction.target) ∧ s.params.noInstantTrip ∧ (s.latch.state = .releasing ∨ s.latch.state = .engaging)) ∧
    (∃ (dt e : Nat) (c : Bool) (s : State), s.latch.first = none ∧ c ≠ s.latch.closed ∧ s.latch.differSince = some e ∧
      e + 5000 ≤ s.now + dt ∧ s.latch.set = none ∧ (s.latch.state = .engaged ∨ s.latch.state = .releasePreload) ∧
      c = false ∧ s.latch.pulsing .release = false ∧ s.LatchAlone ∧ s.fast = false) ∧
    (∃ (dt e : Nat) (c : Bool) (s : State), s.latch.first = none ∧ c ≠ s.latch.closed ∧ s.latch.differSince = some e ∧
      e + 5000 ≤ s.now + dt ∧ s.latch.set = none ∧ (s.latch.state = .engaged ∨ s.latch.state = .releasePreload) ∧
      c = false ∧ s.latch.pulsing .release = false ∧ s.LatchAlone ∧ s.fast = false) ∧
    (∃ (dt e : Nat) (c : Bool) (s : State), s.latch.first = none ∧ c ≠ s.latch.closed ∧ s.latch.differSince = some e ∧
      e + 5000 ≤ s.now + dt ∧ s.latch.set = none ∧ s.latch.state = .jammed ∧ c = false ∧ s.latch.lastPulse
      .release = true ∧ s.LatchAlone ∧ (s.params.uprightWindow < mag s.tilt.meas ∨ (s.slow = false ∧ s.grade ≠
      .lockdown))) ∧
    (∃ (dt e : Nat) (c : Bool) (s : State), s.latch.first = none ∧ c ≠ s.latch.closed ∧ s.latch.differSince = some e ∧
      e + 5000 ≤ s.now + dt ∧ s.latch.set = none ∧ s.latch.state = .jammed ∧ c = false ∧ s.latch.pulsing .release
      = false ∧ s.LatchAlone ∧ s.fast = false) ∧
    (∃ (dt e : Nat) (c : Bool) (s : State), s.latch.first = none ∧ c ≠ s.latch.closed ∧ s.latch.differSince = some e ∧
      e + 5000 ≤ s.now + dt ∧ s.latch.set = none ∧ s.latch.state = .released ∧ c = true ∧ s.latch.pulsing .engage
      = false ∧ s.LatchAlone ∧ s.permit = false) ∧
    (∃ (dt e : Nat) (c : Bool) (s : State), s.latch.first = none ∧ c ≠ s.latch.closed ∧ s.latch.differSince = some e ∧
      e + 5000 ≤ s.now + dt ∧ s.latch.set = none ∧ s.latch.state = .unlatchedFault ∧ c = true ∧ s.LatchAlone ∧
      s.fast = false ∧ s.permit = false) ∧
    (∃ (dt e : Nat) (c : Bool) (s : State), s.latch.first = none ∧ c ≠ s.latch.closed ∧ s.latch.differSince = some e ∧
      e + 5000 ≤ s.now + dt ∧ s.latch.set = none ∧ (s.latch.state = .engaged ∨ s.latch.state = .releasePreload) ∧
      c = false ∧ s.latch.pulsing .release = false ∧ s.LatchAlone ∧ s.fast = false ∧ s.combined = true) ∧
    (∃ (dt e : Nat) (c : Bool) (s : State), s.latch.first = none ∧ c ≠ s.latch.closed ∧ s.latch.differSince = some e ∧
      s.now + dt < e + 5000) ∧
    (∃ (dt e : Nat) (c : Bool) (s : State) (x : AttemptSet) (r : Routine), s.latch.first = none ∧ c ≠ s.latch.closed ∧
      s.latch.differSince = some e ∧ e + 5000 ≤ s.now + dt ∧ s.latch.set = some x ∧ (∃ n, x.stage = .window n) ∧ c
      = x.direction.target ∧ s.params.noInstantTrip ∧ s.slot = .routine r ∧ r.axis = .tilt ∧ r.held = none ∧
      x.direction = .release ∧ r.phase = .release ∧ (r.kind = .home ∨ r.kind = .friction)) ∧
    (∃ (dt e : Nat) (c : Bool) (s : State) (x : AttemptSet) (r : Routine), s.latch.first = none ∧ c ≠ s.latch.closed ∧
      s.latch.differSince = some e ∧ e + 5000 ≤ s.now + dt ∧ s.latch.set = some x ∧ (∃ n, x.stage = .window n) ∧ c
      = x.direction.target ∧ s.params.noInstantTrip ∧ s.slot = .routine r ∧ r.axis = .tilt ∧ r.held = none ∧
      x.direction = .engage ∧ r.phase = .engage ∧ r.v3 = some 100 ∧ r.kind = .home ∧ r.outcome = .pass) ∧
    (∃ (dt e : Nat) (c : Bool) (s : State) (x : AttemptSet) (r : Routine), s.latch.first = none ∧ c ≠ s.latch.closed ∧
      s.latch.differSince = some e ∧ e + 5000 ≤ s.now + dt ∧ s.latch.set = some x ∧ (∃ n, x.stage = .window n) ∧ c
      = x.direction.target ∧ s.params.noInstantTrip ∧ s.slot = .routine r ∧ r.axis = .tilt ∧ r.held = none ∧
      x.direction = .engage ∧ r.phase = .engage ∧ r.kind = .home ∧ r.outcome = .failSpan) ∧
    (∃ (dt e : Nat) (c : Bool) (s : State) (x : AttemptSet) (r : Routine), s.latch.first = none ∧ c ≠ s.latch.closed ∧
      s.latch.differSince = some e ∧ e + 5000 ≤ s.now + dt ∧ s.latch.set = some x ∧ (∃ n, x.stage = .window n) ∧ c
      = x.direction.target ∧ s.params.noInstantTrip ∧ s.slot = .routine r ∧ r.axis = .tilt ∧ r.held = none ∧
      x.direction = .engage ∧ r.phase = .engage ∧ r.kind = .friction ∧ r.v1 = some 60 ∧ r.v2 = some 80 ∧ r.outcome
      = .none) ∧
    (∃ (dt e : Nat) (c : Bool) (s : State) (x : AttemptSet) (r : Routine), s.latch.first = none ∧ c ≠ s.latch.closed ∧
      s.latch.differSince = some e ∧ e + 5000 ≤ s.now + dt ∧ s.latch.set = some x ∧ (∃ n, x.stage = .window n) ∧ c
      = x.direction.target ∧ s.params.noInstantTrip ∧ s.slot = .routine r ∧ r.axis = .tilt ∧ r.held = none ∧
      x.direction = .engage ∧ r.phase = .engage ∧ (∀ i, (s.params.combiner i).action = .none) ∧ s.waitingChanges =
      [] ∧ r.outcome ≠ .none) ∧
    (∃ (c : Bool) (s : State), s.latch.first = none ∧ c ≠ s.latch.closed ∧ s.latch.differSince = none) :=
  ⟨⟨base, by decide⟩,
    ⟨base, by decide⟩,
    ⟨5000, 0, false, freed (differing (attempting .releasing true (some (setAt .release 1 (.window 120000))) none)),
      setAt .release 1 (.window 120000), by decide, by decide, by decide, by decide, rfl, ⟨120000, rfl⟩, by
      decide, by decide⟩,
    ⟨5000, 0, true, differing (attempting .engaging false (some (setAt .engage 1 .waitPulse)) none), setAt .engage 1
      .waitPulse, by decide, by decide, by decide, by decide, rfl, .inl rfl, by decide⟩,
    ⟨5000, 0, true, freed (differing (attempting .engaging false (some (setAt .engage 1 (.pause 120000))) none)),
      setAt .engage 1 (.pause 120000), by decide, by decide, by decide, by decide, rfl, by decide, by decide,
      (alone _ rfl rfl), by decide, by decide, by decide⟩,
    ⟨5000, 0, false, (rolling 500 (freed (differing (attempting .releasing true (some (setAt .release 1 (.window
      120000))) none)))).setLatchUnit { (freed (differing (attempting .releasing true (some (setAt .release 1
      (.window 120000))) none))).latch with differSince := some 0 }, setAt .release 1 (.window 120000), by decide,
      by decide, by decide, by decide, rfl, by decide, by decide, (alone _ rfl rfl), by decide, by decide⟩,
    ⟨5000, 0, true, differing (attempting .releasing false (some (setAt .release 1 (.window 120000))) none), setAt
      .release 1 (.window 120000), by decide, by decide, by decide, by decide, rfl, by decide, quiet, by decide⟩,
    ⟨5000, 0, false, differing (freed base), by decide, by decide, by decide, by decide, by decide, by decide, by
      decide, by decide, (alone _ rfl rfl), by decide⟩,
    ⟨5000, 0, false, differing (freed (attempting .releasePreload true none none)), by decide, by decide, by decide,
      by decide, by decide, by decide, by decide, by decide, (alone _ rfl rfl), by decide⟩,
    ⟨5000, 0, false, rolling 500 (differing (freed (attempting .jammed true none (some { pulseAt .hold 60 with
      lastOfFailed := true })))), by decide, by decide, by decide, by decide, by decide, by decide, by decide, by
      decide, (alone _ rfl rfl), by decide⟩,
    ⟨5000, 0, false, differing (freed (attempting .jammed true none none)), by decide, by decide, by decide, by
      decide, by decide, by decide, by decide, by decide, (alone _ rfl rfl), by decide⟩,
    ⟨5000, 0, true, rolling 2500 (differing (freed (attempting .released false none none))), by decide, by decide, by
      decide, by decide, by decide, by decide, by decide, by decide, (alone _ rfl rfl), by decide⟩,
    ⟨5000, 0, true, differing (freed (attempting .unlatchedFault false none none)), by decide, by decide, by decide,
      by decide, by decide, by decide, by decide, (alone _ rfl rfl), by decide, by decide⟩,
    ⟨5000, 0, false, differing base, by decide, by decide, by decide, by decide, by decide, by decide, by decide, by
      decide, (aloneAtRest _ rfl rfl rfl (fun i => by cases i <;> decide)), by decide, by decide⟩,
    ⟨4999, 0, false, differing base, by decide, by decide, by decide, by decide⟩,
    ⟨5000, 0, false, awaiting .release (routineAt .tilt .home .release), setAt .release 1 (.window 120000), routineAt
      .tilt .home .release, by decide, by decide, by decide, by decide, rfl, ⟨120000, rfl⟩, by decide, quiet, rfl,
      by decide, by decide, by decide, by decide, by decide⟩,
    ⟨5000, 0, true, awaiting .engage ({ routineAt .tilt .home .engage with v3 := some 100, outcome := .pass }), setAt
      .engage 1 (.window 120000), { routineAt .tilt .home .engage with v3 := some 100, outcome := .pass }, by
      decide, by decide, by decide, by decide, rfl, ⟨120000, rfl⟩, by decide, quiet, rfl, by decide, by decide, by
      decide, by decide, by decide, by decide, by decide⟩,
    ⟨5000, 0, true, awaiting .engage ({ routineAt .tilt .home .engage with v3 := some 100, outcome := .failSpan }),
      setAt .engage 1 (.window 120000), { routineAt .tilt .home .engage with
      v3 := some 100, outcome := .failSpan }, by decide, by decide, by decide, by decide, rfl, ⟨120000, rfl⟩, by
      decide, quiet, rfl, by decide, by decide, by decide, by decide, by decide, by decide⟩,
    ⟨5000, 0, true, awaiting .engage ({ routineAt .tilt .friction .engage with v1 := some 60, v2 := some 80 }), setAt
      .engage 1 (.window 120000), { routineAt .tilt .friction .engage with v1 := some 60, v2 := some 80 }, by
      decide, by decide, by decide, by decide, rfl, ⟨120000, rfl⟩, by decide, quiet, rfl, by decide, by decide, by
      decide, by decide, by decide, by decide, by decide, by decide⟩,
    ⟨5000, 0, true, noChange (awaiting .engage ({ routineAt .tilt .home .engage with
      v3 := some 100, outcome := .pass })), setAt .engage 1 (.window 120000), { routineAt .tilt .home .engage with
      v3 := some 100, outcome := .pass }, by decide, by decide, by decide, by decide, rfl, ⟨120000, rfl⟩, by
      decide, quiet, rfl, by decide, by decide, by decide, by decide, (fun i => by cases i <;> decide), by decide,
      by decide⟩,
    ⟨false, base, by decide, by decide, by decide⟩⟩

theorem witness_PulsesRunToTheirEnd :
    (∃ (dt e : Nat) (s : State), s.latch.preloadEnd = some e ∧ s.latch.state = .releasePreload ∧ e ≤ s.now + dt ∧
      s.latch.closed = true ∧ s.latch.pulse = none ∧ s.params.noInstantTrip) ∧
    (∃ (dt e : Nat) (s : State), s.latch.preloadEnd = some e ∧ (s.latch.state ≠ .releasePreload ∨ s.now + dt < e)) ∧
    (∃ (dt : Nat) (q : Pulse) (s : State), s.latch.pulse = some q ∧ q.phase = .pullIn ∧ q.phaseEnd ≤ s.now + dt ∧
      q.holdMs ≠ 0) ∧
    (∃ (dt : Nat) (q : Pulse) (s : State) (c : Instr) (x : AttemptSet), s.latch.pulse = some q ∧ ((c = .pullinEnd dt ∧
      q.phase = .pullIn ∧ q.holdMs = 0) ∨ (c = .pulseEnd dt ∧ q.phase = .hold)) ∧ q.phaseEnd ≤ s.now + dt ∧
      (s.latch.state = .releasing ∨ s.latch.state = .engaging) ∧ s.latch.set = some x ∧ x.stage = .waitPulse) ∧
    (∃ (dt : Nat) (q : Pulse) (s : State) (c : Instr) (x : AttemptSet), s.latch.pulse = some q ∧ ((c = .pullinEnd dt ∧
      q.phase = .pullIn ∧ q.holdMs = 0) ∨ (c = .pulseEnd dt ∧ q.phase = .hold)) ∧ q.phaseEnd ≤ s.now + dt ∧
      (s.latch.state = .releasing ∨ s.latch.state = .engaging) ∧ s.latch.set = some x ∧ x.stage = .waitCoil ∧
      s.latch.closed ≠ x.direction.target) ∧
    (∃ (dt : Nat) (q : Pulse) (s : State), s.latch.pulse = some q ∧ (q.phase ≠ .pullIn ∨ s.now + dt < q.phaseEnd) ∧
      (q.phase ≠ .hold ∨ s.now + dt < q.phaseEnd)) ∧
    (∃ (dt : Nat) (q : Pulse) (s : State) (c : Instr), s.latch.pulse = some q ∧ ((c = .pullinEnd dt ∧ q.phase =
      .pullIn ∧ q.holdMs = 0) ∨ (c = .pulseEnd dt ∧ q.phase = .hold)) ∧ q.phaseEnd ≤ s.now + dt ∧ s.latch.set =
      none ∧ s.params.noInstantTrip ∧ s.NotWaiting ∧ s.latch.state = .engaged ∧ s.fast = false ∧ s.permit = false) ∧
    (∃ (dt : Nat) (q : Pulse) (s : State) (c : Instr), s.latch.pulse = some q ∧ ((c = .pullinEnd dt ∧ q.phase =
      .pullIn ∧ q.holdMs = 0) ∨ (c = .pulseEnd dt ∧ q.phase = .hold)) ∧ q.phaseEnd ≤ s.now + dt ∧ s.latch.set =
      none ∧ s.params.noInstantTrip ∧ s.NotWaiting ∧ s.latch.state = .released ∧ s.slow = false ∧ s.grade ≠
      .lockdown) ∧
    (∃ (dt : Nat) (q : Pulse) (s : State) (c : Instr), s.latch.pulse = some q ∧ ((c = .pullinEnd dt ∧ q.phase =
      .pullIn ∧ q.holdMs = 0) ∨ (c = .pulseEnd dt ∧ q.phase = .hold)) ∧ q.phaseEnd ≤ s.now + dt ∧ s.latch.set =
      none ∧ s.params.noInstantTrip ∧ s.NotWaiting ∧ s.latch.state = .unlatchedFault ∧ s.fast = false) ∧
    (∃ (dt : Nat) (q : Pulse) (s : State) (c : Instr), s.latch.pulse = some q ∧ ((c = .pullinEnd dt ∧ q.phase =
      .pullIn ∧ q.holdMs = 0) ∨ (c = .pulseEnd dt ∧ q.phase = .hold)) ∧ q.phaseEnd ≤ s.now + dt ∧ s.latch.set =
      none ∧ s.params.noInstantTrip ∧ s.NotWaiting ∧ s.latch.state = .jammed ∧ s.slow = false) ∧
    (∃ (dt : Nat) (q : Pulse) (s : State) (c : Instr), s.latch.pulse = some q ∧ ((c = .pullinEnd dt ∧ q.phase =
      .pullIn ∧ q.holdMs = 0) ∨ (c = .pulseEnd dt ∧ q.phase = .hold)) ∧ q.phaseEnd ≤ s.now + dt ∧ s.latch.set =
      none ∧ s.params.noInstantTrip ∧ s.NotWaiting ∧ s.latch.state = .jammed ∧ s.slow = true ∧ s.latch.closed =
      true ∧ s.latch.first = none ∧ s.fast = false ∧ s.permit = false ∧ s.waitingChanges = []) :=
  ⟨⟨40000, 40000, base.setLatchUnit { base.latch with state := .releasePreload, preloadEnd := some 40000 }, by
      decide, by decide, by decide, by decide, by decide, quiet⟩,
    ⟨39999, 40000, base.setLatchUnit { base.latch with state := .releasePreload, preloadEnd := some 40000 }, by
      decide, by decide⟩,
    ⟨30000, pulseAt .pullIn 60, attempting .releasing true none (some (pulseAt .pullIn 60)), by decide, by decide, by
      decide, by decide⟩,
    ⟨30000, pulseAt .pullIn 0, attempting .releasing true (some (setAt .release 1 .waitPulse)) (some (pulseAt .pullIn
      0)), .pullinEnd 30000, setAt .release 1 .waitPulse, by decide, by decide, by decide, by decide, rfl, by
      decide⟩,
    ⟨30000, pulseAt .hold 60, attempting .engaging false (some (setAt .engage 1 .waitCoil)) (some (pulseAt .hold 60)),
      .pulseEnd 30000, setAt .engage 1 .waitCoil, by decide, by decide, by decide, by decide, rfl, by decide, by
      decide⟩,
    ⟨29999, pulseAt .hold 60, attempting .releasing true none (some (pulseAt .hold 60)), by decide, by decide, by
      decide⟩,
    ⟨30000, pulseAt .hold 60, attempting .engaged true none (some (pulseAt .hold 60)), .pulseEnd 30000, rfl, by
      decide, by decide, by decide, quiet, waitsFree _ rfl, by decide, by decide, by decide⟩,
    ⟨30000, pulseAt .hold 60, rolling 500 (attempting .released false none (some (pulseAt .hold 60))), .pulseEnd
      30000, rfl, by decide, by decide, by decide, quiet, waitsFree _ rfl, by decide, by decide, by decide⟩,
    ⟨30000, pulseAt .hold 60, attempting .unlatchedFault false none (some (pulseAt .hold 60)), .pulseEnd 30000, rfl,
      by decide, by decide, by decide, quiet, waitsFree _ rfl, by decide, by decide⟩,
    ⟨30000, pulseAt .hold 60, rolling 500 (attempting .jammed true none (some (pulseAt .hold 60))), .pulseEnd 30000,
      rfl, by decide, by decide, by decide, quiet, waitsFree _ rfl, by decide, by decide⟩,
    ⟨30000, pulseAt .hold 60, (attempting .jammed true none (some (pulseAt .hold 60))).handOn, .pulseEnd 30000, rfl,
      by decide, by decide, by decide, quiet, waitsFree _ rfl, by decide, by decide, by decide, by decide, by
      decide, by decide, by decide⟩⟩

theorem witness_LatchDecidesRetriesAndFails :
    (∃ (dt e : Nat) (x : AttemptSet) (s : State), s.latch.set = some x ∧ e ≤ s.now + dt ∧ (s.latch.state = .releasing
      ∨ s.latch.state = .engaging) ∧ x.stage = .window e ∧ x.attempt < 3 ∧ s.latch.pulse = none) ∧
    (∃ (dt e : Nat) (x : AttemptSet) (s : State), s.latch.set = some x ∧ e ≤ s.now + dt ∧ (s.latch.state = .releasing
      ∨ s.latch.state = .engaging) ∧ x.stage = .window e ∧ x.attempt < 3 ∧ s.latch.pulse ≠ none) ∧
    (∃ (dt e : Nat) (x : AttemptSet) (s : State), s.latch.set = some x ∧ e ≤ s.now + dt ∧ (s.latch.state = .releasing
      ∨ s.latch.state = .engaging) ∧ x.stage = .window e ∧ 3 ≤ x.attempt ∧ x.direction = .release ∧ s.LatchAlone ∧
      (s.slow = false ∨ s.latch.pulsing .release = true) ∧ x.origin ≠ .permit ∧ s.noRoutine ∧
      s.params.noInstantTrip) ∧
    (∃ (dt e : Nat) (x : AttemptSet) (s : State), s.latch.set = some x ∧ e ≤ s.now + dt ∧ (s.latch.state = .releasing
      ∨ s.latch.state = .engaging) ∧ x.stage = .window e ∧ 3 ≤ x.attempt ∧ x.direction = .release ∧ s.LatchAlone ∧
      s.slow = true ∧ s.latch.closed = true ∧ s.latch.pulsing .release = false ∧ s.latch.first = none ∧ s.fast =
      false ∧ s.permit = false) ∧
    (∃ (dt e : Nat) (x : AttemptSet) (s : State), s.latch.set = some x ∧ e ≤ s.now + dt ∧ (s.latch.state = .releasing
      ∨ s.latch.state = .engaging) ∧ x.stage = .window e ∧ 3 ≤ x.attempt ∧ x.direction = .engage ∧ s.LatchAlone ∧
      s.fast = false) ∧
    (∃ (dt e : Nat) (x : AttemptSet) (s : State) (p : Port), s.latch.set = some x ∧ e ≤ s.now + dt ∧ (s.latch.state =
      .releasing ∨ s.latch.state = .engaging) ∧ x.stage = .window e ∧ 3 ≤ x.attempt ∧ x.direction = .release ∧
      x.origin = .permit ∧ s.latch.permitOf = some p) ∧
    (∃ (dt e : Nat) (x : AttemptSet) (s : State) (r : Routine), s.latch.set = some x ∧ e ≤ s.now + dt ∧ (s.latch.state
      = .releasing ∨ s.latch.state = .engaging) ∧ x.stage = .window e ∧ 3 ≤ x.attempt ∧ s.slot = .routine r ∧
      r.phase.awaits = some x.direction.reached ∧ s.params.noInstantTrip) ∧
    (∃ (dt e : Nat) (x : AttemptSet) (s : State), s.latch.set = some x ∧ e ≤ s.now + dt ∧ (s.latch.state = .releasing
      ∨ s.latch.state = .engaging) ∧ x.stage = .pause e ∧ s.abandons x = false ∧ s.latch.pulse = none ∧
      s.latch.closed ≠ x.direction.target) ∧
    (∃ (dt e : Nat) (x : AttemptSet) (s : State), s.latch.set = some x ∧ e ≤ s.now + dt ∧ (s.latch.state = .releasing
      ∨ s.latch.state = .engaging) ∧ x.stage = .pause e ∧ s.abandons x = true ∧ s.LatchAlone ∧ s.permit = false ∧
      (s.fast = false ∨ s.lockDemand = true ∨ s.grade = .lockdown ∨ s.tilt.mode ≠ .track)) ∧
    (∃ (dt e : Nat) (x : AttemptSet) (s : State), s.latch.set = some x ∧ e ≤ s.now + dt ∧ (s.latch.state = .releasing
      ∨ s.latch.state = .engaging) ∧ x.stage = .pause e ∧ s.abandons x = true ∧ s.LatchAlone ∧ s.permit = false ∧
      s.fast = true ∧ s.lockDemand = false ∧ s.tilt.mode ≠ .track) ∧
    (∃ (p : Port) (s : State), Ready s p ∧ s.LatchAlone ∧ s.latch.first = none ∧ s.latch.state = .engaged ∧
      s.latch.set = none ∧ s.slot.onTilt = false ∧ s.latch.uncommanded = false ∧ s.fast = true ∧ s.tilt.mode =
      .track ∧ s.grade ≠ .lockdown ∧ s.latch.item (otherPort p) = .none ∧ s.combined = false ∧ 0 <
      s.params.preloadMs ∧ s.slow = false) ∧
    (∃ (p : Port) (s : State), Ready s p ∧ s.LatchAlone ∧ s.latch.first = none ∧ s.latch.state = .engaged ∧
      s.latch.set = none ∧ s.slot.onTilt = false ∧ s.latch.uncommanded = false ∧ s.fast = true ∧ s.tilt.mode =
      .track ∧ s.grade ≠ .lockdown ∧ s.latch.item (otherPort p) = .none ∧ s.combined = false ∧ s.params.preloadMs
      = 0 ∧ s.latch.closed = true ∧ s.latch.pulse = none) ∧
    (∃ (p : Port) (s : State), Ready s p ∧ s.LatchAlone ∧ s.latch.first = none ∧ s.latch.state = .released ∧
      s.latch.set = none ∧ s.slot.onTilt = false ∧ s.latch.closed = false ∧ s.latch.pulse = none ∧ ((s.slow = true
      ∧ s.latch.item (otherPort p) ≠ .permit) ∨ s.grade = .lockdown) ∧ mag s.tilt.meas ≤ s.params.uprightWindow ∧
      mag s.solve.phiS ≤ s.params.uprightWindow) ∧
    (∃ (p : Port) (s : State), Ready s p ∧ s.LatchAlone ∧ s.latch.first = none ∧ s.latch.state = .jammed ∧ s.slow =
      true ∧ s.latch.closed = true ∧ s.latch.pulsing .release = false ∧ s.fast = false ∧ s.latch.item (otherPort
      p) ≠ .permit) ∧
    (∃ (p : Port) (s : State), Ready s p ∧ s.LatchAlone ∧ s.latch.first = none ∧ s.latch.state = .unlatchedFault ∧
      s.latch.set = none ∧ s.slot.onTilt = false ∧ s.fast = true ∧ s.slow = false ∧ s.tilt.mode = .track ∧ s.grade
      ≠ .lockdown ∧ s.latch.item (otherPort p) ≠ .lock ∧ s.combined = false) ∧
    (∃ (p : Port) (s : State), Ready s p ∧ s.LatchAlone ∧ s.latch.first = none ∧ s.latch.state = .releasePreload ∧
      s.latch.set = none) ∧
    (∃ (p : Port) (s : State), Ready s p ∧ s.LatchAlone ∧ s.latch.first = none ∧ s.latch.state = .unlatchedFault ∧
      s.latch.set = none ∧ s.slot.onTilt = false ∧ (s.slow = true ∨ s.grade = .lockdown) ∧ mag s.tilt.meas ≤
      s.params.uprightWindow ∧ mag s.solve.phiS ≤ s.params.uprightWindow ∧ s.latch.closed = false ∧ s.latch.pulse
      = none) ∧
    (∃ (p : Port) (s : State), Ready s p ∧ s.LatchAlone ∧ s.latch.first = none ∧ s.latch.state = .unlatchedFault ∧
      s.latch.set = none ∧ s.slot.onTilt = false ∧ ((s.slow = false ∧ s.grade ≠ .lockdown) ∨
      s.params.uprightWindow < mag s.tilt.meas ∨ s.params.uprightWindow < mag s.solve.phiS)) ∧
    (∃ (p : Port) (s : State), Ready s p ∧ s.LatchAlone ∧ s.latch.first = none ∧ s.latch.state = .engaged ∧
      s.latch.set = none ∧ s.slot.onTilt = false ∧ s.holds p = true ∧ s.inputs.lift.active = true ∧ s.still = true
      ∧ s.grade = .none ∧ s.latch.item (otherPort p) = .none ∧ s.tilt.mode = .track ∧ s.latch.closed = true ∧
      s.latch.pulse = none) ∧
    (∃ (p : Port) (s : State), Ready s p ∧ s.LatchAlone ∧ s.latch.first = none ∧ s.latch.state = .releasePreload ∧
      s.latch.set = none ∧ s.waitingChanges = []) ∧
    (∃ (dt e : Nat) (x : AttemptSet) (s : State), s.latch.set = some x ∧ e ≤ s.now + dt ∧ (s.latch.state = .releasing
      ∨ s.latch.state = .engaging) ∧ x.stage = .window e ∧ 3 ≤ x.attempt ∧ x.direction = .release ∧ s.LatchAlone ∧
      (s.slow = false ∨ s.latch.pulsing .release = true) ∧ s.combined = true) ∧
    (∃ (p : Port) (s : State), Ready s p ∧ s.LatchAlone ∧ s.latch.first = none ∧ s.latch.state = .engaged ∧
      s.latch.set = none ∧ s.slot.onTilt = false ∧ s.latch.uncommanded = false ∧ s.fast = true ∧ s.tilt.mode =
      .track ∧ s.grade ≠ .lockdown ∧ s.latch.item (otherPort p) = .none ∧ s.combined = false ∧ 0 <
      s.params.preloadMs ∧ s.slow = false ∧ (∃ i, (s.params.combiner i).action = .lockHold)) ∧
    (∃ (p : Port) (s : State), Ready s p ∧ s.LatchAlone ∧ s.latch.first = none ∧ s.combined = true ∧ s.latch.set =
      none ∧ s.latch.state = .engaged ∧ s.latch.item (otherPort p) ≠ .permit) ∧
    (∃ (p : Port) (s : State), Ready s p ∧ s.LatchAlone ∧ s.latch.first = none ∧ s.combined = true ∧ s.latch.set =
      none ∧ s.latch.state = .releasePreload ∧ s.latch.item (otherPort p) ≠ .permit) ∧
    (∃ (p : Port) (s : State), Ready s p ∧ s.LatchAlone ∧ s.latch.first = none ∧ s.combined = true ∧ s.latch.set =
      none ∧ s.latch.state = .unlatchedFault) ∧
    (∃ (p : Port) (s : State), Ready s p ∧ s.LatchAlone ∧ s.latch.first = none ∧ s.combined = true ∧ s.latch.state =
      .engaged ∧ s.latch.set = none ∧ s.slot.onTilt = false ∧ s.holds p = true ∧ s.inputs.lift.active = true ∧
      s.still = true ∧ s.grade = .none ∧ s.latch.item (otherPort p) = .none ∧ s.tilt.mode = .track ∧
      s.latch.closed = true ∧ s.latch.pulse = none) ∧
    (∃ (s t : State), s.decideLatch = some t ∧ t.latch.state = .releasePreload) ∧
    (∃ (s t : State), s.params.Valid ∧ s.MedianTaken ∧ step s = .next t ∧ s.latch.state ≠ .releasePreload ∧
      t.latch.state = .releasePreload) :=
  ⟨⟨120000, 120000, setAt .release 2 (.window 120000), attempting .releasing true (some (setAt .release 2 (.window
      120000))) none, rfl, by decide, by decide, by decide, by decide, by decide⟩,
    ⟨120000, 120000, setAt .release 1 (.window 120000), attempting .releasing true (some (setAt .release 1 (.window
      120000))) (some (pulseAt .hold 60)), rfl, by decide, by decide, by decide, by decide, by decide⟩,
    ⟨120000, 120000, setAt .release 3 (.window 120000), freed (attempting .releasing true (some (setAt .release 3
      (.window 120000))) (some (pulseAt .hold 60))), rfl, by decide, by decide, by decide, by decide, by decide,
      (alone _ rfl rfl), by decide, by decide, rfl, (alone _ rfl rfl).trips⟩,
    ⟨120000, 120000, setAt .release 3 (.window 120000), freed (attempting .releasing true (some (setAt .release 3
      (.window 120000))) none), rfl, by decide, by decide, by decide, by decide, by decide, (alone _ rfl rfl), by
      decide, by decide, by decide, by decide, by decide, by decide⟩,
    ⟨120000, 120000, setAt .engage 3 (.window 120000), freed (attempting .engaging false (some (setAt .engage 3
      (.window 120000))) none), rfl, by decide, by decide, by decide, by decide, by decide, (alone _ rfl rfl), by
      decide⟩,
    ⟨120000, 120000, { setAt .release 3 (.window 120000) with origin := .permit }, base.setLatchUnit { base.latch with
      state := .releasing, set := some { setAt .release 3 (.window 120000) with origin := .permit }, itemA := .permit, permitOf := some .a },
      .a, rfl, by decide, by decide, by decide, by decide, by decide, by decide, by decide⟩,
    ⟨120000, 120000, setAt .release 3 (.window 120000), (inRoutine (routineAt .tilt .home .release)).setLatchUnit {
      base.latch with state := .releasing, set := some (setAt .release 3 (.window 120000)) }, routineAt .tilt
      .home .release, rfl, by decide, by decide, by decide, by decide, rfl, rfl, quiet⟩,
    ⟨50000, 50000, setAt .engage 1 (.pause 50000), attempting .engaging false (some (setAt .engage 1 (.pause 50000)))
      none, rfl, by decide, by decide, by decide, by decide, by decide, by decide⟩,
    ⟨50000, 50000, setAt .release 1 (.pause 50000), freed (attempting .releasing true (some (setAt .release 1 (.pause
      50000))) none), rfl, by decide, by decide, by decide, by decide, (alone _ rfl rfl), by decide, by decide⟩,
    ⟨50000, 50000, setAt .release 1 (.pause 50000), rolling 500 (freed (attempting .releasing true (some (setAt
      .release 1 (.pause 50000))) none)), rfl, by decide, by decide, by decide, by decide, (alone _ rfl rfl), by
      decide, by decide, by decide, by decide⟩,
    ⟨.a, rolling 500 (moded .tilt .track (freed base)), ⟨rfl, rfl⟩, (alone _ rfl rfl), by decide, by decide, by
      decide, by decide, by decide, by decide, by decide, by decide, by decide, by decide, by decide, by decide⟩,
    ⟨.a, rolling 500 (moded .tilt .track (noPreload (freed base))), ⟨rfl, rfl⟩, (aloneNoPreload _ rfl rfl), by decide,
      by decide, by decide, by decide, by decide, by decide, by decide, by decide, by decide, by decide, by
      decide, by decide, by decide⟩,
    ⟨.b, latched .released false (freed base), ⟨rfl, rfl⟩, (alone _ rfl rfl), by decide, by decide, by decide, by
      decide, by decide, by decide, by decide, by decide, by decide⟩,
    ⟨.a, latched .jammed true (freed base), ⟨rfl, rfl⟩, (alone _ rfl rfl), by decide, by decide, by decide, by decide,
      by decide, by decide, by decide⟩,
    ⟨.a, rolling 500 (latched .unlatchedFault false (moded .tilt .track (freed base))), ⟨rfl, rfl⟩, (alone _ rfl rfl),
      by decide, by decide, by decide, by decide, by decide, by decide, by decide, by decide, by decide, by
      decide⟩,
    ⟨.b, latched .releasePreload true (freed base), ⟨rfl, rfl⟩, (alone _ rfl rfl), by decide, by decide, by decide⟩,
    ⟨.b, latched .unlatchedFault false (freed base), ⟨rfl, rfl⟩, (alone _ rfl rfl), by decide, by decide, by decide,
      by decide, by decide, by decide, by decide, by decide, by decide⟩,
    ⟨.b, (latched .unlatchedFault false (freed base)).setTilt { base.tilt with meas := 151 }, ⟨rfl, rfl⟩, (alone _ rfl
      rfl), by decide, by decide, by decide, by decide, by decide⟩,
    ⟨.a, lifted (heldBy .a (moded .tilt .track (freed base))), ⟨rfl, rfl⟩, (alone _ rfl rfl), by decide, by decide, by
      decide, by decide, by decide, by decide, by decide, by decide, by decide, by decide, by decide, by decide⟩,
    ⟨.a, settledPreload, ⟨rfl, rfl⟩, (alone _ rfl rfl), by decide, by decide, by decide, by decide⟩,
    ⟨120000, 120000, setAt .release 3 (.window 120000), (attempting .releasing true (some (setAt .release 3 (.window
      120000))) (some (pulseAt .hold 60))).handOn, rfl, by decide, by decide, by decide, by decide, by decide,
      (aloneAtRest _ rfl rfl rfl (fun i => by cases i <;> decide)), by decide, by decide⟩,
    ⟨.a, ridden, ⟨rfl, rfl⟩, (aloneAtRest _ rfl rfl rfl (fun i => by cases i <;> decide)), by decide, by decide, by
      decide, by decide, by decide, by decide, by decide, by decide, by decide, by decide, by decide, by decide,
      ⟨.c0, rfl⟩⟩,
    ⟨.a, base, ⟨rfl, rfl⟩, (aloneAtRest _ rfl rfl rfl (fun i => by cases i <;> decide)), by decide, by decide, by
      decide, by decide, by decide⟩,
    ⟨.a, (latched .releasePreload true base).handOn, ⟨rfl, rfl⟩, (aloneAtRest _ rfl rfl rfl
      (fun i => by cases i <;> decide)), by decide, by decide, by decide, by decide, by decide⟩,
    ⟨.b, (latched .unlatchedFault false base).handOn, ⟨rfl, rfl⟩, (aloneAtRest _ rfl rfl rfl
      (fun i => by cases i <;> decide)), by decide, by decide, by decide, by decide⟩,
    ⟨.a, (lifted (heldBy .a (moded .tilt .track base))).handOn, ⟨rfl, rfl⟩, (aloneAtRest _ rfl rfl rfl
      (fun i => by cases i <;> decide)), by decide, by decide, by decide, by decide, by decide, by decide, by
      decide, by decide, by decide, by decide, by decide, by decide, by decide⟩,
    ⟨ridden, (ridden.decideLatch).getD ridden, rfl, by decide⟩,
    ⟨ridden.setPending [.lockDemandNone 0 (frame .b [])], after (step (ridden.setPending [.lockDemandNone 0 (frame .b
      [])])), valid, (fun _ => rfl), rfl, by decide, by decide⟩⟩

theorem witness_LockDemandSetsTheItem :
    (∃ (p : Port) (s : State), Ready s p ∧ s.params.noInstantTrip ∧ s.holds p = true ∧ s.inputs.lift.active = true ∧
      s.still = true ∧ s.grade = .none ∧ s.latch.item (otherPort p) ≠ .lock) ∧
    (∃ (p : Port) (s : State), Ready s p ∧ s.params.noInstantTrip ∧ s.holds p = true ∧ (s.inputs.lift.active = false ∨
      s.still = false ∨ s.grade ≠ .none ∨ s.latch.item (otherPort p) = .lock)) :=
  ⟨⟨.a, lifted (heldBy .a base), ⟨rfl, rfl⟩, quiet, by decide, by decide, by decide, by decide, by decide⟩,
    ⟨.a, heldBy .a base, ⟨rfl, rfl⟩, quiet, by decide, by decide⟩⟩

theorem witness_ParkNeedsStandstillAndTheLatch :
    (∃ (p : Port) (s : State), Ready s p ∧ s.still = true ∧ s.latch.state = .engaged ∧ s.auth.hold = none ∧ s.slot =
      .free ∧ s.grade ≠ .lockdown) ∧
    (∃ (p : Port) (s : State), Ready s p ∧ (s.still = false ∨ s.latch.state ≠ .engaged ∨ s.auth.hold ≠ none ∨ s.slot ≠
      .free ∨ s.grade = .lockdown)) :=
  ⟨⟨.a, base, ⟨rfl, rfl⟩, by decide, by decide, by decide, by decide, by decide⟩,
    ⟨.a, tripped .trackTilt .lockdown base, ⟨rfl, rfl⟩, by decide⟩⟩

theorem witness_KeyOffParks :
    (∃ (dt e : Nat) (s : State), s.latch.keyOffSince = some e ∧ e + 2000000 ≤ s.now + dt) ∧
    (∃ (s : State), s.latch.keyOffSince = none ∧ (s.latch.autoPark = false ∨ s.latch.run = .parked ∨ s.still = false)) ∧
    (∃ (s : State), s.latch.autoPark = true ∧ s.latch.run = .run ∧ s.still = true ∧ s.latch.state = .engaged ∧ s.slot
      = .free ∧ s.grade ≠ .lockdown ∧ s.auth.hold ≠ none) :=
  ⟨⟨2000000, 0, base, by decide, by decide⟩,
    ⟨base.setLatchUnit { base.latch with keyOffSince := none }, by decide, by decide⟩,
    ⟨heldBy .a (base.setLatchUnit { base.latch with autoPark := true }), by decide, by decide, by decide, by decide,
      by decide, by decide, by decide⟩⟩

theorem witness_AppendsKeepTheOldest :
    (∃ (e : Event) (s : State), s.log.records.length < 16 ∧ s.params.attnMaskA.getLsbD e.category = true ∧
      s.log.attnA.gapEnd = none) ∧
    (∃ (s : State), 16 ≤ s.log.records.length) :=
  ⟨⟨.tripClear, base.setLog { base.log with records := List.replicate 15 { event := .startSoft, stamp := 0 } }, by
      decide, by decide, by decide⟩,
    ⟨base.setLog { base.log with records := List.replicate 16 { event := .startSoft, stamp := 0 } }, by decide⟩⟩

theorem witness_ReadEventsRemovesTheOldest :
    (∃ (p : Port) (s : State), (s.port p).place = none ∧ s.log.records ≠ []) ∧
    (∃ (p : Port) (s : State), (s.port p).place = none ∧ s.log.records = []) ∧
    (∃ (dt e : Nat) (p : Port) (s : State), (s.log.line p).gapEnd = some e ∧ e ≤ s.now + dt) ∧
    (∃ (dt e : Nat) (p : Port) (s : State), (s.log.line p).gapEnd = some e ∧ s.now + dt < e) ∧
    (∃ (l : EventLog) (mask : Byte), l.wants mask = true) :=
  ⟨⟨.a, base, by decide, by decide⟩,
    ⟨.a, base.setLog .empty, by decide, by decide⟩,
    ⟨50, 50, .a, base.setLog { base.log with attnA := { asserted := false, gapEnd := some 50 } }, by decide, by
      decide⟩,
    ⟨49, 50, .a, base.setLog { base.log with attnA := { asserted := false, gapEnd := some 50 } }, by decide, by
      decide⟩,
    ⟨base.log, 0x80, by decide⟩⟩

theorem witness_FramesCarryTheCrc :
    (∃ (dt : Nat) (p : Port) (c : Character) (s : State), (s.port p).rx = .check ∧ s.now + dt ≤ (s.port p).lastEnd +
      2044 ∧ c.good = true ∧ c.data = crc8 ((s.port p).need :: (s.port p).body)) ∧
    (∃ (dt : Nat) (p : Port) (c : Character) (s : State), (s.port p).rx = .check ∧ s.now + dt ≤ (s.port p).lastEnd +
      2044 ∧ c.good = true ∧ c.data ≠ crc8 ((s.port p).need :: (s.port p).body)) :=
  ⟨⟨2044, .a, .of 0xD6, base.setPortA { PortRec.reset with rx := .check, need := 2, body := [1, 7] }, by decide, by
      decide, by decide, by decide⟩,
    ⟨2044, .a, .of 0xD7, base.setPortA { PortRec.reset with rx := .check, need := 2, body := [1, 7] }, by decide, by
      decide, by decide, by decide⟩⟩

theorem witness_CharactersAndPortEventsKeepToThePort :
    (∃ (c : Character), c.stop = true ∧ ((List.range 8).countP (fun i => c.data.getLsbD i) + c.parity.toNat) % 2 = 0) ∧
    (∃ (p : Port) (x : Held) (s : State) (c : Character), c ∈ ((s.occupy p x).port p).tx) ∧
    (∃ (p : Port) (c : Character) (s : State), c.good = false ∧ (s.port p).rx ≠ .hunt) ∧
    (∃ (dt : Nat) (p : Port) (c : Character) (s : State), c.good = true ∧ (s.port p).lastEnd + 2044 < s.now + dt ∧
      (s.port p).rx = .hunt ∧ c.data = 0x5A) ∧
    (∃ (dt : Nat) (p : Port) (c : Character) (s : State), c.good = true ∧ (s.port p).rx ≠ .hunt ∧ (s.port p).lastEnd +
      2044 < s.now + dt ∧ c.data = 0x5A) ∧
    (∃ (dt : Nat) (p : Port) (c : Character) (s : State), c.good = true ∧ (s.port p).rx ≠ .hunt ∧ (s.port p).lastEnd +
      2044 < s.now + dt ∧ c.data ≠ 0x5A) ∧
    (∃ (dt : Nat) (p : Port) (c : Character) (s : State), c.good = true ∧ s.now + dt ≤ (s.port p).lastEnd + 2044 ∧
      (s.port p).rx = .hunt ∧ c.data ≠ 0x5A) ∧
    (∃ (dt : Nat) (p : Port) (c : Character) (s : State), c.good = true ∧ s.now + dt ≤ (s.port p).lastEnd + 2044 ∧
      (s.port p).rx = .length ∧ 2 ≤ c.data.toNat ∧ c.data.toNat ≤ 40) ∧
    (∃ (dt : Nat) (p : Port) (c : Character) (s : State), c.good = true ∧ s.now + dt ≤ (s.port p).lastEnd + 2044 ∧
      (s.port p).rx = .length ∧ (c.data.toNat < 2 ∨ 40 < c.data.toNat)) ∧
    (∃ (dt : Nat) (p : Port) (c : Character) (s : State), c.good = true ∧ s.now + dt ≤ (s.port p).lastEnd + 2044 ∧
      (s.port p).rx = .body ∧ (s.port p).body.length + 1 < (s.port p).need.toNat) ∧
    (∃ (dt : Nat) (p : Port) (c : Character) (s : State), c.good = true ∧ s.now + dt ≤ (s.port p).lastEnd + 2044 ∧
      (s.port p).rx = .body ∧ (s.port p).need.toNat = (s.port p).body.length + 1) ∧
    (∃ (p : Port) (n : Byte) (s : State), (s.port p).rx ≠ .hunt ∧ (s.port p).rx = .length ∧ (n.toNat < 2 ∨ 40 <
      n.toNat)) ∧
    (∃ (p : Port) (c : Byte) (s : State), (s.port p).rx = .check ∧ c ≠ crc8 ((s.port p).need :: (s.port p).body)) ∧
    (∃ (dt : Nat) (p : Port) (s : State), (s.port p).rx ≠ .hunt ∧ (s.port p).lastEnd + 2000 < s.now + dt) ∧
    (∃ (dt : Nat) (p : Port) (s : State) (h : Held), (s.port p).place = some h ∧ h.at_ + 44 * (6 +
      h.answer.payload.length) ≤ s.now + dt) ∧
    (∃ (dt : Nat) (p : Port) (s : State) (h : Held), (s.port p).place = some h ∧ s.now + dt < h.at_ + 44 * (6 +
      h.answer.payload.length)) :=
  ⟨⟨.of 0x5A, by decide⟩,
    ⟨.a, { kind := 1, ref := 0, at_ := 0, answer := { status := .ok, payload := [] } }, base, .of 0x5A, by decide⟩,
    ⟨.a, { data := 1, parity := true, stop := false }, base.setPortA { PortRec.reset with rx := .length }, by decide,
      by decide⟩,
    ⟨2045, .a, .of 0x5A, base, by decide, by decide, by decide, by decide⟩,
    ⟨2045, .a, .of 0x5A, base.setPortA { PortRec.reset with rx := .length }, by decide, by decide, by decide, by
      decide⟩,
    ⟨2045, .a, .of 0x5B, base.setPortA { PortRec.reset with rx := .body, need := 2 }, by decide, by decide, by decide,
      by decide⟩,
    ⟨2044, .a, .of 0x5B, base, by decide, by decide, by decide, by decide⟩,
    ⟨0, .a, .of 40, base.setPortA { PortRec.reset with rx := .length }, by decide, by decide, by decide, by decide, by
      decide⟩,
    ⟨0, .a, .of 41, base.setPortA { PortRec.reset with rx := .length }, by decide, by decide, by decide, by decide⟩,
    ⟨0, .a, .of 7, base.setPortA { PortRec.reset with rx := .body, need := 2 }, by decide, by decide, by decide, by
      decide⟩,
    ⟨0, .a, .of 7, base.setPortA { PortRec.reset with rx := .body, need := 2, body := [1] }, by decide, by decide, by
      decide, by decide⟩,
    ⟨.a, 1, base.setPortA { PortRec.reset with rx := .length }, by decide, by decide, by decide⟩,
    ⟨.a, 0, base.setPortA { PortRec.reset with rx := .check, need := 2, body := [1, 7] }, by decide, by decide⟩,
    ⟨2001, .a, base.setPortA { PortRec.reset with rx := .body }, by decide, by decide⟩,
    ⟨264, .a, occupied, { kind := 1, ref := 0, at_ := 0, answer := { status := .ok, payload := [] } }, rfl, by decide⟩,
    ⟨263, .a, occupied, { kind := 1, ref := 0, at_ := 0, answer := { status := .ok, payload := [] } }, rfl, by decide⟩⟩

theorem witness_ReadsChangeNothing :
    (∃ (p : Port) (b : Byte) (name : ParamName) (s : State), (s.port p).place = none ∧ (s.axis .tilt).mode ≠ .routine
      ∧ ParamName.ofNumber b.toNat = some name) ∧
    (∃ (p : Port) (b : Byte) (s : State), (s.port p).place = none ∧ (s.axis .tilt).mode = .routine ∧
      ParamName.ofNumber b.toNat = none) ∧
    (∃ (kind : Byte) (bytes : List Byte), bytes.length ≤ 38 ∧ kind.toNat ∉ requestKinds) :=
  ⟨⟨.a, 0x60, .num .debounce, base, by decide, by decide, by decide⟩,
    ⟨.a, 0, inRoutine (routineAt .tilt .lockTest .pushLeft), by decide, by decide, by decide⟩,
    ⟨0x42, List.replicate 38 0, by decide, by decide⟩⟩

theorem witness_SetParamStoresTheValue :
    (∃ (p : Port) (b : Byte) (value : List Byte) (name : ParamName) (new : Params) (s : State), value.length ≤ 37 ∧
      Ready s p ∧ ParamName.ofNumber b.toNat = some name ∧ s.params.write name value = some new ∧ s.heldByOther p
      = true) ∧
    (∃ (p : Port) (b : Byte) (value : List Byte) (name : ParamName) (new : Params) (s : State), value.length ≤ 37 ∧
      Ready s p ∧ ParamName.ofNumber b.toNat = some name ∧ s.params.write name value = some new ∧ s.heldByOther p
      = false ∧ s.slot.programming = true) ∧
    (∃ (p : Port) (b : Byte) (value : List Byte) (name : ParamName) (new : Params) (s : State), value.length ≤ 37 ∧
      Ready s p ∧ ParamName.ofNumber b.toNat = some name ∧ s.params.write name value = some new ∧ s.heldByOther p
      = false ∧ s.slot.programming = false ∧ name.needsStill = true ∧ s.still = false) ∧
    (∃ (p : Port) (b : Byte) (value : List Byte) (name : ParamName) (new : Params) (s : State), value.length ≤ 37 ∧
      Ready s p ∧ ParamName.ofNumber b.toNat = some name ∧ s.params.write name value = some new ∧ s.heldByOther p
      = false ∧ s.slot.programming = false ∧ (name.needsStill = false ∨ s.still = true) ∧ new.noInstantTrip ∧
      s.NotWaiting) ∧
    (∃ (p : Port) (bytes : List Byte) (s : State), bytes.length ≤ 38 ∧ Ready s p ∧ (∀ b value name, bytes = b :: value
      → ParamName.ofNumber b.toNat = some name → s.params.write name value = none)) ∧
    (∃ (p : Port) (bytes : List Byte) (s : State), bytes.length ≤ 38 ∧ Ready s p ∧ (∀ b value name, bytes = b :: value
      → ParamName.ofNumber b.toNat = some name → s.params.write name value = none)) ∧
    (∃ (p : Port) (bytes : List Byte) (s : State), bytes.length ≤ 38 ∧ Ready s p ∧ (∀ b value name, bytes = b :: value
      → ParamName.ofNumber b.toNat = some name → s.params.write name value = none)) ∧
    (∃ (p : Port) (b : Byte) (value : List Byte) (name : ParamName) (new : Params) (s : State) (i : CombinerId) (u :
      InputUnit), value.length ≤ 37 ∧ Ready s p ∧ ParamName.ofNumber b.toNat = some name ∧ s.params.write name
      value = some new ∧ s.heldByOther p = false ∧ s.slot.programming = false ∧ (name.needsStill = false ∨ s.still
      = true) ∧ new.noInstantTrip ∧ s.NotWaiting ∧ name = .combiner i ∧ u = (s.inputs.setCombiner i {
      s.inputs.combiner i with stored := false }).evaluated new ∧ s.waitingChanges = [] ∧ (∀ k, ∀ c ∈
      [(new.combiner k).a.cond, (new.combiner k).b.cond, (new.combiner k).c.cond], c ≠ .locked ∧ c ∉ k.barred) ∧
      s.latch.state = .releasePreload ∧ s.latch.first = none ∧ s.permit = false ∧ (after (exec (.setParam 0 {
      port := p, ref := 7, payload := b :: value }) s)).combined = true) ∧
    (∃ (p : Port) (b : Byte) (value : List Byte) (name : ParamName) (new : Params) (s : State) (u : TripUnit),
      value.length ≤ 37 ∧ Ready s p ∧ ParamName.ofNumber b.toNat = some name ∧ s.params.write name value = some
      new ∧ s.heldByOther p = false ∧ s.slot.programming = false ∧ (name.needsStill = false ∨ s.still = true) ∧
      new.noInstantTrip ∧ s.NotWaiting ∧ s.waitingChanges = [] ∧ s.decideLatch = none ∧ name = .tripUnit u ∧
      (new.tripUnit u).enabled = true ∧ s.inputs.tripSelected u (new.tripUnit u) = true) ∧
    (∃ (p : Port) (b : Byte) (value : List Byte) (name : ParamName) (new : Params) (s : State) (q : Port),
      value.length ≤ 37 ∧ Ready s p ∧ ParamName.ofNumber b.toNat = some name ∧ s.params.write name value = some
      new ∧ s.heldByOther p = false ∧ s.slot.programming = false ∧ (name.needsStill = false ∨ s.still = true) ∧
      new.noInstantTrip ∧ s.NotWaiting ∧ s.waitingChanges = [] ∧ s.decideLatch = none ∧ name = .mask (if q = .a
      then .attnA else .attnB) ∧ (∃ x ∈ s.log.records, (new.attnMask q).getLsbD (x.event.fields.1 / 16) = true)) ∧
    (∃ (p : Port) (b : Byte) (value : List Byte) (name : ParamName) (new : Params) (s : State) (q : Port),
      value.length ≤ 37 ∧ Ready s p ∧ ParamName.ofNumber b.toNat = some name ∧ s.params.write name value = some
      new ∧ s.heldByOther p = false ∧ s.slot.programming = false ∧ (name.needsStill = false ∨ s.still = true) ∧
      new.noInstantTrip ∧ s.NotWaiting ∧ s.waitingChanges = [] ∧ s.decideLatch = none ∧ name = .mask (if q = .a
      then .attnA else .attnB) ∧ ¬(∃ x ∈ s.log.records, (new.attnMask q).getLsbD (x.event.fields.1 / 16) = true)) :=
  ⟨⟨.b, 3, [24, 0], .num .ppr, Params.loadedBuiltin, heldBy .a base, by decide, ⟨rfl, rfl⟩, by decide, writesPpr, by
      decide⟩,
    ⟨.a, 3, [24, 0], .num .ppr, Params.loadedBuiltin, base.setSlot (.storeProgramming 0), by decide, ⟨rfl, rfl⟩, by
      decide, writesPpr, by decide, by decide⟩,
    ⟨.a, 3, [24, 0], .num .ppr, Params.loadedBuiltin, rolling 1 base, by decide, ⟨rfl, rfl⟩, by decide, writesPpr, by
      decide, by decide, by decide, by decide⟩,
    ⟨.a, 3, [24, 0], .num .ppr, Params.loadedBuiltin, base, by decide, ⟨rfl, rfl⟩, by decide, writesPpr, by decide, by
      decide, by decide, quiet, waitsFree _ rfl⟩,
    ⟨.b, [], base, by decide, ⟨rfl, rfl⟩, (fun b value name h k => by cases h)⟩,
    ⟨.b, [0, 1], base, by decide, ⟨rfl, rfl⟩, (fun b value name h k => by cases h; cases k)⟩,
    ⟨.b, [0x62, 0x0C, 0, 0, 0], base, by decide, ⟨rfl, rfl⟩, (fun b value name h k => by cases h; cases k; rfl)⟩,
    ⟨.a, 0x62, [15, 15, 15, 0x25], .combiner .c0, setC0 {
      a := .always, b := .always, c := .always, fn := .aOnly, inverted := false, action := .lockHold },
      preloading, .c0, (preloading.inputs.setCombiner .c0 { preloading.inputs.combiner .c0 with
      stored := false }).evaluated (setC0 {
      a := .always, b := .always, c := .always, fn := .aOnly, inverted := false, action := .lockHold }), by
      decide, ⟨rfl, rfl⟩, by decide, by decide, by decide, by decide, by decide, (by intro u; cases u <;> decide),
      waitsFree _ rfl, by decide, rfl, by decide, (fun k => by cases k <;> decide), by decide, by decide, by
      decide, by decide⟩,
    ⟨.a, 0x65, [15, 15, 15, 3], .tripUnit .t1, setT1 {
      enabled := true, a := .always, b := .always, c := .always, time := .ms20, severity := .degrade },
      base.handOn, .t1, by decide, ⟨rfl, rfl⟩, by decide, by decide, by decide, by decide, by decide,
      (by intro u; cases u <;> decide), waitsFree _ rfl, by decide, by decide, by decide, by decide, by decide⟩,
    ⟨.a, 0x70, [0x80, 0], .mask .attnA, { Params.loadedBuiltin with attnMaskA := 0x80 }, base.handOn, .a, by decide,
      ⟨rfl, rfl⟩, by decide, by decide, by decide, by decide, by decide, (by intro u; cases u <;> decide),
      waitsFree _ rfl, by decide, by decide, by decide, by decide⟩,
    ⟨.a, 0x70, [0x01, 0], .mask .attnA, { Params.loadedBuiltin with attnMaskA := 0x01 }, base.handOn, .a, by decide,
      ⟨rfl, rfl⟩, by decide, by decide, by decide, by decide, by decide, (by intro u; cases u <;> decide),
      waitsFree _ rfl, by decide, by decide, by decide, by decide⟩⟩

theorem witness_WritesAndLoadsAreClampedAndCoupled :
    (∃ (p : Params), p.Valid) ∧
    (∃ (value : List Byte), value.length ≠ 2) ∧
    (∃ (p q : Params) (value : List Byte), p.write (.mask .inputEvent) value = some q) ∧
    (∃ (p : Params) (value : List Byte), p.write (.mask .inputEvent) value = none) ∧
    (∃ (p : Params) (x : CombinerCfg), p.write (.combiner .c2) x.layout = some { p with c2 := x }) ∧
    (∃ (p : Params) (value : List Byte), p.write (.combiner .c1) value = none) ∧
    (∃ (p : Params) (value : List Byte), p.write (.combiner .c1) value = none) ∧
    (∃ (p : Params) (value : List Byte), p.write (.combiner .c1) value = none) ∧
    (∃ (p : Params) (value : List Byte), p.write (.combiner .c1) value = none) ∧
    (∃ (p : Params) (x : TripCfg), p.write (.tripUnit .t2) (x.layout 0xFF) = some { p with t2 := x }) ∧
    (∃ (p : Params) (value : List Byte), p.write (.tripUnit .t1) value = none) :=
  ⟨⟨.loadedBuiltin, valid⟩,
    ⟨[0], by decide⟩,
    ⟨.loadedBuiltin, { Params.loadedBuiltin with inputEventMask := 63 }, [63, 0], rfl⟩,
    ⟨.loadedBuiltin, [64, 0], rfl⟩,
    ⟨.loadedBuiltin, {
      a := { cond := .c1, inverted := true }, b := .always, c := .always, fn := .latch, inverted := true, action := .lockHold },
      rfl⟩,
    ⟨.loadedBuiltin, [13, 0, 0, 0], rfl⟩,
    ⟨.loadedBuiltin, [0, 0, 0, 0x07], rfl⟩,
    ⟨.loadedBuiltin, [0, 0, 0, 0x30], rfl⟩,
    ⟨.loadedBuiltin, [0, 0, 0, 0x40], rfl⟩,
    ⟨.loadedBuiltin, {
      enabled := true, a := { cond := .c2, inverted := true }, b := .always, c := .zero, time := .ms2000, severity := .lockdown },
      rfl⟩,
    ⟨.loadedBuiltin, [0, 0, 0x20, 0], rfl⟩⟩

theorem witness_SoftRestartClearsTheSessions :
    (∃ (p : Port) (n : Nat) (s : State), Ready s p ∧ s.slot = .storeProgramming n) ∧
    (∃ (p : Port) (s : State), Ready s p ∧ s.slot.programming = false ∧ s.auth.hold ≠ none) ∧
    (∃ (p : Port) (s : State), Ready s p ∧ s.slot.programming = false ∧ s.auth.hold ≠ none ∧ s.slot = .free ∧
      s.params.noInstantTrip ∧ (∀ i, (s.params.combiner i).action = .none)) ∧
    (∃ (p : Port) (s : State), Ready s p ∧ s.slot.programming = false ∧ s.auth.hold = none ∧ s.slot = .free) :=
  ⟨⟨.a, 0, base.setSlot (.storeProgramming 0), ⟨rfl, rfl⟩, by decide⟩,
    ⟨.a, heldBy .b base, ⟨rfl, rfl⟩, by decide, by decide⟩,
    ⟨.a, heldBy .b (freed base), ⟨rfl, rfl⟩, by decide, by decide, by decide, (alone _ rfl rfl).trips,
      (fun i => by cases i <;> decide)⟩,
    ⟨.a, base, ⟨rfl, rfl⟩, by decide, by decide, by decide⟩⟩

theorem witness_CommitProgramsUser :
    (∃ (p : Port) (s : State), Ready s p ∧ s.slot = .free ∧ s.slot.programming = false) ∧
    (∃ (p : Port) (s : State), Ready s p ∧ s.slot ≠ .free) ∧
    (∃ (dt n : Nat) (s : State), s.slot = .storeProgramming n ∧ n + 60000 ≤ s.now + dt) ∧
    (∃ (dt n : Nat) (s : State), s.slot = .storeProgramming n ∧ s.now + dt < n + 60000) :=
  ⟨⟨.a, base, ⟨rfl, rfl⟩, by decide, by decide⟩,
    ⟨.a, base.setSlot (.service .tilt none), ⟨rfl, rfl⟩, by decide⟩,
    ⟨60000, 0, base.setSlot (.storeProgramming 0), by decide, by decide⟩,
    ⟨59999, 0, base.setSlot (.storeProgramming 0), by decide, by decide⟩⟩

theorem witness_RestoreLoadsFactory :
    (∃ (p : Port) (s : State), Ready s p ∧ s.slot ≠ .free) ∧
    (∃ (p : Port) (s : State), Ready s p ∧ s.slot = .free ∧ s.heldByOther p = true) ∧
    (∃ (p : Port) (s : State), Ready s p ∧ s.slot = .free ∧ s.heldByOther p = false ∧ (s.still = false ∨
      s.store.factory.passes = false)) ∧
    (∃ (p : Port) (s : State), Ready s p ∧ s.slot = .free ∧ s.heldByOther p = false ∧ s.still = true ∧
      s.store.factory.passes = true ∧ s.store.factory.set.loaded.noInstantTrip) :=
  ⟨⟨.a, base.setSlot (.storeProgramming 0), ⟨rfl, rfl⟩, by decide⟩,
    ⟨.b, heldBy .a base, ⟨rfl, rfl⟩, by decide, by decide⟩,
    ⟨.a, rolling 1 base, ⟨rfl, rfl⟩, by decide, by decide, by decide⟩,
    ⟨.a, base, ⟨rfl, rfl⟩, by decide, by decide, by decide, by decide, quiet⟩⟩

end Sys2Proof.Tests
end

section
/-! PROOFS. The balance solve: what each stage of a period computes, and the bounds that follow (R22, R24, R25, R31). -/

namespace Sys2Proof.Machine

/-! ## The arithmetic words -/

/-- A value clamped to ±b is at most b in magnitude. -/
theorem clampSym_natAbs_le (b : Nat) (x : Int) : (clampSym b x).natAbs ≤ b := by
  unfold clampSym clamp
  split
  · omega
  · split <;> omega

theorem mag_eq_abs (x : Int) : mag x = |x| := by
  unfold mag
  split
  case isTrue h => exact (abs_of_neg h).symm
  case isFalse h => exact (abs_of_nonneg (not_lt.mp h)).symm

/-! ## The outputs of a period -/

theorem State.solved_kc (s : State) :
    s.solved.kc = clampSym (kMax s.params.kGeom (ceilingA s.params s.grade) s.speed.v) s.demand := rfl

theorem State.solved_a (s : State) : s.solved.a = lateral s.speed.v s.solved.kc := rfl

theorem State.solved_phiT_of_not_gated (s : State) (h : s.gated = false) :
    s.solved.phiT = clampSym s.params.leanLimit
      (signedLean s.solved.kc (leanMagnitude s.params s.solved.a) + s.camber) := by
  simp only [State.solved, h, Bool.false_eq_true, if_false]

theorem State.solved_phiS (s : State) :
    s.solved.phiS = leanSetpoint s.latch.state s.solve.phiS s.solved.phiT s.solve.captured s.tilt.meas
      s.params.leanRate := rfl

theorem State.solved_deltaS (s : State) :
    s.solved.deltaS = steerSetpoint s.steer.mode s.solve.deltaS s.solved.deltaT s.steer.meas s.params.steerRate := rfl

/-! ## Stages 1 and 2: the ceilings -/

/-- The outer end of the ranges of A_MAX and A_SAFE bounds the acceleration ceiling (R21). -/
theorem ceilingA_le {p : Params} (h : p.Valid) (g : Grade) : ceilingA p g ≤ 9000 := by
  have hMax : p.aMax ≤ 9000 := (h.ranges .aMax).2
  have hSafe : p.aSafe ≤ 9000 := (h.ranges .aSafe).2
  unfold ceilingA
  split <;> omega

theorem kMax_at_rest (kGeom : Int) (a : Nat) : kMax kGeom a 0 = kGeom.toNat := rfl

theorem kMax_of_pos (kGeom : Int) (a : Nat) {v : Nat} (hv : 0 < v) :
    kMax kGeom a v = min kGeom.toNat (a * 10000 / (v * v)) := if_neg hv.ne'

theorem State.solved_kc_natAbs_le_kMax (s : State) :
    s.solved.kc.natAbs ≤ kMax s.params.kGeom (ceilingA s.params s.grade) s.speed.v := by
  rw [State.solved_kc]
  exact clampSym_natAbs_le _ _

/-- While the vehicle moves, the acceleration ceiling bounds k_c, whatever K_GEOM is (R22, R23). -/
theorem State.solved_kc_natAbs_le_div (s : State) (hv : 0 < s.speed.v) :
    s.solved.kc.natAbs ≤ ceilingA s.params s.grade * 10000 / (s.speed.v * s.speed.v) := by
  have hk := s.solved_kc_natAbs_le_kMax
  rw [kMax_of_pos _ _ hv] at hk
  exact hk.trans (min_le_right _ _)

/-! ## Stage 3: the lateral acceleration -/

theorem lateral_eq_zero {v : Nat} {kc : Int} (h : v = 0 ∨ kc = 0) : lateral v kc = 0 := by
  obtain rfl | rfl := h <;> simp [lateral]

theorem State.solved_kc_mul_le (s : State) (hv : 0 < s.speed.v) :
    s.speed.v * s.speed.v * s.solved.kc.natAbs ≤ ceilingA s.params s.grade * 10000 := by
  rw [mul_comm]
  exact (Nat.le_div_iff_mul_le (Nat.mul_pos hv hv)).mp (s.solved_kc_natAbs_le_div hv)

theorem State.solved_a_le_ceilingA (s : State) : s.solved.a ≤ ceilingA s.params s.grade := by
  rw [s.solved_a]
  obtain hv | hv := Nat.eq_zero_or_pos s.speed.v
  · rw [lateral_eq_zero (.inl hv)]
    exact Nat.zero_le _
  · exact Nat.div_le_of_le_mul ((s.solved_kc_mul_le hv).trans_eq (mul_comm _ _))

/-- Bytes 27 and 28 of the status record are the lateral acceleration (09, "The status record"). -/
theorem State.statusRecord_a (s : State) : (s.statusRecord.drop 27).take 2 = le16 s.solve.a := rfl

/-! ## Stage 4: the lean table -/

theorem Params.lean_of_ge (p : Params) {i : Nat} (hi : 8 ≤ i) : p.lean i = p.lean 8 := by
  obtain ⟨n, rfl⟩ := Nat.exists_eq_add_of_le' hi
  rfl

/-- The table couplings of R164 make the lean table nondecreasing from its fixed entry 0 on. -/
theorem Params.Valid.lean_monotone {p : Params} (h : p.Valid) : Monotone p.lean := by
  obtain ⟨h1, h2, h3, h4, h5, h6, h7, h8, -⟩ := h.table
  refine monotone_nat_of_le_succ fun i => ?_
  match i with
  | 0 => exact h1
  | 1 => exact h2
  | 2 => exact h3
  | 3 => exact h4
  | 4 => exact h5
  | 5 => exact h6
  | 6 => exact h7
  | 7 => exact h8
  | n + 8 => exact le_rfl

theorem Params.Valid.lean_rise_nonneg {p : Params} (h : p.Valid) (i : Nat) : 0 ≤ p.lean (i + 1) - p.lean i :=
  sub_nonneg.mpr (h.lean_monotone (Nat.le_succ i))

/-- The rise d of a table segment, taken over f of its 1250 parts and rounded (R25). -/
def leanRise (d : Int) (f : Nat) : Int := (d * f + 625) / 1250

theorem leanRise_mono {d : Int} (hd : 0 ≤ d) {f g : Nat} (hfg : f ≤ g) : leanRise d f ≤ leanRise d g := by
  have hmul : d * f ≤ d * g := Int.mul_le_mul_of_nonneg_left (by exact_mod_cast hfg) hd
  unfold leanRise
  omega

theorem leanRise_zero (d : Int) : leanRise d 0 = 0 := by simp [leanRise]

theorem leanRise_whole (d : Int) : leanRise d 1250 = d := by
  unfold leanRise
  omega

theorem leanMagnitude_of_ge (p : Params) {a : Nat} (h : 8 ≤ a / 1250) : leanMagnitude p a = p.lean 8 := if_pos h

theorem leanMagnitude_of_lt (p : Params) {a : Nat} (h : a / 1250 < 8) :
    leanMagnitude p a =
      p.lean (a / 1250) + leanRise (p.lean (a / 1250 + 1) - p.lean (a / 1250)) (a % 1250) := if_neg (by omega)

/-- The magnitude lies between the two table entries that a lies between; past the table both are its last entry. -/
theorem leanMagnitude_between {p : Params} (h : p.Valid) (a : Nat) :
    p.lean (a / 1250) ≤ leanMagnitude p a ∧ leanMagnitude p a ≤ p.lean (a / 1250 + 1) := by
  obtain hi | hi := Nat.lt_or_ge (a / 1250) 8
  · have hlow := leanRise_mono (h.lean_rise_nonneg (a / 1250)) (Nat.zero_le (a % 1250))
    have hhigh := leanRise_mono (h.lean_rise_nonneg (a / 1250)) (Nat.mod_lt a (by decide : 0 < 1250)).le
    rw [leanRise_zero] at hlow
    rw [leanRise_whole] at hhigh
    rw [leanMagnitude_of_lt p hi]
    constructor <;> omega
  · rw [leanMagnitude_of_ge p hi, p.lean_of_ge hi, p.lean_of_ge (Nat.le_succ_of_le hi)]
    exact ⟨le_rfl, le_rfl⟩

/-- Within one table segment the rounded rise grows with a; across segments a table entry between them separates the
two magnitudes. -/
theorem leanMagnitude_monotone {p : Params} (h : p.Valid) : Monotone (leanMagnitude p) := by
  intro a b hab
  obtain hlt | heq := (Nat.div_le_div_right hab : a / 1250 ≤ b / 1250).lt_or_eq
  · calc leanMagnitude p a ≤ p.lean (a / 1250 + 1) := (leanMagnitude_between h a).2
      _ ≤ p.lean (b / 1250) := h.lean_monotone hlt
      _ ≤ leanMagnitude p b := (leanMagnitude_between h b).1
  · obtain hi | hi := Nat.lt_or_ge (a / 1250) 8
    · rw [leanMagnitude_of_lt p hi, leanMagnitude_of_lt p (heq ▸ hi), ← heq]
      have hpart : a % 1250 ≤ b % 1250 := by omega
      exact add_le_add_right (leanRise_mono (h.lean_rise_nonneg _) hpart) _
    · rw [leanMagnitude_of_ge p hi, leanMagnitude_of_ge p (heq ▸ hi)]

/-! ## Stage 8: the rate-limited steps -/

theorem rateStep_of_le {x t r : Int} (h : |t - x| ≤ r) : rateStep x t r = t := if_pos ((mag_eq_abs _).trans_le h)

theorem rateStep_of_gt {x t r : Int} (h : r < |t - x|) : rateStep x t r = if x < t then x + r else x - r :=
  if_neg (by rw [mag_eq_abs]; omega)

theorem leanSetpoint_of_free {l : LatchState} (h : l = .released ∨ l = .engaging ∨ l = .unlatchedFault)
    (phiS phiT captured meas rate : Int) :
    leanSetpoint l phiS phiT captured meas rate = rateStep phiS phiT rate := by
  obtain rfl | rfl | rfl := h <;> rfl

theorem steerSetpoint_of_on {m : AxisMode} (h : m ≠ .off) (deltaS deltaT meas rate : Int) :
    steerSetpoint m deltaS deltaT meas rate = rateStep deltaS deltaT rate := by
  cases m with
  | off => exact absurd rfl h
  | track => rfl
  | routine => rfl
  | service => rfl

/-! ## The statements -/

/-- Settles O16: the two branches of the ceiling, and the clamp of stage 2. -/
theorem curvatureCeiling : Obligations.CurvatureCeiling := by
  refine ⟨fun K A v => ⟨?atRest, fun hv => kMax_of_pos K A hv, ?straight, fun hv => ?square, fun hA => by omega⟩,
    State.solved_kc_natAbs_le_kMax⟩
  case atRest =>
    rintro rfl
    exact kMax_at_rest K A
  case straight =>
    have hfloor : 300 * 10000 / (2500 * 2500) = 0 := by decide
    rw [kMax_of_pos _ _ (by decide), hfloor, Nat.min_zero]
  case square => exact Nat.mul_le_mul hv hv

/-- Settles O17: while v is above 0 the curvature ceiling bounds v² × |k_c| by A × 10000. -/
theorem lateralAccelerationStaysUnderTheCeiling : Obligations.LateralAccelerationStaysUnderTheCeiling := fun s hs =>
  ⟨s.solved_a, fun h => s.solved_a.trans (lateral_eq_zero h),
    fun hv => ⟨s.solved_kc_natAbs_le_div hv, s.solved_kc_mul_le hv⟩,
    s.solved_a_le_ceilingA, s.solved_a_le_ceilingA.trans (ceilingA_le hs _),
    s.solved_phiT_of_not_gated, s.statusRecord_a⟩

/-- Settles O18: a valid table does not fall, so neither does the interpolation. -/
theorem leanMagnitudeInterpolatesTheTable : Obligations.LeanMagnitudeInterpolatesTheTable := by
  intro p a hp
  refine ⟨leanMagnitude_of_ge p, fun hi => ⟨?interpolated, by omega,
    hp.lean_rise_nonneg _, leanMagnitude_between hp a⟩, fun b hab => leanMagnitude_monotone hp hab, ?atZero, rfl⟩
  case interpolated =>
    rw [← Nat.mod_eq_sub_mul_div]
    exact leanMagnitude_of_lt p hi
  case atZero =>
    rw [leanMagnitude_of_lt p (by decide), Nat.zero_mod, leanRise_zero, add_zero, Nat.zero_div]

/-- Settles O19: the three cases of one step, and the setpoints that take it. -/
theorem setpointsStepAtTheirRates : Obligations.SetpointsStepAtTheirRates := by
  refine ⟨fun x t r _ => ⟨rateStep_of_le, fun h hxt => ?up, fun h htx => ?down⟩,
    fun s h => ?lean, fun s h => ?steer, rfl, rfl⟩
  case up => rw [rateStep_of_gt h, if_pos hxt]
  case down => rw [rateStep_of_gt h, if_neg htx.not_gt]
  case lean => rw [s.solved_phiS, leanSetpoint_of_free h]
  case steer => rw [s.solved_deltaS, steerSetpoint_of_on h]

end Sys2Proof.Machine
end

section
/-! PROOFS. Staging of path segments: LOAD_PATH with position FIRST and MIDDLE from the holder (R58 to R61, R64). -/

namespace Sys2Proof.Machine

/-! ## The state that a request's owner finds -/

/-- The hold record after a frame has arrived on port `p` (R72). -/
def Hold.refreshed (p : Port) (now : Nat) (h : Hold) : Hold := if h.port = p then { h with lastContact := now } else h

theorem Hold.refreshed_port (p : Port) (now : Nat) (h : Hold) : (h.refreshed p now).port = h.port := by
  unfold Hold.refreshed
  split <;> rfl

theorem State.refresh_eq (p : Port) (s : State) :
    s.refresh p = s.setAuth { s.auth with hold := s.auth.hold.map (Hold.refreshed p s.now) } := by
  unfold State.refresh
  split
  case h_1 noHold =>
    rw [noHold, Option.map_none, ← noHold]
    rfl
  case h_2 h hold =>
    rw [hold, Option.map_some, Hold.refreshed]
    split
    case isTrue => rfl
    case isFalse =>
      rw [← hold]
      rfl

@[simp] theorem State.refresh_path (p : Port) (s : State) : (s.refresh p).path = s.path := by
  rw [State.refresh_eq, State.setAuth_path]

@[simp] theorem State.refresh_axisBusy (p : Port) (s : State) : (s.refresh p).axisBusy = s.axisBusy := by
  rw [State.refresh_eq]
  rfl

@[simp] theorem State.refresh_holds (p q : Port) (s : State) : (s.refresh p).holds q = s.holds q := by
  rw [State.refresh_eq, State.holds, State.holds]
  cases s.auth.hold with
  | none => rfl
  | some h => simp [Hold.refreshed_port]

@[simp] theorem State.rxHunt_path (p : Port) (s : State) : (s.rxHunt p).path = s.path := by cases p <;> rfl

@[simp] theorem State.rxHunt_axisBusy (p : Port) (s : State) : (s.rxHunt p).axisBusy = s.axisBusy := by
  cases p <;> rfl

@[simp] theorem State.rxHunt_holds (p q : Port) (s : State) : (s.rxHunt p).holds q = s.holds q := by cases p <;> rfl

@[simp] theorem State.delivered_path (dt : Nat) (p : Port) (s : State) : (s.delivered dt p).path = s.path := by
  rw [State.delivered, State.refresh_path, State.rxHunt_path]
  rfl

@[simp] theorem State.delivered_axisBusy (dt : Nat) (p : Port) (s : State) :
    (s.delivered dt p).axisBusy = s.axisBusy := by
  rw [State.delivered, State.refresh_axisBusy, State.rxHunt_axisBusy]
  rfl

@[simp] theorem State.delivered_holds (dt : Nat) (p q : Port) (s : State) :
    (s.delivered dt p).holds q = s.holds q := by
  rw [State.delivered, State.refresh_holds, State.rxHunt_holds]
  rfl

/-- A request whose owner spends no time is answered from the state that its owner leaves. -/
theorem State.request_eq_answered {dt : Nat} {kind : Byte} {w : Bool} {f : Frame} {h : Handler} {s t : State}
    {a : Answer} (len : f.payload.length ≤ 38) (ready : Ready s f.port)
    (handled : h f.port f.payload (s.delivered dt f.port) = (t, a)) (now : t.now = (s.delivered dt f.port).now) :
    s.request dt kind w f h = t.answered f.port kind f.ref a.status a.payload := by
  rw [State.request_ready dt kind w f h s len ready]
  change (h f.port f.payload (s.delivered dt f.port)).1.occupy f.port
    { kind := kind, ref := f.ref, at_ := (s.delivered dt f.port).now,
      answer := (h f.port f.payload (s.delivered dt f.port)).2 } = _
  rw [handled, ← now]
  rfl

/-! ## The segments of a frame -/

theorem readSegmentsN_length_le {n : Nat} {bytes : List Byte} {segs : List ReadSegment}
    (h : readSegmentsN n bytes = some segs) : segs.length ≤ n := by
  induction n, bytes using readSegmentsN.induct generalizing segs with
  | case1 n =>
    rw [readSegmentsN, Option.some.injEq] at h
    simp [← h]
  | case2 => cases h
  | case3 n b bs hread => simp [readSegmentsN, hread] at h
  | case4 n b bs r rest hread ih =>
    simp only [readSegmentsN, hread, Option.map_eq_some_iff] at h
    obtain ⟨more, hmore, rfl⟩ := h
    exact Nat.succ_le_succ (ih hmore)

/-- A frame carries at most four segments (R59). -/
theorem readSegments_length_le {bytes : List Byte} {segs : List ReadSegment} (h : readSegments bytes = some segs) :
    segs.length ≤ 4 := readSegmentsN_length_le h

/-! ## LOAD_PATH -/

theorem PathUnit.counts_of_open {u : PathUnit} (h : u.batchOpen = true) :
    u.counts = [byteOf u.queue.length, byteOf u.staging.length, 1] := by
  rw [PathUnit.counts, h]
  rfl

theorem PathUnit.counts_of_closed {u : PathUnit} (h : u.batchOpen = false) :
    u.counts = [byteOf u.queue.length, byteOf u.staging.length, 0] := by
  rw [PathUnit.counts, h]
  rfl

/-- Past checks 1 to 3 of R59 the batch position handles the frame's segments. -/
theorem loadPath_of_checked (act : List ReadSegment → State → State × Answer) {p : Port} {bytes : List Byte}
    {segs : List ReadSegment} {s : State} (holder : s.holds p = true) (idle : s.axisBusy = false)
    (read : readSegments bytes = some segs) : loadPath act p bytes s = act segs s := by
  simp [loadPath, holder, idle, read]

/-- A frame from the holder, with both axes out of sessions and its bytes a list of segments, passes checks 1 to 3 of
R59 when it is delivered. -/
structure LoadChecked (f : Frame) (segs : List ReadSegment) (s : State) : Prop where
  len : f.payload.length ≤ 37
  ready : Ready s f.port
  holder : s.holds f.port = true
  idle : s.axisBusy = false
  read : readSegments f.payload = some segs

/-- The reply carries the counts of the path unit that the batch position leaves (R59). -/
theorem LoadChecked.request {dt : Nat} {f : Frame} {segs : List ReadSegment} {s t : State} (c : LoadChecked f segs s)
    {act : List ReadSegment → State → State × Answer} {status : Status} {more : List Byte}
    (handled : act segs (s.delivered dt f.port) = loadAnswer t status more)
    (now : t.now = (s.delivered dt f.port).now) :
    s.request dt 0x22 true f (loadPath act) = t.answered f.port 0x22 f.ref status (t.path.counts ++ more) := by
  have holder := (s.delivered_holds dt f.port f.port).trans c.holder
  have idle := (s.delivered_axisBusy dt f.port).trans c.idle
  exact State.request_eq_answered (Nat.le_succ_of_le c.len) c.ready
    ((loadPath_of_checked act holder idle c.read).trans handled) now

theorem exec_loadPathFirst {dt : Nat} {f : Frame} {s : State} (len : f.payload.length ≤ 37) :
    exec (.loadPathFirst dt f) s = .next (s.request dt 0x22 true f (loadPath loadFirst)) := if_neg len.not_gt

theorem exec_loadPathMiddle {dt : Nat} {f : Frame} {s : State} (len : f.payload.length ≤ 37) :
    exec (.loadPathMiddle dt f) s = .next (s.request dt 0x22 true f (loadPath loadMiddle)) := if_neg len.not_gt

/-! ## The positions FIRST and MIDDLE -/

/-- Whatever was staged is gone: the new batch holds the frame's segments alone (R60). -/
theorem loadFirst_eq (segs : List ReadSegment) (s : State) :
    loadFirst segs s =
      loadAnswer (s.setPath { s.path with staging := segs.map (·.seg), batchOpen := true }) (loadStatus segs) [] := rfl

theorem loadMiddle_of_closed (segs : List ReadSegment) {s : State} (h : s.path.batchOpen = false) :
    loadMiddle segs s = loadAnswer s .notNow [] := by
  simp [loadMiddle, h]

theorem loadMiddle_of_room {segs : List ReadSegment} {s : State} (h : s.path.batchOpen = true)
    (room : s.path.staging.length + segs.length ≤ 8) :
    loadMiddle segs s =
      loadAnswer (s.setPath { s.path with staging := s.path.staging ++ segs.map (·.seg) }) (loadStatus segs) [] := by
  rw [loadMiddle, h, Bool.not_true, if_neg Bool.false_ne_true, if_neg room.not_gt, State.stage, ← h]

theorem loadMiddle_of_excess {segs : List ReadSegment} {s : State} (h : s.path.batchOpen = true)
    (excess : 8 < s.path.staging.length + segs.length) :
    loadMiddle segs s =
      loadAnswer (s.setPath { s.path with staging := [], batchOpen := false }) .full
        [1, byteOf (8 - s.path.staging.length)] := by
  rw [loadMiddle, h, Bool.not_true, if_neg Bool.false_ne_true, if_pos excess]
  rfl

/-! ## The statements -/

/-- Settles O23: the staging area is discarded before the frame's segments are staged, so the batch is theirs alone. -/
theorem loadPathFirstOpensABatch : Obligations.LoadPathFirstOpensABatch := by
  intro dt p r bytes segs s len ready holder idle read
  have c : LoadChecked { port := p, ref := r, payload := bytes } segs s := ⟨len, ready, holder, idle, read⟩
  refine ⟨readSegments_length_le read, ?_⟩
  rw [exec_loadPathFirst c.len, c.request (loadFirst_eq segs _) rfl, State.setPath_path, PathUnit.counts_of_open rfl,
    State.delivered_path, List.length_map]
  rfl

/-- Settles O24: the three cases are those of the open batch and of the room in the staging area. -/
theorem loadPathMiddleAddsToTheBatch : Obligations.LoadPathMiddleAddsToTheBatch := by
  intro dt p r bytes segs s len ready holder idle read
  have c : LoadChecked { port := p, ref := r, payload := bytes } segs s := ⟨len, ready, holder, idle, read⟩
  have path := s.delivered_path dt p
  rw [exec_loadPathMiddle c.len]
  refine ⟨fun closed => ?noBatch, fun opened room => ?staged, fun opened excess => ?full⟩
  case noBatch =>
    rw [c.request (loadMiddle_of_closed segs (path ▸ closed)) rfl, path, PathUnit.counts_of_closed closed]
    rfl
  case staged =>
    rw [c.request (loadMiddle_of_room (path ▸ opened) (path ▸ room)) rfl, State.setPath_path, path,
      PathUnit.counts_of_open, List.length_append, List.length_map]
    · rfl
    · exact opened
  case full =>
    rw [c.request (loadMiddle_of_excess (path ▸ opened) (path ▸ excess)) rfl, State.setPath_path, path,
      PathUnit.counts_of_closed rfl]
    rfl

end Sys2Proof.Machine
end

section
/-! PROOFS. The end of a hold: what R80 leaves, what can still follow it inside the same command, and DROP_HOLD (R76, R80). -/

namespace Sys2Proof.Machine

/-! ## The first records of an operation -/

/-- Several events are handed to the log, one after the other. -/
def State.logEvents (es : List Event) (s : State) : State := es.foldl (fun u e => u.logEvent e) s

/-- The records that events leave in a log with room for them (R146). -/
def recordsAt (now : Nat) (es : List Event) : List EventRec := es.map (fun e => { event := e, stamp := stampOf now })

/-- To cut the front off first makes no difference to what fits. -/
theorem take_append_of_take {α : Type} (n : Nat) (xs ys : List α) : (xs.take n ++ ys).take n = (xs ++ ys).take n := by
  rw [List.take_append, List.take_append, List.take_take, Nat.min_self, List.length_take]
  congr 2
  omega

theorem State.logEvent_take (e : Event) (s : State) :
    (s.logEvent e).log.records.take 16 = (s.log.records ++ recordsAt s.now [e]).take 16 := by
  rw [State.logEvent, State.setLog_log, EventLog.append_records]
  split
  case isTrue => rfl
  case isFalse full => rw [List.take_append_of_le_length (Nat.le_of_not_lt full)]

/-- What the log holds after several events, as far as it has room for them (R147). -/
theorem State.logEvents_take (es : List Event) (s : State) :
    (s.logEvents es).log.records.take 16 = (s.log.records ++ recordsAt s.now es).take 16 := by
  induction es generalizing s with
  | nil => simp [State.logEvents, recordsAt]
  | cons e es ih =>
    calc ((s.logEvent e).logEvents es).log.records.take 16
        = ((s.logEvent e).log.records ++ recordsAt s.now es).take 16 := ih _
      _ = ((s.log.records ++ recordsAt s.now [e]) ++ recordsAt s.now es).take 16 := by
        rw [← take_append_of_take, State.logEvent_take, take_append_of_take]
      _ = (s.log.records ++ recordsAt s.now (e :: es)).take 16 := by
        rw [List.append_assoc]
        rfl

/-- Events logged before anything else are the first records since. -/
theorem LoggedFirst.of_logEvents {s t : State} {es : List Event} (now : t.now = s.now)
    (h : (s.logEvents es).log.records <+: t.log.records) : LoggedFirst s es t := by
  rw [LoggedFirst, now]
  exact s.logEvents_take es ▸ (List.take_prefix _ _).trans h

theorem LoggedFirst.grows {s t u : State} {es : List Event} (h : LoggedFirst s es t) (c : Consequence t u) :
    LoggedFirst s es u := by
  rw [LoggedFirst, c.now]
  exact h.trans c.grows.1

theorem Consequence.axis_meas {s t : State} (c : Consequence s t) (x : Axis) : (t.axis x).meas = (s.axis x).meas := by
  obtain ⟨tilt, -, steer, -⟩ := c.angles
  cases x
  · exact tilt
  · exact steer

/-! ## What can still follow the end of a hold -/

/-- No hold stands, and no routine or service session is under way. -/
structure State.Vacant (s : State) : Prop where
  hold : s.auth.hold = none
  slot : s.slot = .free ∨ ∃ n, s.slot = .storeProgramming n

/-- The hold, the path unit, the slot, the ports' items, the steer axis with its setpoint and the tilt axis's result stand; the
tilt setpoint stands or is seeded with the measurement (R33). -/
structure Undisturbed (s t : State) : Prop where
  auth : t.auth = s.auth
  path : t.path = s.path
  slot : t.slot = s.slot
  itemA : t.latch.itemA = s.latch.itemA
  itemB : t.latch.itemB = s.latch.itemB
  steer : t.steer = s.steer
  deltaS : t.solve.deltaS = s.solve.deltaS
  result : t.tilt.result = s.tilt.result
  meas : t.tilt.meas = s.tilt.meas
  phiS : t.solve.phiS = s.solve.phiS ∨ t.solve.phiS = s.tilt.meas

/-- From a vacant state, `t` is undisturbed after `s`. -/
def Inert (s t : State) : Prop := s.Vacant → Undisturbed s t

theorem Undisturbed.of {s t : State} (auth : t.auth = s.auth := by rfl) (path : t.path = s.path := by rfl)
    (slot : t.slot = s.slot := by rfl) (itemA : t.latch.itemA = s.latch.itemA := by rfl)
    (itemB : t.latch.itemB = s.latch.itemB := by rfl) (steer : t.steer = s.steer := by rfl)
    (deltaS : t.solve.deltaS = s.solve.deltaS := by rfl) (result : t.tilt.result = s.tilt.result := by rfl)
    (meas : t.tilt.meas = s.tilt.meas := by rfl)
    (phiS : t.solve.phiS = s.solve.phiS ∨ t.solve.phiS = s.tilt.meas := by exact .inl rfl) : Undisturbed s t :=
  ⟨auth, path, slot, itemA, itemB, steer, deltaS, result, meas, phiS⟩

theorem Undisturbed.refl (s : State) : Undisturbed s s := .of

theorem Undisturbed.trans {s t u : State} (h : Undisturbed s t) (k : Undisturbed t u) : Undisturbed s u where
  auth := k.auth.trans h.auth
  path := k.path.trans h.path
  slot := k.slot.trans h.slot
  itemA := k.itemA.trans h.itemA
  itemB := k.itemB.trans h.itemB
  steer := k.steer.trans h.steer
  deltaS := k.deltaS.trans h.deltaS
  result := k.result.trans h.result
  meas := k.meas.trans h.meas
  phiS := k.phiS.elim (fun e => h.phiS.imp e.trans e.trans) (fun e => .inr (e.trans h.meas))

theorem Undisturbed.vacant {s t : State} (h : Undisturbed s t) (v : s.Vacant) : t.Vacant :=
  ⟨h.auth ▸ v.hold, h.slot ▸ v.slot⟩

theorem Undisturbed.item {s t : State} (h : Undisturbed s t) (p : Port) : t.latch.item p = s.latch.item p := by
  cases p
  · exact h.itemA
  · exact h.itemB

theorem Undisturbed.axis_result {s t : State} (h : Undisturbed s t) (x : Axis) :
    (t.axis x).result = (s.axis x).result := by
  cases x
  · exact h.result
  · exact congrArg AxisCtl.result h.steer

/-- A setpoint that has been seeded stays seeded (R35). -/
theorem Undisturbed.seeded {s t : State} (h : Undisturbed s t) {x : Axis} (e : s.setpoint x = (s.axis x).meas) :
    t.setpoint x = (s.axis x).meas := by
  cases x
  · exact h.phiS.elim (fun k => k.trans e) id
  · exact h.deltaS.trans e

theorem Inert.of {s t : State} (h : Undisturbed s t := by exact .of) : Inert s t := fun _ => h

theorem Inert.refl (s : State) : Inert s s := .of

theorem Inert.trans {s t u : State} (h : Inert s t) (k : Inert t u) : Inert s u := fun v =>
  (h v).trans (k ((h v).vacant v))

theorem Inert.ite {s a b : State} (c : Prop) [Decidable c] (h : Inert s a) (k : Inert s b) :
    Inert s (if c then a else b) := by split <;> assumption

/-! ### What finds nothing to end -/

theorem State.Vacant.dropHold {s : State} (v : s.Vacant) (r : EndReason) : s.dropHold r = s := by
  rw [State.dropHold, v.hold]

theorem State.Vacant.abortSession {s : State} (v : s.Vacant) : s.abortSession = s := by
  rcases v.slot with e | ⟨n, e⟩ <;> rw [State.abortSession, e]

theorem State.Vacant.routineReady {s : State} (v : s.Vacant) : s.routineReady = none := by
  rcases v.slot with e | ⟨n, e⟩ <;> rw [State.routineReady, e]

theorem State.dropHold_inert (r : EndReason) (s : State) : Inert s (s.dropHold r) := fun v =>
  (v.dropHold r).symm ▸ .refl s

theorem State.abortSession_inert (s : State) : Inert s s.abortSession := fun v => v.abortSession.symm ▸ .refl s

/-! ### The latch controller's decisions -/

theorem State.takeLatch_inert (l : LatchState) (s : State) : Inert s (s.takeLatch l) := by
  unfold State.takeLatch
  refine .trans ?_ (.of (.of (result := AxisCtl.latchClosed_result ..) (meas := AxisCtl.latchClosed_meas ..)))
  exact .ite _ (.of (.of (phiS := .inr rfl))) .of

theorem State.setLatch_inert (l : LatchState) (s : State) : Inert s (s.setLatch l) :=
  .trans .of (State.takeLatch_inert l _)

theorem State.openWindow_inert (x : AttemptSet) (s : State) : Inert s (s.openWindow x) := by
  unfold State.openWindow
  refine .ite _ ?_ .of
  unfold State.succeedSet
  exact .trans .of (State.setLatch_inert _ _)

theorem State.beginSet_inert (d : Direction) (o : SetOrigin) (s : State) : Inert s (s.beginSet d o) :=
  .ite _ .of (State.openWindow_inert _ s)

theorem State.endPreload_inert (s : State) : Inert s s.endPreload :=
  .trans (.trans .of (State.setLatch_inert .releasing _)) (State.beginSet_inert .release .own _)

theorem State.beginRelease_inert (s : State) : Inert s s.beginRelease := by
  unfold State.beginRelease
  exact (State.setLatch_inert _ s).trans (.ite _ (State.endPreload_inert _) .of)

theorem State.abandonPreload_inert (s : State) : Inert s s.abandonPreload :=
  .trans .of (State.setLatch_inert .engaged _)

theorem State.beginPermitRelease_inert (s : State) : Inert s s.beginPermitRelease :=
  .trans (.trans .of (State.setLatch_inert .releasing _)) (State.beginSet_inert .release .permit _)

theorem State.beginEngage_inert (o : SetOrigin) (s : State) : Inert s (s.beginEngage o) :=
  (State.setLatch_inert _ s).trans (State.beginSet_inert _ _ _)

/-- The decisions that the latch controller can make (R116, R117, R119 to R121, R124). -/
theorem State.decideLatch_cases {s t : State} (h : s.decideLatch = some t) :
    t = s.beginPermitRelease ∨ t = s.beginRelease ∨ t = s.abandonPreload ∨ t = s.beginEngage .own ∨
      ∃ l, t = s.setLatch l := by
  unfold State.decideLatch at h
  split at h
  · cases h
  · split at h
    · split at h
      · exact .inl (Option.some.inj h).symm
      · split at h
        · exact .inr (.inl (Option.some.inj h).symm)
        · cases h
    · split at h
      · exact .inr (.inr (.inl (Option.some.inj h).symm))
      · cases h
    · cases h
    · split at h
      · exact .inr (.inr (.inr (.inl (Option.some.inj h).symm)))
      · cases h
    · cases h
    · split at h
      · exact .inr (.inr (.inr (.inr ⟨_, (Option.some.inj h).symm⟩)))
      · cases h
    · split at h
      · exact .inr (.inr (.inr (.inr ⟨_, (Option.some.inj h).symm⟩)))
      · cases h

theorem State.decideLatch_inert {s t : State} (h : s.decideLatch = some t) : Inert s t := by
  obtain rfl | rfl | rfl | rfl | ⟨l, rfl⟩ := State.decideLatch_cases h
  · exact State.beginPermitRelease_inert s
  · exact State.beginRelease_inert s
  · exact State.abandonPreload_inert s
  · exact State.beginEngage_inert .own s
  · exact State.setLatch_inert l s

theorem State.weighUncommanded_inert (s : State) : Inert s s.weighUncommanded := .ite _ .of (.refl s)

theorem State.hearLatch_inert (s : State) : Inert s s.hearLatch := by
  refine (State.weighUncommanded_inert s).trans
    (.trans (t := s.weighUncommanded.decideLatch.getD s.weighUncommanded) ?_ .of)
  cases h : s.weighUncommanded.decideLatch with
  | none => exact .refl _
  | some t => exact State.decideLatch_inert h

theorem State.restPreload_inert (s : State) : Inert s s.restPreload :=
  .ite _ (State.abandonPreload_inert s) (.refl s)

/-! ### Trips, combiners, conditions -/

/-- SAFE entry finds no hold to end (R81, R143). -/
theorem State.handGrade_inert (old : Grade) (s : State) : Inert s (s.handGrade old) := by
  unfold State.handGrade
  refine .trans (t := if old ≠ .lockdown && s.grade = .lockdown then s.hearLatch else s)
    (.ite _ (State.hearLatch_inert s) (.refl s)) (.ite _ ?_ (.refl _))
  exact ((State.dropHold_inert .safe _).trans (State.abortSession_inert _)).trans .of

theorem State.fireTrip_inert (id : TripId) (sev : Severity) (s : State) : Inert s (s.fireTrip id sev) :=
  .ite _ (.refl s) (.trans (t := s.addTrip id sev) .of (State.handGrade_inert _ _))

theorem State.evaluateCombiner_inert (q : Bool) (i : CombinerId) (s : State) : Inert s (s.evaluateCombiner q i) :=
  .ite _ .of .of

theorem State.evaluateTripUnit_inert (x : TripUnit) (s : State) : Inert s (s.evaluateTripUnit x) := by
  unfold State.evaluateTripUnit
  dsimp only
  refine .ite _ ?_ .of
  unfold State.fireTripUnit
  exact .trans .of (State.fireTrip_inert _ _ _)

theorem State.evaluateCombiners_inert (q old : Bool) (s : State) : Inert s (s.evaluateCombiners q old) :=
  have h := ((State.evaluateCombiner_inert q .c0 s).trans (State.evaluateCombiner_inert q .c1 _)).trans
    (State.evaluateCombiner_inert q .c2 _)
  .ite _ (h.trans (State.hearLatch_inert _)) h

theorem State.evaluateInputs_inert (q old : Bool) (s : State) : Inert s (s.evaluateInputs q old) :=
  ((State.evaluateCombiners_inert q old s).trans (State.evaluateTripUnit_inert .t1 _)).trans
    (State.evaluateTripUnit_inert .t2 _)

theorem State.takeCond_inert (c : Cond) (b : Bool) (s : State) : Inert s (s.takeCond c b) :=
  .trans (t := s.setInputs { s.inputs with conds := s.inputs.conds.put c b }) .of (State.evaluateInputs_inert false _ _)

theorem State.handOnN_inert (k : Nat) (s : State) : Inert s (s.handOnN k) := by
  induction k generalizing s with
  | zero => exact .refl s
  | succ k ih =>
    unfold State.handOnN
    split
    · exact .refl s
    · next x rest _ =>
      exact .trans (.trans (t := s.setChanges rest) .of (State.takeCond_inert x.1 x.2 _)) (ih _)

theorem State.handOn_inert (s : State) : Inert s s.handOn := State.handOnN_inert 32 s

/-! ### Settling -/

theorem State.settleN_inert (k : Nat) (s : State) : Inert s (s.settleN k) := by
  induction k generalizing s with
  | zero => exact (State.handOn_inert s).trans (State.restPreload_inert _)
  | succ k ih =>
    have heard := (State.handOn_inert s).trans (State.weighUncommanded_inert _)
    unfold State.settleN
    dsimp only
    split
    · next h => exact (heard.trans (State.decideLatch_inert h)).trans (ih _)
    · intro v
      rw [((heard v).vacant v).routineReady]
      exact heard v

/-- Settling a vacant part, trips of its trip units among it, leaves what the end of a hold has left. -/
theorem State.settle_inert (s : State) : Inert s s.settle := State.settleN_inert 8 s

/-! ## The end of a session -/

@[simp] theorem State.setAxis_axis (x : Axis) (a : AxisCtl) (s : State) : (s.setAxis x a).axis x = a := by
  cases x <;> rfl

@[simp] theorem State.setAxis_path (x : Axis) (a : AxisCtl) (s : State) : (s.setAxis x a).path = s.path := by
  cases x <;> rfl

@[simp] theorem State.setAxis_log (x : Axis) (a : AxisCtl) (s : State) : (s.setAxis x a).log = s.log := by
  cases x <;> rfl

@[simp] theorem State.setAxis_now (x : Axis) (a : AxisCtl) (s : State) : (s.setAxis x a).now = s.now := by
  cases x <;> rfl

@[simp] theorem State.setAxis_params (x : Axis) (a : AxisCtl) (s : State) : (s.setAxis x a).params = s.params := by
  cases x <;> rfl

@[simp] theorem State.leaveSession_path (x : Axis) (s : State) : (s.leaveSession x).path = s.path := by cases x <;> rfl

@[simp] theorem State.leaveSession_log (x : Axis) (s : State) : (s.leaveSession x).log = s.log := by cases x <;> rfl

/-- An axis that leaves its session has its setpoint seeded (R35, R95). -/
@[simp] theorem State.leaveSession_setpoint (x : Axis) (s : State) :
    (s.leaveSession x).setpoint x = (s.axis x).meas := by cases x <;> rfl

@[simp] theorem State.leaveSession_result (x : Axis) (s : State) :
    ((s.leaveSession x).axis x).result = (s.axis x).result := by cases x <;> rfl

/-- What is left of R103 for an abort: neither a write nor a slip. -/
theorem State.finishRoutine_aborted (r : Routine) (s : State) :
    s.finishRoutine r .aborted false =
      ((((s.setDrive r.axis 0).setResult r.axis
        { kind := some r.kind, outcome := .aborted, v1 := r.v1, v2 := r.v2, v3 := r.v3 }).logEvent
          (.routineEnd r.axis r.kind .aborted)).leaveSession r.axis).setSlot .free := rfl

@[simp] theorem State.logEvent_axis (e : Event) (s : State) (x : Axis) : (s.logEvent e).axis x = s.axis x := rfl

@[simp] theorem State.setSlot_axis (y : Slot) (s : State) (x : Axis) : (s.setSlot y).axis x = s.axis x := rfl

@[simp] theorem State.setSlot_setpoint (y : Slot) (s : State) (x : Axis) :
    (s.setSlot y).setpoint x = s.setpoint x := rfl

theorem State.finishRoutine_aborted_path (r : Routine) (s : State) :
    (s.finishRoutine r .aborted false).path = s.path := by
  simp [State.finishRoutine_aborted, State.logEvent, State.setResult, State.setDrive]

theorem State.finishRoutine_aborted_log (r : Routine) (s : State) :
    (s.finishRoutine r .aborted false).log = (s.logEvent (.routineEnd r.axis r.kind .aborted)).log := by
  simp [State.finishRoutine_aborted, State.logEvent, State.setResult, State.setDrive]

theorem State.finishRoutine_aborted_setpoint (r : Routine) (s : State) :
    (s.finishRoutine r .aborted false).setpoint r.axis = (s.axis r.axis).meas := by
  simp [State.finishRoutine_aborted, State.setResult, State.setDrive]

theorem State.finishRoutine_aborted_outcome (r : Routine) (s : State) :
    ((s.finishRoutine r .aborted false).axis r.axis).result.outcome = .aborted := by
  simp [State.finishRoutine_aborted, State.setResult]

theorem State.finishService_path (x : Axis) (s : State) : (s.finishService x).path = s.path := by
  simp [State.finishService, State.setDrive]

theorem State.finishService_setpoint (x : Axis) (s : State) : (s.finishService x).setpoint x = (s.axis x).meas := by
  simp [State.finishService, State.setDrive]

theorem State.abortSession_of_routine {r : Routine} {s : State} (h : s.slot = .routine r) :
    s.abortSession = s.finishRoutine r .aborted false := by
  rw [State.abortSession, h]

theorem State.abortSession_of_service {x : Axis} {d : Option StandingDrive} {s : State} (h : s.slot = .service x d) :
    s.abortSession = s.finishService x := by
  rw [State.abortSession, h]

theorem State.abortSession_path (s : State) : s.abortSession.path = s.path := by
  unfold State.abortSession
  split
  · exact State.finishRoutine_aborted_path ..
  · exact State.finishService_path ..
  · rfl
  · rfl

/-- An aborted session frees the slot, and store programming keeps it (R96). -/
theorem State.abortSession_slot (s : State) :
    s.abortSession.slot = .free ∨ ∃ n, s.abortSession.slot = .storeProgramming n := by
  unfold State.abortSession
  split
  · exact .inl rfl
  · exact .inl rfl
  · next h => exact .inl h
  · next n h => exact .inr ⟨n, h⟩

/-! ## The end of what a hold owns -/

/-- The first three consequences of R80: HOLD_END logged, the path unit empty, the session aborted. -/
def State.endOwned (reason : EndReason) (s : State) : State :=
  ((s.logEvent (.holdEnd reason)).setPath .empty).abortSession

theorem State.endOwned_consequence (reason : EndReason) (s : State) : Consequence s (s.endOwned reason) :=
  ((State.logEvent_consequence _ s).trans (State.setPath_consequence _ _)).trans (State.abortSession_consequence _)

theorem State.endOwned_path (reason : EndReason) (s : State) : (s.endOwned reason).path = .empty :=
  State.abortSession_path _

theorem State.endOwned_of_routine (reason : EndReason) {r : Routine} {s : State} (h : s.slot = .routine r) :
    s.endOwned reason = ((s.logEvent (.holdEnd reason)).setPath .empty).finishRoutine r .aborted false :=
  State.abortSession_of_routine (s := (s.logEvent (.holdEnd reason)).setPath .empty) h

theorem State.endOwned_of_service (reason : EndReason) {x : Axis} {d : Option StandingDrive} {s : State}
    (h : s.slot = .service x d) :
    s.endOwned reason = ((s.logEvent (.holdEnd reason)).setPath .empty).finishService x :=
  State.abortSession_of_service (s := (s.logEvent (.holdEnd reason)).setPath .empty) h

theorem State.endOwned_of_programming (reason : EndReason) {n : Nat} {s : State} (h : s.slot = .storeProgramming n) :
    (s.endOwned reason).slot = .storeProgramming n := by
  have kept : ((s.logEvent (.holdEnd reason)).setPath .empty).slot = .storeProgramming n := h
  rw [State.endOwned, State.abortSession, kept]
  exact kept

theorem State.endOwned_logged (reason : EndReason) (s : State) : LoggedFirst s [.holdEnd reason] (s.endOwned reason) :=
  .of_logEvents (State.endOwned_consequence reason s).now
    (State.abortSession_consequence ((s.logEvent (.holdEnd reason)).setPath .empty)).grows.1

theorem State.endOwned_logged_routine (reason : EndReason) {r : Routine} {s : State} (h : s.slot = .routine r) :
    LoggedFirst s [.holdEnd reason, .routineEnd r.axis r.kind .aborted] (s.endOwned reason) := by
  refine .of_logEvents (State.endOwned_consequence reason s).now ?_
  rw [State.endOwned_of_routine reason h, State.finishRoutine_aborted_log]
  exact List.prefix_refl _

/-! ## The end of the hold (R80) -/

theorem LatchUnit.setItem_item (l : LatchUnit) (p : Port) (i : DemandItem) : (l.setItem p i).item p = i := by
  cases p <;> rfl

theorem State.endPermit_eq (p : Port) (s : State) :
    ∃ l : LatchUnit, l.item p ≠ .permit ∧ s.endPermit p = s.setLatchUnit l := by
  unfold State.endPermit
  split
  · exact ⟨s.latch.setItem p .none, by rw [LatchUnit.setItem_item]; decide, rfl⟩
  · next h => exact ⟨s.latch, h, rfl⟩

/-- After the end of what the hold owned, only the speed unit, the hold record and the permit are left to end. -/
theorem State.endHoldCore_eq (h : Hold) (reason : EndReason) (s : State) :
    ∃ l : LatchUnit, l.item h.port ≠ .permit ∧ s.endHoldCore h reason =
      (((s.endOwned reason).setSpeed { (s.endOwned reason).speed with withheld := 0 }).setAuth
        { (s.endOwned reason).auth with hold := none }).setLatchUnit l :=
  State.endPermit_eq h.port _

theorem SameRider.ended {s t : State} (h : SameRider s t) :
    { t.auth with hold := none } = { s.auth with hold := none } := by
  rcases h with h | h <;> rw [h]

theorem SameSpeed.discarded {s t : State} (h : SameSpeed s t) :
    { t.speed with withheld := 0 } = { s.speed with withheld := 0 } := by
  rcases h with h | h <;> rw [h]

theorem State.endHoldCore_vacant (h : Hold) (reason : EndReason) (s : State) : (s.endHoldCore h reason).Vacant := by
  obtain ⟨l, -, core⟩ := State.endHoldCore_eq h reason s
  rw [core]
  exact ⟨rfl, State.abortSession_slot _⟩

theorem State.endHoldCore_ended (h : Hold) (reason : EndReason) (s : State) :
    HoldEnded reason h s (s.endHoldCore h reason) := by
  obtain ⟨l, permit, core⟩ := State.endHoldCore_eq h reason s
  have owned := State.endOwned_consequence reason s
  rw [core]
  exact {
    auth := owned.rider.ended
    path := State.endOwned_path reason s
    speed := owned.speed.discarded
    logged := State.endOwned_logged reason s
    permit := permit
    aborted := fun r hr => by
      refine ⟨?_, ?_, ?_, State.endOwned_logged_routine reason hr⟩ <;> rw [State.endOwned_of_routine reason hr]
      · rfl
      · exact State.finishRoutine_aborted_outcome r _
      · exact State.finishRoutine_aborted_setpoint r _
    source := rfl
    ended := fun x d hx => by
      rw [State.endOwned_of_service reason hx]
      exact ⟨rfl, State.finishService_setpoint x _⟩
    programming := fun n hn => State.endOwned_of_programming reason hn }

/-- With no hold the source is RIDER (R83). -/
theorem State.source_of_no_hold {s : State} (h : s.auth.hold = none) : s.source = .rider := by
  rw [State.source, h]

/-- What the end of a hold has left stands through whatever still follows it in the same command. -/
theorem HoldEnded.lasts {reason : EndReason} {h : Hold} {s t u : State} (e : HoldEnded reason h s t)
    (before : Consequence s t) (after : Consequence t u) (m : Undisturbed t u) : HoldEnded reason h s u where
  auth := m.auth.trans e.auth
  path := m.path.trans e.path
  speed := by
    have same := after.speed
    rw [SameSpeed, e.speed] at same
    exact same.elim id id
  logged := e.logged.grows after
  permit := m.item h.port ▸ e.permit
  aborted r hr := by
    obtain ⟨slot, outcome, setpoint, logged⟩ := e.aborted r hr
    have meas := before.axis_meas r.axis
    exact ⟨m.slot.trans slot, (congrArg _ (m.axis_result r.axis)).trans outcome,
      (m.seeded (setpoint.trans meas.symm)).trans meas, logged.grows after⟩
  source := State.source_of_no_hold (by rw [m.auth, e.auth])
  ended x d hx := by
    obtain ⟨slot, setpoint⟩ := e.ended x d hx
    have meas := before.axis_meas x
    exact ⟨m.slot.trans slot, (m.seeded (setpoint.trans meas.symm)).trans meas⟩
  programming n hn := m.slot.trans (e.programming n hn)

/-- The end of a hold, with all that it sets off inside the part, leaves what R80 says. -/
theorem State.endHold_settle_ended (reason : EndReason) {h : Hold} {s : State} (hold : s.auth.hold = some h) :
    HoldEnded reason h s (s.endHold reason).settle := by
  have eq : s.endHold reason = (s.endHoldCore h reason).handOn := by
    rw [State.endHold, State.dropHold, hold]
    rfl
  rw [eq]
  exact (State.endHoldCore_ended h reason s).lasts (State.endHoldCore_consequence h reason s)
    ((State.handOn_consequence _).trans (State.settle_consequence _))
    (((State.handOn_inert _).trans (State.settle_inert _)) (State.endHoldCore_vacant h reason s))

/-! ## A request that has been delivered and answered -/

/-- Beside the time and the receiver, delivery touches only the holder's last contact (R72). -/
theorem State.delivered_eq (dt : Nat) (p : Port) (s : State) :
    s.delivered dt p = ((s.advance dt).rxHunt p).setAuth
      { s.auth with hold := s.auth.hold.map (Hold.refreshed p (s.now + dt)) } := by
  rw [State.delivered, State.refresh_eq]
  cases p <;> rfl

@[simp] theorem State.delivered_params (dt : Nat) (p : Port) (s : State) : (s.delivered dt p).params = s.params := by
  rw [State.delivered_eq]
  cases p <;> rfl

@[simp] theorem State.delivered_store (dt : Nat) (p : Port) (s : State) : (s.delivered dt p).store = s.store := by
  rw [State.delivered_eq]
  cases p <;> rfl

@[simp] theorem State.answered_params (p : Port) (kind ref : Byte) (status : Status) (payload : List Byte) (s : State) :
    (s.answered p kind ref status payload).params = s.params := by
  cases p <;> rfl

@[simp] theorem State.answered_store (p : Port) (kind ref : Byte) (status : Status) (payload : List Byte) (s : State) :
    (s.answered p kind ref status payload).store = s.store := by
  cases p <;> rfl

theorem State.delivered_hold {dt : Nat} {p : Port} {s : State} {h : Hold} (hold : s.auth.hold = some h) :
    (s.delivered dt p).auth.hold = some (h.refreshed p (s.now + dt)) := by
  rw [State.delivered_eq, State.setAuth_auth, hold]
  rfl

/-- A hold that has ended after the delivery of a request has ended since before it. -/
theorem HoldEnded.of_delivered {reason : EndReason} {dt n : Nat} {p : Port} {h : Hold} {s t : State}
    (e : HoldEnded reason (h.refreshed p n) (s.delivered dt p) t) : HoldEnded reason h s t := by
  rw [State.delivered_eq] at e
  cases p <;> exact { e with permit := Hold.refreshed_port _ n h ▸ e.permit }

/-- A reply at a port changes nothing that the end of a hold speaks of. -/
theorem HoldEnded.answered {reason : EndReason} {h : Hold} {s t : State} (e : HoldEnded reason h s t) (p : Port)
    (kind ref : Byte) (status : Status) (payload : List Byte) :
    HoldEnded reason h s (t.answered p kind ref status payload) := by
  cases p <;> exact { e with }

theorem State.answered_replied (t : State) (p : Port) (kind ref : Byte) (status : Status) (payload : List Byte) :
    Replied (t.answered p kind ref status payload) p kind ref status payload := by
  cases p <;> exact ⟨rfl, rfl⟩

/-- The owner of a request that changes the part by consequences alone leaves the request's frame. -/
theorem Consequence.requestFrame {dt : Nat} {p : Port} {s t : State} (c : Consequence (s.delivered dt p) t)
    (kind ref : Byte) (status : Status) (payload : List Byte) :
    RequestFrame dt p s (t.answered p kind ref status payload) := by
  have rider := c.rider.ended
  rw [State.delivered_eq] at c rider
  cases p
  case a => exact ⟨c.now, c.outside.pending, c.outside.pins, c.outside.portB, c.targets, c.angles, c.switches,
    c.latchClock, c.grows.1, rider⟩
  case b => exact ⟨c.now, c.outside.pending, c.outside.pins, c.outside.portA, c.targets, c.angles, c.switches,
    c.latchClock, c.grows.1, rider⟩

/-! ## The statement -/

theorem handleDropHold_of_holder {p : Port} {s : State} (holder : s.holds p = true) :
    handleDropHold p [] s = ((s.endHold .dropped).settle, okAnswer []) := by
  simp [handleDropHold, holder]

theorem handleDropHold_of_other {p : Port} {s : State} (other : s.holds p = false) :
    handleDropHold p [] s = refuse s .notHolder [] := by
  simp [handleDropHold, other]

/-- DROP_HOLD with an empty payload is answered from the state that its owner leaves. -/
theorem exec_dropHold {dt : Nat} {p : Port} {r : Byte} {s t : State} {a : Answer} (ready : Ready s p)
    (handled : handleDropHold p [] (s.delivered dt p) = (t, a)) (now : t.now = (s.delivered dt p).now) :
    exec (.dropHold dt { port := p, ref := r, payload := [] }) s = .next (t.answered p 0x21 r a.status a.payload) :=
  congrArg Host.Outcome.next
    (State.request_eq_answered (f := { port := p, ref := r, payload := [] }) (Nat.zero_le 38) ready handled now)

/-- Settles O30: the holder's hold ends as R80 says and what still follows in the command finds nothing left to end; any other
port is refused in the state in which delivery left the part. -/
theorem dropHoldEndsTheHold : Obligations.DropHoldEndsTheHold := by
  intro dt p r s ready
  refine ⟨fun h hold port => ?holder, fun other => ?other⟩
  case holder =>
    have holder : (s.delivered dt p).holds p = true := by
      rw [State.delivered_holds, State.holds, hold]
      simp [port]
    have ends : Consequence (s.delivered dt p) ((s.delivered dt p).endHold .dropped).settle :=
      (State.endHold_consequence .dropped _).trans (State.settle_consequence _)
    have ended := (State.endHold_settle_ended .dropped (State.delivered_hold (dt := dt) (p := p) hold)).of_delivered
    refine ⟨_, exec_dropHold ready (handleDropHold_of_holder holder) ends.now, ended.answered .., State.answered_replied ..,
      ends.requestFrame .., ?settings, ?store⟩
    case settings => rw [SameSettings, State.answered_params, ends.settings, State.delivered_params]
    case store => rw [State.answered_store, ends.outside.store, State.delivered_store]
  case other =>
    exact exec_dropHold ready (handleDropHold_of_other ((s.delivered_holds dt p p).trans other)) rfl

end Sys2Proof.Machine
end

section
/-! PROOFS. The CRC-8 of frames as polynomial division, and where the link uses it (R155). -/

namespace Sys2Proof.Machine

open Polynomial

/-! ## Bits as polynomials over the two-element field -/

/-- A bit as a coefficient. -/
noncomputable def bitCoeff (bit : Bool) : (ZMod 2)[X] := if bit then 1 else 0

/-- A bit is appended to the bit string of `m`: the powers rise by one and the bit becomes the constant coefficient. -/
noncomputable def appendBit (m : (ZMod 2)[X]) (bit : Bool) : (ZMod 2)[X] := m * X + bitCoeff bit

/-- The polynomial of a bit string, the highest power first. -/
noncomputable def bitsPoly (bits : List Bool) : (ZMod 2)[X] := bits.foldl appendBit 0

/-- The bits of a byte, most significant first. -/
def byteBits (b : Byte) : List Bool := (List.range 8).map (fun i => b.getLsbD (7 - i))

/-- The polynomial of a byte. -/
noncomputable def bytePoly (b : Byte) : (ZMod 2)[X] := bitsPoly (byteBits b)

/-- The generator polynomial of R155. -/
noncomputable def crcPoly : (ZMod 2)[X] := X ^ 8 + X ^ 2 + X + 1

@[simp] theorem bitCoeff_true : bitCoeff true = 1 := rfl

@[simp] theorem bitCoeff_false : bitCoeff false = 0 := rfl

theorem bitCoeff_xor (a b : Bool) : bitCoeff (a ^^ b) = bitCoeff a + bitCoeff b := by
  cases a <;> cases b <;> simp [CharTwo.add_self_eq_zero]

theorem foldl_appendBit (m : (ZMod 2)[X]) (bits : List Bool) :
    bits.foldl appendBit m = m * X ^ bits.length + bitsPoly bits := by
  induction bits generalizing m with
  | nil => simp [bitsPoly]
  | cons bit rest ih =>
    rw [bitsPoly, List.foldl_cons, List.foldl_cons, ih (appendBit m bit), ih (appendBit 0 bit), List.length_cons,
      appendBit, appendBit]
    ring

theorem bytePoly_eq_sum (b : Byte) : bytePoly b = ∑ i ∈ Finset.range 8, bitCoeff (b.getLsbD i) * X ^ i := by
  simp only [bytePoly, bitsPoly, byteBits, appendBit, List.range_succ, List.range_zero, List.nil_append, List.map_append,
    List.map_cons, List.map_nil, List.foldl_append, List.foldl_cons, List.foldl_nil, Finset.sum_range_succ,
    Finset.sum_range_zero]
  ring

theorem bytePoly_zero : bytePoly 0 = 0 := by simp [bytePoly_eq_sum]

/-- The low byte of the generator. -/
theorem bytePoly_generator : bytePoly 0x07#8 = X ^ 2 + X + 1 := by
  simp [bytePoly_eq_sum, Finset.sum_range_succ]
  ring

theorem bytePoly_xor (a b : Byte) : bytePoly (a ^^^ b) = bytePoly a + bytePoly b := by
  simp [bytePoly_eq_sum, bitCoeff_xor, add_mul, Finset.sum_add_distrib]

/-- To shift left by one is to multiply by X; the bit that falls out is the coefficient of the eighth power. -/
theorem X_mul_bytePoly (c : Byte) : X * bytePoly c = bitCoeff (c.getLsbD 7) * X ^ 8 + bytePoly (c <<< 1) := by
  simp [bytePoly_eq_sum, Finset.sum_range_succ]
  ring

/-! ## Division by the generator -/

/-- One step of the CRC multiplies by X and takes off the generator when a one fell out. -/
theorem X_mul_bytePoly_crcBit (c : Byte) :
    X * bytePoly c = bitCoeff (c.getLsbD 7) * crcPoly + bytePoly (crcBit c) := by
  rw [X_mul_bytePoly, crcBit]
  cases c.getLsbD 7 with
  | false => simp
  | true =>
    have twice : (2 : (ZMod 2)[X]) = 0 := CharTwo.two_eq_zero
    rw [if_pos rfl, bytePoly_xor, bytePoly_generator, crcPoly, bitCoeff_true]
    linear_combination (-(X ^ 2 + X + 1)) * twice

/-- The residue of a polynomial modulo the generator. -/
noncomputable def residue : (ZMod 2)[X] →+* AdjoinRoot crcPoly := AdjoinRoot.mk crcPoly

theorem residue_crcPoly : residue crcPoly = 0 := AdjoinRoot.mk_self

theorem residue_eq_iff {a b : (ZMod 2)[X]} : residue a = residue b ↔ ∃ q, a = q * crcPoly + b := by
  rw [residue, AdjoinRoot.mk_eq_mk, dvd_iff_exists_eq_mul_left]
  simp only [sub_eq_iff_eq_add]

theorem residue_crcBit (c : Byte) : residue (bytePoly (crcBit c)) = residue X * residue (bytePoly c) := by
  rw [← map_mul, X_mul_bytePoly_crcBit, map_add, map_mul, residue_crcPoly, mul_zero, zero_add]

theorem residue_crcByte (c b : Byte) :
    residue (bytePoly (crcByte c b)) = residue X ^ 8 * (residue (bytePoly c) + residue (bytePoly b)) := by
  rw [← map_add, ← bytePoly_xor]
  simp only [crcByte, residue_crcBit]
  ring

/-- The register of the CRC follows the message with eight zero bits behind it, byte by byte. -/
theorem residue_foldl_crcByte {m : (ZMod 2)[X]} {c : Byte} (h : residue (m * X ^ 8) = residue (bytePoly c))
    (bs : List Byte) :
    residue ((bs.flatMap byteBits).foldl appendBit m * X ^ 8) = residue (bytePoly (bs.foldl crcByte c)) := by
  induction bs generalizing m c with
  | nil => exact h
  | cons b rest ih =>
    rw [List.flatMap_cons, List.foldl_append, List.foldl_cons]
    refine ih ?_
    have taken : (byteBits b).foldl appendBit m = m * X ^ 8 + bytePoly b := foldl_appendBit m (byteBits b)
    rw [taken, residue_crcByte, ← h, ← map_add, ← map_pow, ← map_mul, mul_comm]

theorem residue_crc8 (bs : List Byte) :
    residue (bitsPoly (bs.flatMap byteBits) * X ^ 8) = residue (bytePoly (crc8 bs)) :=
  residue_foldl_crcByte (by rw [zero_mul, bytePoly_zero]) bs

/-- The CRC is the remainder of the message, followed by eight zero bits, on division by the generator (R155). -/
theorem crc8_division (bs : List Byte) :
    ∃ q, bitsPoly (bs.flatMap byteBits) * X ^ 8 = q * crcPoly + bytePoly (crc8 bs) :=
  residue_eq_iff.mp (residue_crc8 bs)

/-- The STATUS request that R155 works out, byte by byte. -/
theorem crc8_statusRequest : crc8 [0x02, 0x01, 0x07] = 0xD6 := by
  have first : crcByte 0 0x02 = 0x0E := by decide
  have second : crcByte 0x0E 0x01 = 0x2D := by decide
  have third : crcByte 0x2D 0x07 = 0xD6 := by decide
  simp only [crc8, List.foldl_cons, List.foldl_nil, first, second, third]

/-! ## Replies -/

/-- The kind of a reply is the request's with its top bit set (R159). -/
theorem replyKind_toNat {kind : Byte} (h : kind.toNat < 0x80) : (kind + 0x80#8).toNat = kind.toNat + 0x80 :=
  BitVec.toNat_add_of_lt (Nat.add_lt_add_right h 0x80)

theorem State.setPort_port (s : State) (p : Port) (r : PortRec) : (s.setPort p r).port p = r := by cases p <;> rfl

theorem State.occupy_tx (p : Port) (x : Held) (s : State) :
    ((s.occupy p x).port p).tx = (replyFrame x.kind x.ref x.answer).map .of := by
  rw [State.occupy, State.setPort_port]

theorem State.occupy_tx_data (p : Port) (x : Held) (s : State) :
    ((s.occupy p x).port p).tx.map (·.data) = replyFrame x.kind x.ref x.answer := by
  rw [State.occupy_tx, List.map_map]
  exact List.map_id _

/-! ## The receiver in CHECK -/

theorem State.advance_port (dt : Nat) (s : State) (p : Port) : (s.advance dt).port p = s.port p := by cases p <;> rfl

theorem PortRec.late_of_le {r : PortRec} {now : Nat} (h : now ≤ r.lastEnd + 2044) : r.late now = false := by
  simp [PortRec.late, h]

/-- A right character that is in time goes to the receiver as its byte (R153, R156). -/
theorem exec_receivedCharacter {dt : Nat} {p : Port} {c : Character} {s : State}
    (inTime : s.now + dt ≤ (s.port p).lastEnd + 2044) (good : c.good = true) :
    exec (.receivedCharacter dt p c) s = .next ((s.advance dt).receive p c.data) := by
  have notLate : ((s.advance dt).port p).late (s.advance dt).now = false := by
    rw [State.advance_port]
    exact PortRec.late_of_le inTime
  calc exec (.receivedCharacter dt p c) s
    _ = execReceivedCharacter dt p c s := rfl
    _ = .next ((s.advance dt).receiveCharacter p c) := if_neg (ne_true_of_eq_false notLate)
    _ = .next ((s.advance dt).receive p c.data) := congrArg _ (if_pos good)

/-- In CHECK a byte completes the frame or abandons it (R154, R156). -/
theorem State.receive_of_check {p : Port} {s : State} (check : (s.port p).rx = .check) (b : Byte) :
    s.receive p b = if b = (s.port p).crc then s.complete p else s.rxHunt p := by
  rw [State.receive, check]

theorem exec_receivedCharacter_of_check {dt : Nat} {p : Port} {c : Character} {s : State}
    (check : (s.port p).rx = .check) (inTime : s.now + dt ≤ (s.port p).lastEnd + 2044) (good : c.good = true) :
    exec (.receivedCharacter dt p c) s =
      .next (if c.data = (s.port p).crc then (s.advance dt).complete p else (s.advance dt).rxHunt p) := by
  rw [exec_receivedCharacter inTime good, State.receive_of_check ((congrArg _ (s.advance_port dt p)).trans check),
    State.advance_port]

/-! ## The statement -/

/-- Settles O53: the register's residue modulo the generator follows the message (`residue_foldl_crcByte`), and the reply and
the receiver use that CRC. -/
theorem framesCarryTheCrc : Obligations.FramesCarryTheCrc := by
  refine ⟨crc8_division, rfl, crc8_statusRequest, fun kind ref a => ?reply, State.occupy_tx_data,
    fun dt p c s check inTime good => ?request⟩
  case reply => exact ⟨_, kind + 0x80#8, rfl, rfl, replyKind_toNat⟩
  case request =>
    rw [exec_receivedCharacter_of_check check inTime good]
    exact ⟨fun same => congrArg _ (if_pos same), fun other => congrArg _ (if_neg other)⟩

end Sys2Proof.Machine
end

section
/-! PROOFS. What the operations inside a command keep: the moves of the latch controller, the ends of sessions and of the hold,
trips, and settling. -/

namespace Sys2Proof.Machine

/-! ## The moves of the latch controller -/

/-- A move of the latch controller: the latch state, its pulse and attempt set, the log, the changes that wait, the tilt drive
and what R33 captures are all that it touches. -/
structure LatchMove (s t : State) : Prop where
  now : t.now = s.now
  outside : SameOutside s t
  speed : t.speed = s.speed
  path : t.path = s.path
  auth : t.auth = s.auth
  steer : t.steer = s.steer
  slot : t.slot = s.slot
  params : t.params = s.params
  tilt : t.tilt.undriven = s.tilt.undriven
  targets : SameTargets s t
  deltaS : t.solve.deltaS = s.solve.deltaS
  phiS : t.solve.phiS = s.solve.phiS ∨ t.solve.phiS = s.tilt.meas
  captured : t.solve.captured = s.solve.captured ∨ t.solve.captured = s.tilt.meas
  inputs : { t.inputs with changes := [] } = { s.inputs with changes := [] }
  clock : SameLatchClock s t
  itemA : t.latch.itemA = s.latch.itemA
  itemB : t.latch.itemB = s.latch.itemB
  records : s.log.records <+: t.log.records
  bounded : s.LogBounded → t.LogBounded

theorem LatchMove.of {s t : State} (now : t.now = s.now := by rfl) (outside : SameOutside s t := by exact ⟨rfl, rfl, rfl, rfl, rfl⟩)
    (speed : t.speed = s.speed := by rfl) (path : t.path = s.path := by rfl) (auth : t.auth = s.auth := by rfl)
    (steer : t.steer = s.steer := by rfl) (slot : t.slot = s.slot := by rfl) (params : t.params = s.params := by rfl)
    (tilt : t.tilt.undriven = s.tilt.undriven := by rfl) (targets : SameTargets s t := by exact rfl)
    (deltaS : t.solve.deltaS = s.solve.deltaS := by rfl)
    (phiS : t.solve.phiS = s.solve.phiS ∨ t.solve.phiS = s.tilt.meas := by exact .inl rfl)
    (captured : t.solve.captured = s.solve.captured ∨ t.solve.captured = s.tilt.meas := by exact .inl rfl)
    (inputs : { t.inputs with changes := [] } = { s.inputs with changes := [] } := by rfl)
    (clock : SameLatchClock s t := by exact ⟨rfl, rfl, rfl, rfl, rfl, rfl⟩)
    (itemA : t.latch.itemA = s.latch.itemA := by rfl) (itemB : t.latch.itemB = s.latch.itemB := by rfl)
    (records : s.log.records <+: t.log.records := by exact List.prefix_refl _)
    (bounded : s.LogBounded → t.LogBounded := by exact id) : LatchMove s t :=
  ⟨now, outside, speed, path, auth, steer, slot, params, tilt, targets, deltaS, phiS, captured, inputs, clock, itemA, itemB,
    records, bounded⟩

theorem LatchMove.refl (s : State) : LatchMove s s := .of

theorem LatchMove.tilt_meas {s t : State} (h : LatchMove s t) : t.tilt.meas = s.tilt.meas :=
  (congrArg AxisCtl.meas h.tilt :)

theorem LatchMove.tilt_valid {s t : State} (h : LatchMove s t) : t.tilt.valid = s.tilt.valid :=
  (congrArg AxisCtl.valid h.tilt :)

theorem LatchMove.tilt_mode {s t : State} (h : LatchMove s t) : t.tilt.mode = s.tilt.mode :=
  (congrArg AxisCtl.mode h.tilt :)

theorem LatchMove.switch {s t : State} (h : LatchMove s t) : SameSwitches s t := fun i => by
  have e := h.inputs
  cases i
  · exact (congrArg InputUnit.stand e :)
  · exact (congrArg InputUnit.seat e :)
  · exact (congrArg InputUnit.brake e :)
  · exact (congrArg InputUnit.parkbtn e :)
  · exact (congrArg InputUnit.lift e :)
  · exact (congrArg InputUnit.key e :)

theorem LatchMove.trips {s t : State} (h : LatchMove s t) : t.inputs.trips = s.inputs.trips :=
  (congrArg InputUnit.trips h.inputs :)

theorem LatchMove.trans {s t u : State} (h : LatchMove s t) (k : LatchMove t u) : LatchMove s u where
  now := k.now.trans h.now
  outside := h.outside.trans k.outside
  speed := k.speed.trans h.speed
  path := k.path.trans h.path
  auth := k.auth.trans h.auth
  steer := k.steer.trans h.steer
  slot := k.slot.trans h.slot
  params := k.params.trans h.params
  tilt := k.tilt.trans h.tilt
  targets := k.targets.trans h.targets
  deltaS := k.deltaS.trans h.deltaS
  phiS := k.phiS.elim (fun e => h.phiS.imp e.trans e.trans) (fun e => .inr (e.trans h.tilt_meas))
  captured := k.captured.elim (fun e => h.captured.imp e.trans e.trans) (fun e => .inr (e.trans h.tilt_meas))
  inputs := k.inputs.trans h.inputs
  clock := by
    obtain ⟨a, b, c, d, e, f⟩ := h.clock
    obtain ⟨a', b', c', d', e', f'⟩ := k.clock
    exact ⟨a'.trans a, b'.trans b, c'.trans c, d'.trans d, e'.trans e, f'.trans f⟩
  itemA := k.itemA.trans h.itemA
  itemB := k.itemB.trans h.itemB
  records := h.records.trans k.records
  bounded := k.bounded ∘ h.bounded

theorem LatchMove.ite {s a b : State} (c : Prop) [Decidable c] (h : LatchMove s a) (k : LatchMove s b) :
    LatchMove s (if c then a else b) := by split <;> assumption

theorem LatchMove.consequence {s t : State} (h : LatchMove s t) : Consequence s t where
  now := h.now
  outside := h.outside
  speed := .inl h.speed
  targets := h.targets
  rider := .inl h.auth
  angles := ⟨h.tilt_meas, h.tilt_valid, congrArg AxisCtl.meas h.steer, congrArg AxisCtl.valid h.steer⟩
  switches := h.switch
  settings := congrArg Params.unlearned h.params
  latchClock := h.clock
  grows := ⟨h.records, h.trips ▸ List.prefix_refl _⟩

theorem State.logEvent_bounded (e : Event) (s : State) : s.LogBounded → (s.logEvent e).LogBounded :=
  EventLog.append_bounded _ _ _ _

theorem State.logEvent_latchMove (e : Event) (s : State) : LatchMove s (s.logEvent e) :=
  .of (records := EventLog.append_prefix ..) (bounded := State.logEvent_bounded e s)

theorem AxisCtl.latchClosed_undriven (a : AxisCtl) (l : LatchState) : (a.latchClosed l).undriven = a.undriven := by
  unfold AxisCtl.latchClosed
  split <;> rfl

theorem State.takeLatch_latchMove (l : LatchState) (s : State) : LatchMove s (s.takeLatch l) := by
  unfold State.takeLatch
  refine .trans ?_ (.of (tilt := AxisCtl.latchClosed_undriven ..))
  exact .ite _ (.of (phiS := .inr rfl) (captured := .inr rfl)) .of

theorem State.setLatch_latchMove (l : LatchState) (s : State) : LatchMove s (s.setLatch l) :=
  (State.logEvent_latchMove _ s).trans (State.takeLatch_latchMove l _)

theorem State.setSet_latchMove (x : Option AttemptSet) (s : State) : LatchMove s (s.setSet x) := .of

theorem State.succeedSet_latchMove (d : Direction) (s : State) : LatchMove s (s.succeedSet d) :=
  (State.setSet_latchMove none s).trans (State.setLatch_latchMove _ _)

theorem State.openWindow_latchMove (x : AttemptSet) (s : State) : LatchMove s (s.openWindow x) := by
  unfold State.openWindow
  exact .trans (t := s.startPulse x.direction) .of
    ((State.setSet_latchMove _ _).trans (.ite _ (State.succeedSet_latchMove _ _) (.refl _)))

theorem State.startAttempt_latchMove (x : AttemptSet) (s : State) : LatchMove s (s.startAttempt x) :=
  .ite _ (State.setSet_latchMove _ s) (State.openWindow_latchMove x s)

theorem State.beginSet_latchMove (d : Direction) (o : SetOrigin) (s : State) : LatchMove s (s.beginSet d o) :=
  State.startAttempt_latchMove _ s

theorem State.endPreload_latchMove (s : State) : LatchMove s s.endPreload :=
  .trans (.trans .of (State.setLatch_latchMove .releasing _)) (State.beginSet_latchMove .release .own _)

theorem State.beginRelease_latchMove (s : State) : LatchMove s s.beginRelease := by
  unfold State.beginRelease
  exact (State.setLatch_latchMove _ s).trans (.ite _ (State.endPreload_latchMove _) .of)

theorem State.abandonPreload_latchMove (s : State) : LatchMove s s.abandonPreload :=
  .trans .of (State.setLatch_latchMove .engaged _)

theorem State.beginDirectRelease_latchMove (o : SetOrigin) (s : State) : LatchMove s (s.beginDirectRelease o) :=
  (State.setLatch_latchMove _ s).trans (State.beginSet_latchMove _ _ _)

theorem State.beginPermitRelease_latchMove (s : State) : LatchMove s s.beginPermitRelease :=
  .trans .of (State.beginDirectRelease_latchMove .permit _)

theorem State.beginEngage_latchMove (o : SetOrigin) (s : State) : LatchMove s (s.beginEngage o) :=
  (State.setLatch_latchMove _ s).trans (State.beginSet_latchMove _ _ _)

theorem State.decideLatch_latchMove {s t : State} (h : s.decideLatch = some t) : LatchMove s t := by
  obtain rfl | rfl | rfl | rfl | ⟨l, rfl⟩ := State.decideLatch_cases h
  · exact State.beginPermitRelease_latchMove s
  · exact State.beginRelease_latchMove s
  · exact State.abandonPreload_latchMove s
  · exact State.beginEngage_latchMove .own s
  · exact State.setLatch_latchMove l s

theorem State.weighUncommanded_latchMove (s : State) : LatchMove s s.weighUncommanded := .ite _ .of (.refl s)

theorem State.setChanges_latchMove (x : List (Cond × Bool)) (s : State) : LatchMove s (s.setChanges x) := .of

theorem State.announce_latchMove (s : State) : LatchMove s s.announce := State.setChanges_latchMove _ s

theorem State.hearLatch_latchMove (s : State) : LatchMove s s.hearLatch := by
  refine (State.weighUncommanded_latchMove s).trans (LatchMove.trans ?_ (State.announce_latchMove _))
  cases h : s.weighUncommanded.decideLatch with
  | none => exact .refl _
  | some t => exact State.decideLatch_latchMove h

theorem State.restPreload_latchMove (s : State) : LatchMove s s.restPreload :=
  .ite _ (State.abandonPreload_latchMove s) (.refl s)

theorem State.askSet_latchMove (d : Direction) (s : State) : LatchMove s (s.askSet d) := by
  unfold State.askSet
  refine .ite _ (.refl s) ?_
  cases d with
  | engage => exact State.beginEngage_latchMove .routine s
  | release => exact State.beginDirectRelease_latchMove .routine s

theorem State.askWaiting_latchMove (s : State) : LatchMove s s.askWaiting := by
  unfold State.askWaiting
  split
  · exact .ite _ (.refl s)
      (.ite _ (State.askSet_latchMove .release s) (.ite _ (State.askSet_latchMove .engage s) (.refl s)))
  all_goals exact .refl s

/-! ## The session of the slot and the axis modes -/

/-- The axis that the slot's occupant has, and the mode that the axis is in with it (R96). -/
def Slot.session : Slot → Option (Axis × AxisMode)
  | .free => none
  | .routine r => some (r.axis, .routine)
  | .service x _ => some (x, .service)
  | .storeProgramming _ => none

theorem Slot.session_routine (y : Slot) (x : Axis) :
    (∃ r, y = .routine r ∧ r.axis = x) ↔ y.session = some (x, .routine) := by
  cases y <;> simp [Slot.session]

theorem Slot.session_service (y : Slot) (x : Axis) : (∃ d, y = .service x d) ↔ y.session = some (x, .service) := by
  cases y <;> simp [Slot.session]

/-- A mode that an axis has only in a session. -/
def AxisMode.ofSession (m : AxisMode) : Prop := m = .routine ∨ m = .service

theorem Slot.ofSession_of_session {y : Slot} {x : Axis} {m : AxisMode} (h : y.session = some (x, m)) : m.ofSession := by
  cases y <;> simp_all [Slot.session, AxisMode.ofSession]

theorem returnedMode_not_ofSession (r : Option ReturnMode) : ¬(returnedMode r).ofSession := by
  rcases r with _ | _ | _ <;> simp [returnedMode, AxisMode.ofSession]

/-- What `State.SessionShape` says of the slot, the modes, the hold and the run state. -/
structure State.Seats (s : State) : Prop where
  modes : ∀ x m, m.ofSession → ((s.axis x).mode = m ↔ s.slot.session = some (x, m))
  held : s.slot.session ≠ none → s.auth.hold ≠ none
  parked : s.latch.run = .parked → s.auth.hold = none ∧ s.tilt.mode = .off ∧ s.steer.mode = .off

/-- Under a SAFE grade there is no hold (R143). -/
def State.SafeFree (s : State) : Prop := s.grade ≠ .none → s.auth.hold = none

theorem State.sessionShape_iff (s : State) : s.SessionShape ↔ s.Seats ∧ s.SafeFree := by
  constructor
  case mp =>
    intro h
    have modes : ∀ x m, m.ofSession → ((s.axis x).mode = m ↔ s.slot.session = some (x, m)) := by
      rintro x m (rfl | rfl)
      · rw [h.routine x, Slot.session_routine]
      · rw [h.service x, Slot.session_service]
    refine ⟨⟨modes, fun some => ?_, h.parked⟩, h.safe⟩
    obtain ⟨⟨x, m⟩, e⟩ := Option.ne_none_iff_exists'.mp some
    have session := Slot.ofSession_of_session e
    exact h.held ⟨x, session.imp ((modes x m session).mpr e).trans ((modes x m session).mpr e).trans⟩
  case mpr =>
    rintro ⟨h, safe⟩
    refine ⟨fun x => ?_, fun x => ?_, ?_, safe, h.parked⟩
    · rw [h.modes x _ (.inl rfl), Slot.session_routine]
    · rw [h.modes x _ (.inr rfl), Slot.session_service]
    · rintro ⟨x, session⟩
      refine h.held ?_
      rw [(h.modes x _ session).mp rfl]
      exact Option.some_ne_none _

theorem State.Seats.of_eq {s t : State} (h : s.Seats) (tilt : t.tilt.mode = s.tilt.mode)
    (steer : t.steer.mode = s.steer.mode) (session : t.slot.session = s.slot.session)
    (hold : t.auth.hold.isSome = s.auth.hold.isSome) (run : t.latch.run = s.latch.run) : t.Seats where
  modes x m hm := by
    rw [session, ← h.modes x m hm]
    cases x
    · exact (congrArg (· = m) tilt).to_iff
    · exact (congrArg (· = m) steer).to_iff
  held some := by
    rw [← Option.isSome_iff_ne_none, hold, Option.isSome_iff_ne_none]
    exact h.held (session ▸ some)
  parked p := by
    obtain ⟨none, a, b⟩ := h.parked (run ▸ p)
    exact ⟨by rw [← Option.not_isSome_iff_eq_none, hold, none]; simp, tilt.trans a, steer.trans b⟩

end Sys2Proof.Machine
end

section
/-! PROOFS. What settling keeps: the invariants through the operations inside a command. -/

namespace Sys2Proof.Machine

/-! ## The relations -/

/-- A consequence that upholds the invariants but for R143's of the SAFE grade, which stands between a trip and the end of the
hold that it brings about; and that moves a setpoint or the captured lean only by seeding it with the measurement. -/
structure Upholds (s t : State) : Prop where
  consequence : Consequence s t
  log : s.LogBounded → t.LogBounded
  trips : s.TripsOnce → t.TripsOnce
  valid : s.params.Valid → t.params.Valid
  seats : s.Seats → t.Seats
  path : s.PathShape → t.PathShape
  phiS : t.solve.phiS = s.solve.phiS ∨ t.solve.phiS = s.tilt.meas
  deltaS : t.solve.deltaS = s.solve.deltaS ∨ t.solve.deltaS = s.steer.meas
  captured : t.solve.captured = s.solve.captured ∨ t.solve.captured = s.tilt.meas

/-- A consequence that upholds every invariant. -/
structure Sound (s t : State) : Prop extends Upholds s t where
  safe : s.SafeFree → t.SafeFree

theorem State.PathShape.of_eq {s t : State} (h : s.PathShape) (path : t.path = s.path)
    (hold : t.auth.hold.isSome = s.auth.hold.isSome) : t.PathShape where
  queueRoom := path ▸ h.queueRoom
  stagingRoom := path ▸ h.stagingRoom
  queueSettled := path ▸ h.queueSettled
  stagingSettled := path ▸ h.stagingSettled
  within := path ▸ h.within
  unheld none := path.trans (h.unheld (by rw [← Option.not_isSome_iff_eq_none, ← hold, none]; simp))
  dry some := by
    rw [← Option.isSome_iff_ne_none, hold, Option.isSome_iff_ne_none] at some
    rw [path]
    exact h.dry some
  watched := path ▸ h.watched

theorem State.SafeFree.of_eq {s t : State} (h : s.SafeFree) (trips : t.inputs.trips = s.inputs.trips)
    (hold : t.auth.hold.isSome = s.auth.hold.isSome) : t.SafeFree := fun safe => by
  rw [State.grade, trips] at safe
  rw [← Option.not_isSome_iff_eq_none, hold, h safe]
  simp

theorem Sound.of {s t : State} (consequence : Consequence s t) (log : s.LogBounded → t.LogBounded := by exact id)
    (trips : t.inputs.trips = s.inputs.trips := by rfl) (params : t.params = s.params := by rfl)
    (tilt : t.tilt.mode = s.tilt.mode := by rfl) (steer : t.steer.mode = s.steer.mode := by rfl)
    (session : t.slot.session = s.slot.session := by rfl) (hold : t.auth.hold = s.auth.hold := by rfl)
    (path : t.path = s.path := by rfl)
    (phiS : t.solve.phiS = s.solve.phiS ∨ t.solve.phiS = s.tilt.meas := by exact .inl rfl)
    (deltaS : t.solve.deltaS = s.solve.deltaS ∨ t.solve.deltaS = s.steer.meas := by exact .inl rfl)
    (captured : t.solve.captured = s.solve.captured ∨ t.solve.captured = s.tilt.meas := by exact .inl rfl) : Sound s t where
  consequence := consequence
  log := log
  trips := by rw [State.TripsOnce, State.TripsOnce, trips]; exact id
  valid := by rw [params]; exact id
  seats h := h.of_eq tilt steer session (congrArg Option.isSome hold) consequence.latchClock.2.2.2.1
  path h := h.of_eq path (congrArg Option.isSome hold)
  phiS := phiS
  deltaS := deltaS
  captured := captured
  safe h := h.of_eq trips (congrArg Option.isSome hold)

theorem Upholds.trans {s t u : State} (h : Upholds s t) (k : Upholds t u) : Upholds s u where
  consequence := h.consequence.trans k.consequence
  log := k.log ∘ h.log
  trips := k.trips ∘ h.trips
  valid := k.valid ∘ h.valid
  seats := k.seats ∘ h.seats
  path := k.path ∘ h.path
  phiS := k.phiS.elim (fun e => h.phiS.imp e.trans e.trans) (fun e => .inr (e.trans (h.consequence.axis_meas .tilt)))
  deltaS := k.deltaS.elim (fun e => h.deltaS.imp e.trans e.trans) (fun e => .inr (e.trans (h.consequence.axis_meas .steer)))
  captured := k.captured.elim (fun e => h.captured.imp e.trans e.trans)
    (fun e => .inr (e.trans (h.consequence.axis_meas .tilt)))

theorem Sound.trans {s t u : State} (h : Sound s t) (k : Sound t u) : Sound s u :=
  ⟨h.toUpholds.trans k.toUpholds, k.safe ∘ h.safe⟩

theorem Sound.refl (s : State) : Sound s s := .of (.refl s)

theorem Sound.ite {s a b : State} (c : Prop) [Decidable c] (h : Sound s a) (k : Sound s b) :
    Sound s (if c then a else b) := by split <;> assumption

theorem Upholds.ite {s a b : State} (c : Prop) [Decidable c] (h : Upholds s a) (k : Upholds s b) :
    Upholds s (if c then a else b) := by split <;> assumption

theorem LatchMove.sound {s t : State} (h : LatchMove s t) : Sound s t :=
  .of h.consequence h.bounded h.trips h.params h.tilt_mode (congrArg AxisCtl.mode h.steer) (congrArg Slot.session h.slot)
    (congrArg AuthorityUnit.hold h.auth) h.path h.phiS (.inl h.deltaS) h.captured

/-! ## Ends of sessions -/

theorem State.logEvent_sound (e : Event) (s : State) : Sound s (s.logEvent e) := (State.logEvent_latchMove e s).sound

theorem State.setLatch_sound (l : LatchState) (s : State) : Sound s (s.setLatch l) := (State.setLatch_latchMove l s).sound

theorem State.setLatchUnit_sound (l : LatchUnit) (s : State)
    (h : SameLatchClock s (s.setLatchUnit l) := by exact ⟨rfl, rfl, rfl, rfl, rfl, rfl⟩) : Sound s (s.setLatchUnit l) :=
  .of (State.setLatchUnit_consequence l s h)

theorem State.endPermit_sound (p : Port) (s : State) : Sound s (s.endPermit p) :=
  .ite _ (State.setLatchUnit_sound _ s (LatchUnit.setItem_clock s p .none)) (.refl s)

/-- An axis controller in the same mode. -/
theorem State.setAxis_sound (x : Axis) (a : AxisCtl) (s : State) (mode : a.mode = (s.axis x).mode)
    (meas : a.meas = (s.axis x).meas) (valid : a.valid = (s.axis x).valid) : Sound s (s.setAxis x a) := by
  have c := State.setAxis_consequence x a s meas valid
  cases x
  · exact .of c (tilt := mode)
  · exact .of c (steer := mode)

theorem State.setDrive_sound (x : Axis) (d : Int) (s : State) : Sound s (s.setDrive x d) :=
  State.setAxis_sound x _ s rfl rfl rfl

theorem State.setResult_sound (x : Axis) (r : ResultRec) (s : State) : Sound s (s.setResult x r) :=
  State.setAxis_sound x _ s rfl rfl rfl

/-- A slot whose occupant has the same session. -/
theorem State.setSlot_sound (y : Slot) (s : State) (session : y.session = s.slot.session) : Sound s (s.setSlot y) :=
  .of (State.setSlot_consequence y s) (session := session)

theorem State.seedSetpoint_sound (x : Axis) (s : State) : Sound s (s.seedSetpoint x) := by
  have c := State.seedSetpoint_consequence x s
  cases x
  · exact .of c (phiS := .inr rfl)
  · exact .of c (deltaS := .inr rfl)

/-- The session of an axis ends, with the slot freed in the same act (R95, R103, R111). -/
theorem State.Seats.leave {s : State} {x : Axis} {m : AxisMode} (h : s.Seats) (session : s.slot.session = some (x, m)) :
    ((s.leaveSession x).setSlot .free).Seats where
  modes y n hn := by
    refine ⟨fun mode => absurd hn (mode ▸ ?_), fun e => nomatch e⟩
    by_cases same : y = x
    · subst same
      cases y <;> exact returnedMode_not_ofSession _
    · have other : (((s.leaveSession x).setSlot .free).axis y).mode = (s.axis y).mode := by
        cases x <;> cases y <;> first | rfl | exact absurd rfl same
      rw [other]
      intro session'
      have e := (h.modes y _ session').mp rfl
      rw [session] at e
      exact same (congrArg Prod.fst (Option.some.inj e)).symm
  held none := absurd rfl none
  parked p := by
    have some : s.slot.session ≠ none := session ▸ Option.some_ne_none _
    cases x <;> exact absurd (h.parked p).1 (h.held some)

theorem State.leave_sound (x : Axis) (m : AxisMode) (s : State) (session : s.slot.session = some (x, m)) :
    Sound s ((s.leaveSession x).setSlot .free) where
  consequence := (State.leaveSession_consequence x s).trans (State.setSlot_consequence _ _)
  log := by cases x <;> exact id
  trips := by cases x <;> exact id
  valid := by cases x <;> exact id
  seats h := h.leave session
  path h := h.of_eq (by cases x <;> rfl) (by cases x <;> rfl)
  phiS := by cases x; exacts [.inr rfl, .inl rfl]
  deltaS := by cases x; exacts [.inl rfl, .inr rfl]
  captured := .inl (by cases x <;> rfl)
  safe h := h.of_eq (by cases x <;> rfl) (by cases x <;> rfl)

theorem clamp_bounds {lo hi : Int} (h : lo ≤ hi) (x : Int) : lo ≤ clamp lo hi x ∧ clamp lo hi x ≤ hi := by
  unfold clamp
  split
  · omega
  · split <;> omega

/-- A parameter without a coupling takes any value of its range. -/
theorem Params.Valid.put {p : Params} (h : p.Valid) {x : Param} {v : Int} (low : x.range.1 ≤ v) (high : v ≤ x.range.2)
    (free : x = .tiltCentre ∨ x = .steerCentre ∨ x = .frictionTilt ∨ x = .frictionSteer) : (p.put x v).Valid where
  ranges y := by
    by_cases same : y = x
    · subst same
      obtain rfl | rfl | rfl | rfl := free <;> exact ⟨low, high⟩
    · have stands : (p.put x v).get y = p.get y := by
        obtain rfl | rfl | rfl | rfl := free <;> cases y <;> first | rfl | exact absurd rfl same
      rw [stands]
      exact h.ranges y
  speeds := by obtain rfl | rfl | rfl | rfl := free <;> exact h.speeds
  ceilings := by obtain rfl | rfl | rfl | rfl := free <;> exact h.ceilings
  table := by obtain rfl | rfl | rfl | rfl := free <;> exact h.table

/-- What a passing routine writes is in its range (R100, R101). -/
theorem Routine.writes_valid (r : Routine) {p : Params} (h : p.Valid) : (r.writes p).Valid := by
  unfold Routine.writes
  split
  · have b := clamp_bounds (by decide : (-1000 : Int) ≤ 1000) (p.tiltCentre + r.v3.getD 0)
    exact h.put (x := .tiltCentre) b.1 b.2 (.inl rfl)
  · have b := clamp_bounds (by decide : (-1000 : Int) ≤ 1000) (p.steerCentre + r.v3.getD 0)
    exact h.put (x := .steerCentre) b.1 b.2 (.inr (.inl rfl))
  · have b := clamp_bounds (by decide : (0 : Int) ≤ 300) (max (r.v1.getD 0) (r.v2.getD 0))
    exact h.put (x := .frictionTilt) b.1 b.2 (.inr (.inr (.inl rfl)))
  · have b := clamp_bounds (by decide : (0 : Int) ≤ 300) (max (r.v1.getD 0) (r.v2.getD 0))
    exact h.put (x := .frictionSteer) b.1 b.2 (.inr (.inr (.inr rfl)))
  · exact h

/-- The working set with what a passing routine writes. -/
theorem State.learn_sound (r : Routine) (s : State) : Sound s (s.setParams (r.writes s.params)) :=
  have params := Sound.of (s := s) (t := s) (.refl s)
  { params with
    consequence := .of (settings := Routine.writes_unlearned r s.params)
    valid := r.writes_valid
    seats := fun h => h.of_eq rfl rfl rfl rfl rfl
    path := fun h => h.of_eq rfl rfl
    safe := fun h => h.of_eq rfl rfl }

theorem LatchMove.session {s t : State} (h : LatchMove s t) : t.slot.session = s.slot.session :=
  congrArg Slot.session h.slot

@[simp] theorem State.setAxis_slot (x : Axis) (a : AxisCtl) (s : State) : (s.setAxis x a).slot = s.slot := by
  cases x <;> rfl

/-- The end of the routine of the slot, in the order of R103. -/
theorem State.finishRoutine_sound {r : Routine} (o : RoutineOutcome) (b : Bool) {s : State}
    (session : s.slot.session = some (r.axis, .routine)) : Sound s (s.finishRoutine r o b) := by
  unfold State.finishRoutine
  dsimp only
  set d := s.setDrive r.axis 0 with hd
  have drive : Sound s d := State.setDrive_sound r.axis 0 s
  have slot : d.slot = s.slot := State.setAxis_slot ..
  clear_value d
  set p := if o = .pass then d.setParams (r.writes d.params) else d with hp
  have learned : Sound d p := hp ▸ .ite _ (State.learn_sound r d) (.refl d)
  have slot' : p.slot = d.slot := by rw [hp]; split <;> rfl
  clear_value p
  set l := if b then (p.setLatch .unlatchedFault).logEvent (.lockFault .slip) else p with hl
  have told : LatchMove p l :=
    hl ▸ .ite _ ((State.setLatch_latchMove .unlatchedFault p).trans (State.logEvent_latchMove _ _)) (.refl p)
  clear_value l
  have recorded := (State.setResult_sound r.axis { kind := some r.kind, outcome := o, v1 := r.v1, v2 := r.v2, v3 := r.v3 }
    l).trans (State.logEvent_sound (.routineEnd r.axis r.kind o) _)
  refine (((drive.trans learned).trans told.sound).trans recorded).trans (State.leave_sound r.axis .routine _ ?_)
  change (l.setAxis r.axis _).slot.session = _
  rw [State.setAxis_slot, told.slot, slot', slot, session]

theorem State.finishService_sound {x : Axis} {s : State} (session : s.slot.session = some (x, .service)) :
    Sound s (s.finishService x) :=
  (State.setDrive_sound x 0 s).trans (State.leave_sound x .service _ ((congrArg Slot.session (State.setAxis_slot ..)).trans session))

theorem State.abortSession_sound (s : State) : Sound s s.abortSession := by
  unfold State.abortSession
  split
  case h_1 r e => exact State.finishRoutine_sound .aborted false (e ▸ rfl)
  case h_2 x d e => exact State.finishService_sound (e ▸ rfl)
  case h_3 => exact .refl s
  case h_4 => exact .refl s

/-! ## The end of the hold -/

theorem PathUnit.empty_shape {s : State} (path : s.path = .empty) (hold : s.auth.hold = none) : s.PathShape := by
  refine ⟨?_, ?_, ?_, ?_, ?_, fun _ => path, fun some => absurd hold some, ?_⟩ <;> rw [path] <;> simp [PathUnit.empty]

theorem State.Vacant.session {s : State} (v : s.Vacant) : s.slot.session = none := by
  obtain free | ⟨n, programming⟩ := v.slot
  · rw [free]; rfl
  · rw [programming]; rfl

theorem State.endPermit_path (p : Port) (s : State) : (s.endPermit p).path = s.path := by
  unfold State.endPermit
  split <;> rfl

theorem State.endPermit_params (p : Port) (s : State) : (s.endPermit p).params = s.params := by
  unfold State.endPermit
  split <;> rfl

theorem State.endHoldCore_sound (h : Hold) (reason : EndReason) (s : State) : Sound s (s.endHoldCore h reason) := by
  have hold := State.endHoldCore_hold h reason s
  have path := (State.endHoldCore_ended h reason s).path
  have vacant := State.endHoldCore_vacant h reason s
  have c := State.endHoldCore_consequence h reason s
  set a := ((s.logEvent (.holdEnd reason)).setPath .empty).abortSession with ha
  have aborted : Sound ((s.logEvent (.holdEnd reason)).setPath .empty) a := State.abortSession_sound _
  set u := (a.setSpeed { a.speed with withheld := 0 }).setAuth { a.auth with hold := none } with hu
  have permit : Sound u (s.endHoldCore h reason) := State.endPermit_sound h.port u
  have slot : (s.endHoldCore h reason).slot = u.slot := by
    change (u.endPermit h.port).slot = u.slot
    unfold State.endPermit
    split <;> rfl
  exact {
    consequence := c
    log := fun b => permit.log (aborted.log (State.logEvent_bounded _ s b))
    trips := fun b => permit.trips (aborted.trips b)
    valid := fun b => permit.valid (aborted.valid b)
    seats := fun b => permit.seats <| by
      have seats := aborted.seats (b.of_eq rfl rfl rfl rfl rfl)
      exact ⟨seats.modes, fun some => absurd (slot ▸ vacant.session) some, fun p => ⟨rfl, (seats.parked p).2⟩⟩
    path := fun _ => PathUnit.empty_shape path hold
    phiS := permit.phiS.elim (fun e => aborted.phiS.imp e.trans e.trans)
      (fun e => .inr (e.trans (aborted.consequence.axis_meas .tilt)))
    deltaS := permit.deltaS.elim (fun e => aborted.deltaS.imp e.trans e.trans)
      (fun e => .inr (e.trans (aborted.consequence.axis_meas .steer)))
    captured := permit.captured.elim (fun e => aborted.captured.imp e.trans e.trans)
      (fun e => .inr (e.trans (aborted.consequence.axis_meas .tilt)))
    safe := fun _ _ => hold }

theorem State.dropHold_sound (reason : EndReason) (s : State) : Sound s (s.dropHold reason) := by
  unfold State.dropHold
  split
  · exact .refl s
  · exact State.endHoldCore_sound _ reason s

theorem State.dropHold_hold (reason : EndReason) (s : State) : (s.dropHold reason).auth.hold = none := by
  unfold State.dropHold
  split
  case h_1 none => exact none
  case h_2 h _ => exact State.endHoldCore_hold h reason s

/-! ## Attempt sets that fail -/

theorem State.routineSetFailed_sound (d : Direction) (s : State) : Sound s (s.routineSetFailed d) := by
  unfold State.routineSetFailed
  split
  case h_1 r e => exact .ite _ (State.finishRoutine_sound .failTimeout false (e ▸ rfl)) (.refl s)
  all_goals exact .refl s

theorem State.permitSetFailed_sound (x : AttemptSet) (s : State) : Sound s (s.permitSetFailed x) := by
  unfold State.permitSetFailed
  split
  · exact .ite _ (State.endPermit_sound _ s) (.refl s)
  · exact .refl s

theorem State.failSet_sound (x : AttemptSet) (s : State) : Sound s (s.failSet x) := by
  unfold State.failSet
  refine .trans ?_ (State.routineSetFailed_sound _ _)
  refine .trans ?_ (State.permitSetFailed_sound x _)
  refine .trans ?_ (State.logEvent_sound _ _)
  exact .trans (State.setLatchUnit_sound _ s) (State.setLatch_sound _ _)

/-! ## Trips, combiners, conditions -/

/-- An input unit that keeps its switches and trips. -/
theorem State.setInputs_sound (u : InputUnit) (s : State) (switches : ∀ i, u.switch i = s.inputs.switch i)
    (trips : u.trips = s.inputs.trips) : Sound s (s.setInputs u) :=
  .of (State.setInputs_consequence u s switches (trips ▸ List.prefix_refl _)) (trips := trips)

theorem State.addTrip_upholds (id : TripId) (sev : Severity) (s : State)
    (absent : ¬(s.inputs.trips.any (fun t => t.id = id)) = true) : Upholds s (s.addTrip id sev) :=
  have logged := State.logEvent_sound (.trip id) s
  { consequence := State.addTrip_consequence id sev s
    log := logged.log
    trips := fun once => by
      have fresh : ∀ t ∈ s.inputs.trips, t.id ≠ id := by simpa using absent
      have split : (s.addTrip id sev).inputs.trips.map (·.id) = s.inputs.trips.map (·.id) ++ [id] :=
        List.map_append ..
      rw [State.TripsOnce, split, List.nodup_append]
      refine ⟨once, List.nodup_singleton id, fun a ha b hb => ?_⟩
      obtain ⟨t, ht, rfl⟩ := List.mem_map.mp ha
      rw [List.mem_singleton.mp hb]
      exact fresh t ht
    valid := fun h => h
    seats := fun h => h.of_eq rfl rfl rfl rfl rfl
    path := fun h => h.of_eq rfl rfl
    phiS := .inl rfl
    deltaS := .inl rfl
    captured := .inl rfl }

theorem State.handGrade_upholds (old : Grade) (s : State) : Upholds s (s.handGrade old) := by
  unfold State.handGrade
  have heard : Sound s (if old ≠ .lockdown && s.grade = .lockdown then s.hearLatch else s) :=
    .ite _ (State.hearLatch_latchMove s).sound (.refl s)
  exact heard.toUpholds.trans (.ite _ (((State.dropHold_sound .safe _).trans (State.abortSession_sound _)).trans
    (State.announce_latchMove _).sound).toUpholds (Sound.refl _).toUpholds)

/-- At SAFE entry there is no hold any more (R143). -/
theorem State.handGrade_entry (s : State) : (s.handGrade .none).auth.hold = none := by
  unfold State.handGrade
  set u := if Grade.none ≠ .lockdown && s.grade = .lockdown then s.hearLatch else s
  have ended := State.dropHold_hold .safe u
  have rider := ((State.abortSession_consequence (u.dropHold .safe)).trans (State.announce_consequence _)).rider
  change (u.dropHold .safe).abortSession.announce.auth.hold = none
  rcases rider with e | e <;> rw [e]
  exact ended

theorem Consequence.unheld {s t : State} (c : Consequence s t) (h : s.auth.hold = none) : t.auth.hold = none := by
  rcases c.rider with e | e <;> rw [e]
  exact h

theorem State.fireTrip_sound (id : TripId) (sev : Severity) (s : State) : Sound s (s.fireTrip id sev) := by
  unfold State.fireTrip
  split
  case isTrue => exact .refl s
  case isFalse absent =>
    have upholds := (State.addTrip_upholds id sev s absent).trans (State.handGrade_upholds s.grade _)
    refine ⟨upholds, fun safe _ => ?_⟩
    by_cases entry : s.grade = .none
    · rw [entry]
      exact State.handGrade_entry _
    · exact upholds.consequence.unheld (safe entry)

theorem State.setTripUnit_sound (x : TripUnit) (r : TripUnitRec) (s : State) :
    Sound s (s.setInputs (s.inputs.setTripUnit x r)) :=
  State.setInputs_sound _ s (InputUnit.setTripUnit_switch _ _ _) (InputUnit.setTripUnit_trips _ _ _)

theorem State.setCombiner_sound (i : CombinerId) (r : CombinerRec) (s : State) :
    Sound s (s.setInputs (s.inputs.setCombiner i r)) :=
  State.setInputs_sound _ s (InputUnit.setCombiner_switch _ _ _) (InputUnit.setCombiner_trips _ _ _)

theorem State.evaluateCombiner_sound (q : Bool) (i : CombinerId) (s : State) : Sound s (s.evaluateCombiner q i) := by
  unfold State.evaluateCombiner
  exact (State.setCombiner_sound i _ s).trans (.ite _ (State.logEvent_sound _ _) (.refl _))

theorem State.fireTripUnit_sound (x : TripUnit) (s : State) : Sound s (s.fireTripUnit x) :=
  (State.setTripUnit_sound x _ s).trans (State.fireTrip_sound _ _ _)

theorem State.evaluateTripUnit_sound (x : TripUnit) (s : State) : Sound s (s.evaluateTripUnit x) := by
  unfold State.evaluateTripUnit
  exact (State.setTripUnit_sound x _ s).trans (.ite _ (State.fireTripUnit_sound _ _) (.refl _))

theorem State.evaluateCombiners_sound (q old : Bool) (s : State) : Sound s (s.evaluateCombiners q old) :=
  have h := ((State.evaluateCombiner_sound q .c0 s).trans (State.evaluateCombiner_sound q .c1 _)).trans
    (State.evaluateCombiner_sound q .c2 _)
  .ite _ (h.trans (State.hearLatch_latchMove _).sound) h

theorem State.evaluateInputs_sound (q old : Bool) (s : State) : Sound s (s.evaluateInputs q old) :=
  ((State.evaluateCombiners_sound q old s).trans (State.evaluateTripUnit_sound .t1 _)).trans
    (State.evaluateTripUnit_sound .t2 _)

theorem State.takeCond_sound (c : Cond) (b : Bool) (s : State) : Sound s (s.takeCond c b) :=
  (State.setInputs_sound { s.inputs with conds := s.inputs.conds.put c b } s (fun i => by cases i <;> rfl) rfl).trans
    (State.evaluateInputs_sound false _ _)

theorem State.handOnN_sound (n : Nat) (s : State) : Sound s (s.handOnN n) := by
  induction n generalizing s with
  | zero => exact .refl s
  | succ n ih =>
    unfold State.handOnN
    split
    · exact .refl s
    · exact ((State.setChanges_latchMove _ s).sound.trans (State.takeCond_sound _ _ _)).trans (ih _)

theorem State.handOn_sound (s : State) : Sound s s.handOn := State.handOnN_sound 32 s

theorem State.endHold_sound (reason : EndReason) (s : State) : Sound s (s.endHold reason) :=
  .ite _ ((State.dropHold_sound reason s).trans (State.handOn_sound _)) (.refl s)

/-! ## Phases and settling -/

theorem State.beginPhase_sound {r : Routine} (ph : Phase) {s : State}
    (session : s.slot.session = some (r.axis, .routine)) : Sound s (s.beginPhase r ph) := by
  have slot {y : Slot} (h : some (r.axis, AxisMode.routine) = y.session) : Sound s (s.setSlot y) :=
    State.setSlot_sound y s (h.symm.trans session.symm)
  unfold State.beginPhase
  cases ph with
  | release => exact (slot (by exact rfl)).trans (State.askSet_latchMove _ _).sound
  | engage => exact (slot (by exact rfl)).trans (State.askSet_latchMove _ _).sound
  | sweepLeft => exact (slot (by exact rfl)).trans (State.setDrive_sound _ _ _)
  | sweepRight => exact (slot (by exact rfl)).trans (State.setDrive_sound _ _ _)
  | centre => exact slot rfl
  | rampLeft => exact slot rfl
  | rampRight => exact slot rfl
  | pushLeft => exact (slot (by exact rfl)).trans (State.setDrive_sound _ _ _)
  | pushRight => exact (slot (by exact rfl)).trans (State.setDrive_sound _ _ _)

theorem State.completePhase_sound {r : Routine} {s : State} (session : s.slot.session = some (r.axis, .routine)) :
    Sound s (s.completePhase r) := by
  unfold State.completePhase
  split
  · exact State.beginPhase_sound _ session
  · exact State.finishRoutine_sound _ _ session

theorem State.routineReady_slot {s : State} {r : Routine} (h : s.routineReady = some r) : s.slot = .routine r := by
  unfold State.routineReady at h
  split at h
  case h_1 q e =>
    split at h
    · rw [e, Option.some.inj h]
    · cases h
  all_goals cases h

theorem State.settleN_sound (n : Nat) (s : State) : Sound s (s.settleN n) := by
  induction n generalizing s with
  | zero => exact (State.handOn_sound s).trans (State.restPreload_latchMove _).sound
  | succ n ih =>
    have heard := (State.handOn_sound s).trans (State.weighUncommanded_latchMove _).sound
    unfold State.settleN
    dsimp only
    split
    · next decided => exact (heard.trans (State.decideLatch_latchMove decided).sound).trans (ih _)
    · split
      · next r ready =>
        exact (heard.trans (State.completePhase_sound (State.routineReady_slot ready ▸ rfl))).trans (ih _)
      · exact heard

theorem State.settle_sound (s : State) : Sound s s.settle := State.settleN_sound 8 s

end Sys2Proof.Machine
end

section
/-! PROOFS. The parameter set: what a put, a store and a load make of each parameter, and the validity of the result (R164,
R166). -/

namespace Sys2Proof.Machine

/-! ## One parameter put -/

theorem Params.get_put (p : Params) (x y : Param) (v : Int) : (p.put x v).get y = if y = x then v else p.get y := by
  cases x <;> cases y <;> rfl

/-- The masks and the configuration items of two sets are the same. -/
structure Params.SameItems (p q : Params) : Prop where
  inputEvent : q.inputEventMask = p.inputEventMask
  attnA : q.attnMaskA = p.attnMaskA
  attnB : q.attnMaskB = p.attnMaskB
  wake : q.wakeMask = p.wakeMask
  combiner : ∀ i, q.combiner i = p.combiner i
  tripUnit : ∀ u, q.tripUnit u = p.tripUnit u

theorem Params.SameItems.refl (p : Params) : p.SameItems p := ⟨rfl, rfl, rfl, rfl, fun _ => rfl, fun _ => rfl⟩

theorem Params.SameItems.trans {p q r : Params} (h : p.SameItems q) (k : q.SameItems r) : p.SameItems r :=
  ⟨k.inputEvent.trans h.inputEvent, k.attnA.trans h.attnA, k.attnB.trans h.attnB, k.wake.trans h.wake,
    fun i => (k.combiner i).trans (h.combiner i), fun u => (k.tripUnit u).trans (h.tripUnit u)⟩

theorem Params.put_items (p : Params) (x : Param) (v : Int) : p.SameItems (p.put x v) := by
  constructor
  case combiner => intro i; cases x <;> cases i <;> rfl
  case tripUnit => intro u; cases x <;> cases u <;> rfl
  all_goals cases x <;> rfl

/-! ## A load (R166) -/

theorem clamp_eq {lo hi : Int} (h : lo ≤ hi) (x : Int) : clamp lo hi x = max lo (min hi x) := by
  unfold clamp
  split
  · omega
  · split <;> omega

theorem Param.range_ordered (x : Param) : x.range.1 ≤ x.range.2 := by cases x <;> decide

theorem Param.clampOwn_eq (x : Param) (v : Int) : x.clampOwn v = max x.range.1 (min x.range.2 v) :=
  clamp_eq x.range_ordered v

theorem Param.clampOwn_bounds (x : Param) (v : Int) : x.range.1 ≤ x.clampOwn v ∧ x.clampOwn v ≤ x.range.2 :=
  clamp_bounds x.range_ordered v

theorem Param.mem_all (x : Param) : x ∈ Param.all := by cases x <;> decide

theorem Param.all_nodup : Param.all.Nodup := by decide

/-- A pass over distinct parameters that puts each by its own old value. -/
theorem Params.get_foldl_put (f : Param → Int → Int) (y : Param) : ∀ (l : List Param) (p : Params), l.Nodup →
    (l.foldl (fun q x => q.put x (f x (q.get x))) p).get y = if y ∈ l then f y (p.get y) else p.get y
  | [], _, _ => by simp
  | x :: l, p, nodup => by
    obtain ⟨fresh, nodup⟩ := List.nodup_cons.mp nodup
    rw [List.foldl_cons, Params.get_foldl_put f y l _ nodup, Params.get_put]
    by_cases same : y = x
    · subst same
      simp [fresh]
    · simp [same]

theorem Params.foldl_put_items (f : Param → Int → Int) : ∀ (l : List Param) (p : Params),
    p.SameItems (l.foldl (fun q x => q.put x (f x (q.get x))) p)
  | [], p => .refl p
  | x :: l, p => (p.put_items x _).trans (Params.foldl_put_items f l _)

theorem Params.get_clampAll (p : Params) (y : Param) : p.clampAll.get y = max y.range.1 (min y.range.2 (p.get y)) := by
  rw [Params.clampAll, Params.get_foldl_put (fun x v => x.clampOwn v) y _ _ Param.all_nodup, if_pos y.mem_all,
    Param.clampOwn_eq]

theorem Params.clampAll_items (p : Params) : p.SameItems p.clampAll :=
  Params.foldl_put_items (fun x v => x.clampOwn v) _ p

/-- The parameters that the couplings of a load may move. -/
def Param.coupled : List Param := [.vEng, .aSafe, .lean1, .lean2, .lean3, .lean4, .lean5, .lean6, .lean7, .lean8]

theorem Params.get_coupleAll (p : Params) {y : Param} (free : y ∉ Param.coupled) : p.coupleAll.get y = p.get y := by
  cases y
  case vEng | aSafe | lean1 | lean2 | lean3 | lean4 | lean5 | lean6 | lean7 | lean8 => exact absurd (by decide) free
  all_goals rfl

theorem Params.coupleAll_items (p : Params) : p.SameItems p.coupleAll := by
  constructor
  case combiner => intro i; cases i <;> rfl
  case tripUnit => intro u; cases u <;> rfl
  all_goals rfl

theorem Params.loaded_items (p : Params) : p.SameItems p.loaded := p.clampAll_items.trans p.clampAll.coupleAll_items

theorem Params.get_loaded (p : Params) {y : Param} (free : y ∉ Param.coupled) :
    p.loaded.get y = max y.range.1 (min y.range.2 (p.get y)) :=
  (p.clampAll.get_coupleAll free).trans (p.get_clampAll y)

theorem Params.coupleAll_vEng (p : Params) : p.coupleAll.vEng = min p.vEng (p.coupleAll.vRel - 30) := rfl
theorem Params.coupleAll_aSafe (p : Params) : p.coupleAll.aSafe = min p.aSafe p.coupleAll.aMax := rfl
theorem Params.coupleAll_lean1 (p : Params) : p.coupleAll.lean1 = max p.lean1 0 := rfl
theorem Params.coupleAll_lean2 (p : Params) : p.coupleAll.lean2 = max p.lean2 p.coupleAll.lean1 := rfl
theorem Params.coupleAll_lean3 (p : Params) : p.coupleAll.lean3 = max p.lean3 p.coupleAll.lean2 := rfl
theorem Params.coupleAll_lean4 (p : Params) : p.coupleAll.lean4 = max p.lean4 p.coupleAll.lean3 := rfl
theorem Params.coupleAll_lean5 (p : Params) : p.coupleAll.lean5 = max p.lean5 p.coupleAll.lean4 := rfl
theorem Params.coupleAll_lean6 (p : Params) : p.coupleAll.lean6 = max p.lean6 p.coupleAll.lean5 := rfl
theorem Params.coupleAll_lean7 (p : Params) : p.coupleAll.lean7 = max p.lean7 p.coupleAll.lean6 := rfl
theorem Params.coupleAll_lean8 (p : Params) : p.coupleAll.lean8 = max (min p.lean8 4500) p.coupleAll.lean7 := rfl

/-- What a load makes of the coupled parameters. -/
structure Params.LoadedCoupled (p q : Params) : Prop where
  vEng : q.vEng = min (max 20 (min 770 p.vEng)) (q.vRel - 30)
  aSafe : q.aSafe = min (max 300 (min 9000 p.aSafe)) q.aMax
  lean1 : q.lean1 = max 0 (min 4500 p.lean1)
  lean2 : q.lean2 = max (max 0 (min 4500 p.lean2)) q.lean1
  lean3 : q.lean3 = max (max 0 (min 4500 p.lean3)) q.lean2
  lean4 : q.lean4 = max (max 0 (min 4500 p.lean4)) q.lean3
  lean5 : q.lean5 = max (max 0 (min 4500 p.lean5)) q.lean4
  lean6 : q.lean6 = max (max 0 (min 4500 p.lean6)) q.lean5
  lean7 : q.lean7 = max (max 0 (min 4500 p.lean7)) q.lean6
  lean8 : q.lean8 = max (max 0 (min 4500 p.lean8)) q.lean7

theorem Params.loaded_coupled (p : Params) : p.LoadedCoupled p.loaded := by
  have vEng : p.clampAll.vEng = max 20 (min 770 p.vEng) := p.get_clampAll .vEng
  have aSafe : p.clampAll.aSafe = max 300 (min 9000 p.aSafe) := p.get_clampAll .aSafe
  have lean1 : p.clampAll.lean1 = max 0 (min 4500 p.lean1) := p.get_clampAll .lean1
  have lean2 : p.clampAll.lean2 = max 0 (min 4500 p.lean2) := p.get_clampAll .lean2
  have lean3 : p.clampAll.lean3 = max 0 (min 4500 p.lean3) := p.get_clampAll .lean3
  have lean4 : p.clampAll.lean4 = max 0 (min 4500 p.lean4) := p.get_clampAll .lean4
  have lean5 : p.clampAll.lean5 = max 0 (min 4500 p.lean5) := p.get_clampAll .lean5
  have lean6 : p.clampAll.lean6 = max 0 (min 4500 p.lean6) := p.get_clampAll .lean6
  have lean7 : p.clampAll.lean7 = max 0 (min 4500 p.lean7) := p.get_clampAll .lean7
  have lean8 : p.clampAll.lean8 = max 0 (min 4500 p.lean8) := p.get_clampAll .lean8
  unfold Params.loaded
  generalize p.clampAll = q at *
  exact {
    vEng := vEng ▸ q.coupleAll_vEng
    aSafe := aSafe ▸ q.coupleAll_aSafe
    lean1 := q.coupleAll_lean1.trans (by rw [lean1]; exact max_eq_left (le_max_left 0 _))
    lean2 := lean2 ▸ q.coupleAll_lean2
    lean3 := lean3 ▸ q.coupleAll_lean3
    lean4 := lean4 ▸ q.coupleAll_lean4
    lean5 := lean5 ▸ q.coupleAll_lean5
    lean6 := lean6 ▸ q.coupleAll_lean6
    lean7 := lean7 ▸ q.coupleAll_lean7
    lean8 := q.coupleAll_lean8.trans (by
      rw [lean8, min_eq_left (max_le (by decide) (min_le_left 4500 _))]) }

theorem Params.loaded_vRel (p : Params) : p.loaded.vRel = max 50 (min 800 p.vRel) := p.get_loaded (y := .vRel) (by decide)

theorem Params.loaded_aMax (p : Params) : p.loaded.aMax = max 500 (min 9000 p.aMax) := p.get_loaded (y := .aMax) (by decide)

/-- An entry of the lean table that is not below the entry before it. -/
theorem table_entry_bounds {x below entry : Int} (e : entry = max (max 0 (min 4500 x)) below)
    (h : 0 ≤ below ∧ below ≤ 4500) : (0 ≤ entry ∧ entry ≤ 4500) ∧ below ≤ entry := by omega

theorem Params.LoadedCoupled.valid {p q : Params} (coupled : p.LoadedCoupled q)
    (free : ∀ y, y ∉ Param.coupled → q.get y = max y.range.1 (min y.range.2 (p.get y))) : q.Valid := by
  obtain ⟨eEng, eSafe, e1, e2, e3, e4, e5, e6, e7, e8⟩ := coupled
  have bounds : ∀ y, y ∉ Param.coupled → y.range.1 ≤ q.get y ∧ q.get y ≤ y.range.2 := fun y out => by
    rw [free y out, ← Param.clampOwn_eq]
    exact y.clampOwn_bounds (p.get y)
  have vRel : 50 ≤ q.vRel ∧ q.vRel ≤ 800 := bounds .vRel (by decide)
  have aMax : 500 ≤ q.aMax ∧ q.aMax ≤ 9000 := bounds .aMax (by decide)
  have vEng : (20 ≤ q.vEng ∧ q.vEng ≤ 770) ∧ q.vEng ≤ q.vRel - 30 := by
    clear e1 e2 e3 e4 e5 e6 e7 e8 eSafe
    omega
  have aSafe : (300 ≤ q.aSafe ∧ q.aSafe ≤ 9000) ∧ q.aSafe ≤ q.aMax := by
    clear e1 e2 e3 e4 e5 e6 e7 e8 eEng
    omega
  have l1 : 0 ≤ q.lean1 ∧ q.lean1 ≤ 4500 := by
    clear e2 e3 e4 e5 e6 e7 e8 eSafe eEng
    omega
  have l2 := table_entry_bounds e2 l1
  have l3 := table_entry_bounds e3 l2.1
  have l4 := table_entry_bounds e4 l3.1
  have l5 := table_entry_bounds e5 l4.1
  have l6 := table_entry_bounds e6 l5.1
  have l7 := table_entry_bounds e7 l6.1
  have l8 := table_entry_bounds e8 l7.1
  refine ⟨fun y => ?_, vEng.2, aSafe.2, l1.1, l2.2, l3.2, l4.2, l5.2, l6.2, l7.2, l8.2, l8.1.2⟩
  cases y
  case vEng => exact vEng.1
  case aSafe => exact aSafe.1
  case lean1 => exact l1
  case lean2 => exact l2.1
  case lean3 => exact l3.1
  case lean4 => exact l4.1
  case lean5 => exact l5.1
  case lean6 => exact l6.1
  case lean7 => exact l7.1
  case lean8 => exact l8.1
  all_goals exact bounds _ (by decide)

theorem Params.loaded_valid (p : Params) : p.loaded.Valid := p.loaded_coupled.valid fun _ => p.get_loaded

/-! ## A write (R163, R164) -/

theorem Params.store_eq_put {p : Params} {x : Param} {v : Int} (other : x ≠ .aMax) : p.store x v = p.put x v := by
  cases x
  case aMax => exact absurd rfl other
  all_goals rfl

theorem Params.store_items (p : Params) (x : Param) (v : Int) : p.SameItems (p.store x v) := by
  by_cases lowers : x = .aMax
  · subst lowers
    exact ⟨rfl, rfl, rfl, rfl, fun i => by cases i <;> rfl, fun u => by cases u <;> rfl⟩
  · rw [Params.store_eq_put lowers]
    exact p.put_items x v

theorem Params.get_store_same (p : Params) (x : Param) (v : Int) : (p.store x v).get x = v := by cases x <;> rfl

/-- Another parameter stands, but A_SAFE, which a lowered A_MAX lowers with it. -/
theorem Params.get_store_other (p : Params) {x y : Param} (v : Int) (other : y ≠ x) :
    (p.store x v).get y = if x = .aMax ∧ y = .aSafe then min (p.get y) v else p.get y := by
  by_cases lowers : x = .aMax
  · subst lowers
    cases y
    case aMax => exact absurd rfl other
    all_goals rfl
  · rw [Params.store_eq_put lowers, Params.get_put, if_neg other, if_neg (fun both => lowers both.1)]

/-- What a valid set leaves of the range of a parameter to a value written, by the couplings (R164). -/
theorem Params.Valid.stored_bounds {p : Params} (h : p.Valid) (x : Param) (v : Int) :
    x.range.1 ≤ p.stored x v ∧ p.stored x v ≤ x.range.2 := by
  obtain ⟨ranges, speeds, ceilings, table⟩ := h
  have own := x.clampOwn_bounds v
  have r8 : 0 ≤ p.lean8 := (ranges .lean8).1
  have rRel : 50 ≤ p.vRel ∧ p.vRel ≤ 800 := ranges .vRel
  have rEng : 20 ≤ p.vEng ∧ p.vEng ≤ 770 := ranges .vEng
  have rMax : 500 ≤ p.aMax ∧ p.aMax ≤ 9000 := ranges .aMax
  unfold Params.stored
  generalize x.clampOwn v = w at own ⊢
  cases x
  case vEng | vRel | aSafe | lean1 | lean2 | lean3 | lean4 | lean5 | lean6 | lean7 | lean8 =>
    simp only [Params.couple, Param.range] at own ⊢
    try rw [clamp_eq (by omega)]
    omega
  all_goals exact own

theorem Params.Valid.store {p : Params} (h : p.Valid) (x : Param) (v : Int) : (p.store x (p.stored x v)).Valid where
  ranges y := by
    by_cases same : y = x
    · rw [same, Params.get_store_same]
      exact h.stored_bounds x v
    · rw [Params.get_store_other p _ same]
      split
      next lowers =>
        obtain ⟨rfl, rfl⟩ := lowers
        have low : 500 ≤ p.stored .aMax v := (h.stored_bounds .aMax v).1
        obtain ⟨safeLow, safeHigh⟩ := h.ranges .aSafe
        exact ⟨le_min safeLow (le_trans (by decide) low), (min_le_left _ _).trans safeHigh⟩
      next => exact h.ranges y
  speeds := by
    cases x
    case vEng => exact min_le_right _ _
    case vRel => exact le_sub_right_of_add_le (le_max_right _ _)
    all_goals exact h.speeds
  ceilings := by
    cases x
    case aMax => exact min_le_right _ _
    case aSafe =>
      have ordered : (300 : Int) ≤ p.aMax := le_trans (by decide) (h.ranges .aMax).1
      exact (clamp_bounds ordered _).2
    all_goals exact h.ceilings
  table := by
    have table := h.table
    cases x
    case lean1 | lean2 | lean3 | lean4 | lean5 | lean6 | lean7 | lean8 =>
      simp only [Params.store, Params.put, Params.stored, Params.couple]
      rw [clamp_eq (by omega)]
      omega
    all_goals exact table

/-- A set with the numeric parameters of a valid one. -/
theorem Params.Valid.of_get {p q : Params} (h : p.Valid) (get : ∀ x, q.get x = p.get x) : q.Valid := by
  exact {
    ranges x := get x ▸ h.ranges x
    speeds := by
      rw [show q.vEng = p.vEng from get .vEng, show q.vRel = p.vRel from get .vRel]
      exact h.speeds
    ceilings := by
      rw [show q.aSafe = p.aSafe from get .aSafe, show q.aMax = p.aMax from get .aMax]
      exact h.ceilings
    table := by
      rw [show q.lean1 = p.lean1 from get .lean1, show q.lean2 = p.lean2 from get .lean2,
        show q.lean3 = p.lean3 from get .lean3, show q.lean4 = p.lean4 from get .lean4,
        show q.lean5 = p.lean5 from get .lean5, show q.lean6 = p.lean6 from get .lean6,
        show q.lean7 = p.lean7 from get .lean7, show q.lean8 = p.lean8 from get .lean8]
      exact h.table }

theorem Params.write_num {p q : Params} {x : Param} {value : List Byte} (h : p.write (.num x) value = some q) :
    ∃ lo hi, value = [lo, hi] ∧ q = p.store x (p.stored x (signed16 lo hi)) := by
  unfold Params.write at h
  dsimp only at h
  split at h
  next lo hi => exact ⟨lo, hi, rfl, (Option.some.inj h).symm⟩
  next => exact nomatch h

theorem Params.write_mask {p q : Params} {m : MaskParam} {value : List Byte} (h : p.write (.mask m) value = some q) :
    ∃ lo hi, value = [lo, hi] ∧ unsigned16 lo hi < 2 ^ m.width ∧ q = p.putMask m (unsigned16 lo hi) := by
  unfold Params.write at h
  dsimp only at h
  split at h
  next lo hi =>
    split at h
    next small => exact ⟨lo, hi, rfl, small, (Option.some.inj h).symm⟩
    next => exact nomatch h
  next => exact nomatch h

theorem Params.write_combiner {p q : Params} {i : CombinerId} {value : List Byte} :
    p.write (.combiner i) value = some q ↔ ∃ x, CombinerCfg.ofBytes i value = some x ∧ p.putCombiner i x = q :=
  Option.map_eq_some_iff

theorem Params.write_tripUnit {p q : Params} {u : TripUnit} {value : List Byte} :
    p.write (.tripUnit u) value = some q ↔ ∃ x, TripCfg.ofBytes u value = some x ∧ p.putTripUnit u x = q :=
  Option.map_eq_some_iff

theorem Params.Valid.write {p q : Params} (h : p.Valid) {name : ParamName} {value : List Byte}
    (written : p.write name value = some q) : q.Valid := by
  cases name
  case num x =>
    obtain ⟨lo, hi, -, rfl⟩ := Params.write_num written
    exact h.store x _
  case mask m =>
    obtain ⟨lo, hi, -, -, rfl⟩ := Params.write_mask written
    exact h.of_get fun x => by cases m <;> rfl
  case combiner i =>
    obtain ⟨x, -, rfl⟩ := Params.write_combiner.mp written
    exact h.of_get fun y => by cases i <;> rfl
  case tripUnit u =>
    obtain ⟨x, -, rfl⟩ := Params.write_tripUnit.mp written
    exact h.of_get fun y => by cases u <;> rfl

/-- A write of a parameter leaves PPR alone unless it is PPR's (R163). -/
theorem Params.write_ppr {p q : Params} {name : ParamName} {value : List Byte} (written : p.write name value = some q)
    (other : name ≠ .num .ppr) : q.ppr = p.ppr := by
  cases name
  case num x =>
    obtain ⟨lo, hi, -, rfl⟩ := Params.write_num written
    exact (p.get_store_other (y := .ppr) _ (fun e => other (e ▸ rfl))).trans (if_neg (by simp))
  case mask m =>
    obtain ⟨lo, hi, -, -, rfl⟩ := Params.write_mask written
    cases m <;> rfl
  case combiner i =>
    obtain ⟨x, -, rfl⟩ := Params.write_combiner.mp written
    cases i <;> rfl
  case tripUnit u =>
    obtain ⟨x, -, rfl⟩ := Params.write_tripUnit.mp written
    cases u <;> rfl

end Sys2Proof.Machine
end

section
/-! PROOFS. What a command keeps: the relations between the states at the ends of a command, and the shared operations
that are no consequences. -/

namespace Sys2Proof.Machine

/-! ## The relations -/

/-- Every invariant is kept. -/
structure Preserves (s t : State) : Prop where
  log : s.LogBounded → t.LogBounded
  trips : s.TripsOnce → t.TripsOnce
  speeds : s.SpeedsBounded → t.SpeedsBounded
  median : s.MedianTaken → t.MedianTaken
  travel : s.TravelBounded → t.TravelBounded
  seats : s.Seats → t.Seats
  path : s.PathShape → t.PathShape
  safe : s.SafeFree → t.SafeFree

/-- Every invariant is kept; the time and the waiting commands stand. -/
structure Keeps (s t : State) : Prop extends Preserves s t where
  now : t.now = s.now
  pending : t.pending = s.pending

/-- The pins, both ports and the FACTORY region stand besides. -/
structure Contained (s t : State) : Prop extends Keeps s t where
  pins : t.pins = s.pins
  portA : t.portA = s.portA
  portB : t.portB = s.portB
  factory : t.store.factory = s.store.factory

/-- The solve and the dropout watch stand besides, but for seeding and for the watch's start at 0, and the log only grows. -/
structure Serves (s t : State) : Prop extends Contained s t where
  records : s.log.records <+: t.log.records
  targets : SameTargets s t
  tilt : t.tilt.meas = s.tilt.meas
  steer : t.steer.meas = s.steer.meas
  phiS : t.solve.phiS = s.solve.phiS ∨ t.solve.phiS = s.tilt.meas
  deltaS : t.solve.deltaS = s.solve.deltaS ∨ t.solve.deltaS = s.steer.meas
  captured : t.solve.captured = s.solve.captured ∨ t.solve.captured = s.tilt.meas
  dropoutSince : t.auth.dropoutSince = s.auth.dropoutSince ∨ t.auth.dropoutSince = none
  dropoutFired : t.auth.dropoutFired = s.auth.dropoutFired ∨ t.auth.dropoutFired = false

/-- The run state stands besides. -/
structure Attends (s t : State) : Prop extends Serves s t where
  run : t.latch.run = s.latch.run

theorem Preserves.trans {s t u : State} (h : Preserves s t) (k : Preserves t u) : Preserves s u where
  log := k.log ∘ h.log
  trips := k.trips ∘ h.trips
  speeds := k.speeds ∘ h.speeds
  median := k.median ∘ h.median
  travel := k.travel ∘ h.travel
  seats := k.seats ∘ h.seats
  path := k.path ∘ h.path
  safe := k.safe ∘ h.safe

theorem Keeps.trans {s t u : State} (h : Keeps s t) (k : Keeps t u) : Keeps s u :=
  ⟨h.toPreserves.trans k.toPreserves, k.now.trans h.now, k.pending.trans h.pending⟩

theorem Contained.trans {s t u : State} (h : Contained s t) (k : Contained t u) : Contained s u where
  toKeeps := h.toKeeps.trans k.toKeeps
  pins := k.pins.trans h.pins
  portA := k.portA.trans h.portA
  portB := k.portB.trans h.portB
  factory := k.factory.trans h.factory

theorem Serves.trans {s t u : State} (h : Serves s t) (k : Serves t u) : Serves s u where
  toContained := h.toContained.trans k.toContained
  records := h.records.trans k.records
  targets := k.targets.trans h.targets
  tilt := k.tilt.trans h.tilt
  steer := k.steer.trans h.steer
  phiS := k.phiS.elim (fun e => h.phiS.imp e.trans e.trans) (fun e => .inr (e.trans h.tilt))
  deltaS := k.deltaS.elim (fun e => h.deltaS.imp e.trans e.trans) (fun e => .inr (e.trans h.steer))
  captured := k.captured.elim (fun e => h.captured.imp e.trans e.trans) (fun e => .inr (e.trans h.tilt))
  dropoutSince := k.dropoutSince.elim (fun e => h.dropoutSince.imp e.trans e.trans) .inr
  dropoutFired := k.dropoutFired.elim (fun e => h.dropoutFired.imp e.trans e.trans) .inr

theorem Attends.trans {s t u : State} (h : Attends s t) (k : Attends t u) : Attends s u :=
  ⟨h.toServes.trans k.toServes, k.run.trans h.run⟩

theorem Keeps.ite {s a b : State} (c : Prop) [Decidable c] (h : Keeps s a) (k : Keeps s b) :
    Keeps s (if c then a else b) := by split <;> assumption

theorem Contained.ite {s a b : State} (c : Prop) [Decidable c] (h : Contained s a) (k : Contained s b) :
    Contained s (if c then a else b) := by split <;> assumption

theorem Attends.ite {s a b : State} (c : Prop) [Decidable c] (h : Attends s a) (k : Attends s b) :
    Attends s (if c then a else b) := by split <;> assumption

/-- An update of what no invariant speaks of. -/
theorem Keeps.of {s t : State} (now : t.now = s.now := by rfl) (pending : t.pending = s.pending := by rfl)
    (log : s.LogBounded → t.LogBounded := by exact id) (trips : t.inputs.trips = s.inputs.trips := by rfl)
    (speeds : s.SpeedsBounded → t.SpeedsBounded := by exact id) (median : s.MedianTaken → t.MedianTaken := by exact id)
    (travel : s.TravelBounded → t.TravelBounded := by exact id)
    (tilt : t.tilt.mode = s.tilt.mode := by rfl) (steer : t.steer.mode = s.steer.mode := by rfl)
    (session : t.slot.session = s.slot.session := by rfl)
    (hold : t.auth.hold.isSome = s.auth.hold.isSome := by rfl) (run : t.latch.run = s.latch.run := by rfl)
    (path : s.PathShape → t.PathShape := by exact fun h => h.of_eq rfl rfl) : Keeps s t where
  now := now
  pending := pending
  log := log
  trips := by rw [State.TripsOnce, State.TripsOnce, trips]; exact id
  speeds := speeds
  median := median
  travel := travel
  seats h := h.of_eq tilt steer session hold run
  path := path
  safe h := h.of_eq trips hold

theorem Contained.of {s t : State} (keeps : Keeps s t := by exact .of) (pins : t.pins = s.pins := by rfl)
    (portA : t.portA = s.portA := by rfl) (portB : t.portB = s.portB := by rfl)
    (factory : t.store.factory = s.store.factory := by rfl) : Contained s t := ⟨keeps, pins, portA, portB, factory⟩

theorem Serves.of {s t : State} (contained : Contained s t := by exact .of)
    (records : s.log.records <+: t.log.records := by exact List.prefix_refl _) (targets : SameTargets s t := by exact rfl)
    (tilt : t.tilt.meas = s.tilt.meas := by rfl) (steer : t.steer.meas = s.steer.meas := by rfl)
    (phiS : t.solve.phiS = s.solve.phiS ∨ t.solve.phiS = s.tilt.meas := by exact .inl rfl)
    (deltaS : t.solve.deltaS = s.solve.deltaS ∨ t.solve.deltaS = s.steer.meas := by exact .inl rfl)
    (captured : t.solve.captured = s.solve.captured ∨ t.solve.captured = s.tilt.meas := by exact .inl rfl)
    (dropoutSince : t.auth.dropoutSince = s.auth.dropoutSince ∨ t.auth.dropoutSince = none := by exact .inl rfl)
    (dropoutFired : t.auth.dropoutFired = s.auth.dropoutFired ∨ t.auth.dropoutFired = false := by exact .inl rfl) :
    Serves s t :=
  ⟨contained, records, targets, tilt, steer, phiS, deltaS, captured, dropoutSince, dropoutFired⟩

theorem Attends.of {s t : State} (serves : Serves s t := by exact .of) (run : t.latch.run = s.latch.run := by rfl) :
    Attends s t := ⟨serves, run⟩

theorem Keeps.refl (s : State) : Keeps s s := .of
theorem Contained.refl (s : State) : Contained s s := .of
theorem Attends.refl (s : State) : Attends s s := .of

theorem State.advance_preserves (dt : Nat) (s : State) : Preserves s (s.advance dt) :=
  ⟨id, id, id, id, id, fun h => h.of_eq rfl rfl rfl rfl rfl, fun h => h.of_eq rfl rfl, id⟩

theorem State.setPending_preserves (l : List Instr) (s : State) : Preserves s (s.setPending l) :=
  ⟨id, id, id, id, id, fun h => h.of_eq rfl rfl rfl rfl rfl, fun h => h.of_eq rfl rfl, id⟩

/-! ## Consequences that uphold the invariants -/

theorem State.SpeedsBounded.of_speed {s t : State} (h : s.SpeedsBounded) (same : SameSpeed s t) : t.SpeedsBounded := by
  unfold State.SpeedsBounded
  rcases same with e | e
  · rw [e]
    exact h
  · rw [e]
    exact ⟨fun w => le_of_eq_of_le (by cases w <;> rfl) (h.1 w), h.2⟩

theorem State.MedianTaken.of_speed {s t : State} (h : s.MedianTaken) (same : SameSpeed s t) : t.MedianTaken := by
  unfold State.MedianTaken
  rcases same with e | e <;> rw [e] <;> exact h

theorem SameSpeed.accumulator {s t : State} (h : SameSpeed s t) : t.speed.accumulator = s.speed.accumulator := by
  rcases h with e | e <;> rw [e]

theorem SameSettings.ppr {s t : State} (h : SameSettings s t) : t.params.ppr = s.params.ppr := (congrArg Params.ppr h :)

theorem Sound.attends {s t : State} (h : Sound s t) : Attends s t :=
  have c := h.consequence
  have dropout : t.auth.dropoutSince = s.auth.dropoutSince ∧ t.auth.dropoutFired = s.auth.dropoutFired := by
    rcases c.rider with e | e <;> rw [e] <;> exact ⟨rfl, rfl⟩
  { now := c.now
    pending := c.outside.pending
    log := h.log
    trips := h.trips
    speeds := fun b => b.of_speed c.speed
    median := fun b => b.of_speed c.speed
    travel := fun b => ⟨h.valid b.1, by rw [c.speed.accumulator, c.settings.ppr]; exact b.2⟩
    seats := h.seats
    path := h.path
    safe := h.safe
    pins := c.outside.pins
    portA := c.outside.portA
    portB := c.outside.portB
    factory := congrArg CalStore.factory c.outside.store
    records := c.grows.1
    targets := c.targets
    tilt := c.axis_meas .tilt
    steer := c.axis_meas .steer
    phiS := h.phiS
    deltaS := h.deltaS
    captured := h.captured
    dropoutSince := .inl dropout.1
    dropoutFired := .inl dropout.2
    run := c.latchClock.2.2.2.1 }

theorem Attends.keeps {s t : State} (h : Attends s t) : Keeps s t := h.toKeeps

theorem Sound.keeps {s t : State} (h : Sound s t) : Keeps s t := h.attends.toKeeps

theorem Attends.contained {s t : State} (h : Attends s t) : Contained s t := h.toContained

theorem Keeps.settle {s t : State} (h : Keeps s t) : Keeps s t.settle := h.trans t.settle_sound.keeps

theorem Attends.settle {s t : State} (h : Attends s t) : Attends s t.settle := h.trans t.settle_sound.attends

end Sys2Proof.Machine
end

section
/-! PROOFS. What the units' own operations keep: path, speed, latch, inputs, axes. -/

namespace Sys2Proof.Machine

/-! ## The path unit -/

theorem State.endHold_hold (r : EndReason) (s : State) : (s.endHold r).auth.hold = none := by
  unfold State.endHold
  split
  next => exact (State.handOn_consequence _).unheld (State.dropHold_hold r s)
  next none => exact Option.not_isSome_iff_eq_none.mp none

/-- A hold that ends leaves the path unit in its shape, whatever it held. -/
theorem State.endHold_shape (r : EndReason) {s : State} (hold : s.auth.hold ≠ none) : (s.endHold r).PathShape := by
  obtain ⟨h, e⟩ := Option.ne_none_iff_exists'.mp hold
  have dropped : s.dropHold r = s.endHoldCore h r := by rw [State.dropHold, e]
  have shape : (s.dropHold r).PathShape :=
    dropped ▸ PathUnit.empty_shape (State.endHoldCore_ended h r s).path (State.endHoldCore_hold h r s)
  rw [State.endHold, if_pos (Option.isSome_iff_ne_none.mpr hold)]
  exact (State.handOn_sound _).path shape

/-- The path unit replaced, under a hold by one that keeps the shape. -/
theorem State.setPath_attends (u : PathUnit) (s : State) (path : s.PathShape → (s.setPath u).PathShape) :
    Attends s (s.setPath u) := .of (.of (.of (.of (path := path))))

/-- The end of a stretch of operations that begins with a path unit out of shape. -/
theorem Attends.of_setPath {s t : State} {u : PathUnit} (h : Attends (s.setPath u) t)
    (path : s.PathShape → t.PathShape) : Attends s t :=
  { h with path := path, seats := fun seats => h.seats (seats.of_eq rfl rfl rfl rfl rfl) }

theorem State.checkDry_sound (s : State) : Sound s s.checkDry := .ite _ (State.endHold_sound .dry s) (.refl s)

theorem State.logDone_latchMove (done : List Segment) (s : State) : LatchMove s (s.logDone done) := by
  induction done generalizing s with
  | nil => exact .refl s
  | cons g done ih => exact (State.logEvent_latchMove (.pathDone g.tag) s).trans (ih _)

theorem State.tooFast_current {s : State} (h : s.tooFast = true) :
    ∃ g rest c, s.path.queue = g :: rest ∧ g.ceiling = some c := by
  unfold State.tooFast at h
  split at h
  next => cases h
  next g rest e =>
    split at h
    next => cases h
    next c ceiling => exact ⟨g, rest, c, e, ceiling⟩

/-- A speed ceiling timer that runs only where the current segment has a ceiling keeps the shape. -/
theorem State.PathShape.timed {s : State} (h : s.PathShape) {since : Option Nat} (slow : s.tooFast = false → since = none)
    (hold : s.auth.hold = none → since = none) : (s.setPath { s.path with ceilingSince := since }).PathShape :=
  { queueRoom := h.queueRoom
    stagingRoom := h.stagingRoom
    queueSettled := h.queueSettled
    stagingSettled := h.stagingSettled
    within := h.within
    unheld := fun free => by
      have e := h.unheld free
      show { s.path with ceilingSince := since } = PathUnit.empty
      rw [hold free, e]
      rfl
    dry := h.dry
    watched := fun runs => by
      cases fast : s.tooFast
      · exact absurd (slow fast) runs
      · exact State.tooFast_current fast }

theorem State.PathShape.notFast {s : State} (h : s.PathShape) (free : s.auth.hold = none) : s.tooFast = false := by
  rw [State.tooFast, h.unheld free]
  rfl

theorem State.watchCeiling_attends (s : State) : Attends s s.watchCeiling :=
  State.setPath_attends _ s fun h => h.timed (fun e => by rw [e]; rfl) (fun free => by rw [h.notFast free]; rfl)

theorem State.restartCeiling_attends (s : State) : Attends s s.restartCeiling :=
  State.setPath_attends _ s fun h => h.timed (fun e => by rw [e]; rfl) (fun free => by rw [h.notFast free]; rfl)

/-- The dry count alone replaced, under a hold. -/
theorem State.countDry_attends (n : Nat) {s : State} (hold : s.auth.hold ≠ none) :
    Attends s (s.setPath { s.path with dryCount := n }) :=
  State.setPath_attends _ s fun h =>
    ⟨h.queueRoom, h.stagingRoom, h.queueSettled, h.stagingSettled, h.within, fun free => absurd free hold, h.dry, h.watched⟩

/-- What a credit leaves of a queue whose segments are longer than what stands consumed of the first (R48). -/
theorem consume_queue {pos : Nat} {queue : List Segment} (n : Nat) (long : ∀ g ∈ queue, 10 ≤ g.length)
    (within : ∀ g rest, queue = g :: rest → pos < g.length) :
    ((consume pos queue n).queue <:+ queue) ∧
    (∀ g rest, (consume pos queue n).queue = g :: rest → (consume pos queue n).pos < g.length) ∧
    ((consume pos queue n).done = [] → (consume pos queue n).queue = queue) := by
  induction queue generalizing pos n with
  | nil => exact ⟨List.suffix_refl _, fun g rest (e : [] = g :: rest) => (List.cons_ne_nil g rest e.symm).elim, fun _ => rfl⟩
  | cons g rest ih =>
    have head := within g rest rfl
    unfold consume
    split
    next short =>
      refine ⟨List.suffix_refl _, fun g' rest' e => ?_, fun _ => rfl⟩
      obtain ⟨rfl, rfl⟩ := List.cons.inj e
      show pos + n < g.length
      omega
    next =>
      obtain ⟨suffix, inside, -⟩ := ih (pos := 0) (n - (g.length - pos)) (fun x hx => long x (List.mem_cons_of_mem g hx))
        (fun x more e => by have := long x (e ▸ by simp); omega)
      exact ⟨suffix.trans (List.suffix_cons g rest), inside, fun e => nomatch e⟩

/-- A credit through a queue that keeps a current segment, with the watch as it then is. -/
theorem State.PathShape.consumed {s t : State} (h : s.PathShape) (hold : s.auth.hold ≠ none)
    (some : s.path.queue ≠ []) (n : Nat) (left : (consume s.path.pos s.path.queue n).queue ≠ [])
    (auth : t.auth.hold = s.auth.hold) (staging : t.path.staging = s.path.staging)
    (queue : t.path.queue = (consume s.path.pos s.path.queue n).queue)
    (pos : t.path.pos = (consume s.path.pos s.path.queue n).pos) (held : t.path.held = s.path.held)
    (watched : t.path.ceilingSince ≠ none → ∃ g rest c, t.path.queue = g :: rest ∧ g.ceiling = .some c) : t.PathShape := by
  obtain ⟨suffix, inside, -⟩ := consume_queue n (fun g hg => (h.queueSettled g hg).length) h.within
  exact {
    queueRoom := queue ▸ suffix.length_le.trans h.queueRoom
    stagingRoom := staging ▸ h.stagingRoom
    queueSettled := fun g hg => h.queueSettled g (suffix.subset (queue ▸ hg))
    stagingSettled := staging ▸ h.stagingSettled
    within := fun g rest e => pos ▸ inside g rest (queue ▸ e)
    unheld := fun free => absurd (auth ▸ free) hold
    dry := fun _ => by
      rw [queue, held]
      exact ⟨fun e => absurd e left, fun e => absurd ((h.dry hold).mpr e) some⟩
    watched := watched }

/-- The queue has run dry under a hold: a curvature is held, and the watch has stopped (R52, R56). -/
theorem State.PathShape.runDry {s t : State} (h : s.PathShape) (hold : t.auth.hold ≠ none) (queue : t.path.queue = [])
    (staging : t.path.staging = s.path.staging) (held : t.path.held ≠ none) (watch : t.path.ceilingSince = none) :
    t.PathShape where
  queueRoom := by rw [queue]; exact Nat.zero_le _
  stagingRoom := staging ▸ h.stagingRoom
  queueSettled g hg := by rw [queue] at hg; cases hg
  stagingSettled := staging ▸ h.stagingSettled
  within g rest e := by rw [queue] at e; cases e
  unheld free := absurd free hold
  dry _ := ⟨fun _ => held, fun _ => queue⟩
  watched runs := absurd watch runs

theorem State.ranOut_attends {s t : State} (last : Segment) (left : Nat) {u : PathUnit}
    (h : LatchMove (s.setPath u) t) (hold : s.auth.hold ≠ none) (queue : u.queue = []) (staging : u.staging = s.path.staging) :
    Attends s (t.ranOut last left) := by
  have held : t.auth.hold ≠ none := by rw [h.auth]; exact hold
  have path : t.path = u := h.path
  unfold State.ranOut
  split
  next =>
    exact (h.sound.trans (State.endHold_sound .done t)).attends.of_setPath fun _ => State.endHold_shape .done held
  next =>
    dsimp only
    set w := t.setPath { t.path with held := some last.k1, dryCount := left, ceilingSince := none } with hw
    have shape {v : State} (hv : v.PathShape) (same : t.path.staging = v.path.staging) : w.PathShape :=
      hv.runDry held ((congrArg PathUnit.queue path :).trans queue) same (Option.some_ne_none _) rfl
    have rest : Sound w (w.logEvent (.pathDry false)).checkDry :=
      (State.logEvent_sound (.pathDry false) w).trans (State.checkDry_sound _)
    have replaced : Attends t w := State.setPath_attends _ t fun ht => shape ht rfl
    exact ((h.sound.attends.trans replaced).trans rest.attends).of_setPath
      fun hs => rest.path (shape hs (path ▸ staging))

/-- A credit through a queue (R48 to R53). -/
theorem State.consumeCredit_attends (n : Nat) {s : State} (hold : s.auth.hold ≠ none) (some : s.path.queue ≠ []) :
    Attends s (s.consumeCredit n) := by
  unfold State.consumeCredit
  dsimp only
  set r := consume s.path.pos s.path.queue n with hr
  have logged := State.logDone_latchMove r.done (s.setPath { s.path with queue := r.queue, pos := r.pos })
  set v := State.logDone r.done (s.setPath { s.path with queue := r.queue, pos := r.pos })
  split
  next nothing =>
    have done : r.done = [] := List.getLast?_eq_none_iff.mp nothing
    have same (h : s.PathShape) : r.queue = s.path.queue :=
      (consume_queue n (fun g hg => (h.queueSettled g hg).length) h.within).2.2 done
    refine logged.sound.attends.of_setPath fun h => ?_
    refine h.consumed hold some n (fun e => some ((same h).symm.trans e)) (by rw [logged.auth]; rfl) (by rw [logged.path]; rfl) (by rw [logged.path]; rfl)
      (by rw [logged.path]; rfl) (by rw [logged.path]; rfl) ?_
    rw [logged.path]
    show s.path.ceilingSince ≠ none → ∃ g rest c, r.queue = g :: rest ∧ _
    rw [same h]
    exact h.watched
  next last _ =>
    split
    next empty =>
      exact State.ranOut_attends last r.left logged hold (List.isEmpty_iff.mp empty) rfl
    next left =>
      refine (logged.sound.attends.trans (State.restartCeiling_attends v)).of_setPath fun h => ?_
      refine h.consumed hold some n (fun e => left (List.isEmpty_iff.mpr e)) (congrArg AuthorityUnit.hold logged.auth :)
        (congrArg PathUnit.staging logged.path :) (congrArg PathUnit.queue logged.path :) (congrArg PathUnit.pos logged.path :)
        (congrArg PathUnit.held logged.path :) fun runs => ?_
      cases fast : v.tooFast
      · exact absurd (by rw [State.restartCeiling, fast]; rfl) runs
      · exact State.tooFast_current fast

theorem State.credit_attends (n : Nat) (s : State) : Attends s (s.credit n) := by
  unfold State.credit
  split
  next => exact .refl s
  next =>
    split
    next => exact .refl s
    next h _ e _ =>
      have hold : s.auth.hold ≠ none := e ▸ Option.some_ne_none _
      exact (State.countDry_attends _ hold).trans (State.checkDry_sound _).attends
    next h g rest e queue =>
      exact State.consumeCredit_attends n (e ▸ Option.some_ne_none _) (queue ▸ List.cons_ne_nil _ _)

/-! ## The speed unit -/

theorem State.SpeedsBounded.of_eq {s t : State} (h : s.SpeedsBounded) (wheel : ∀ w, (t.speed.wheel w).speed ≤ (s.speed.wheel w).speed)
    (median : t.speed.median = s.speed.median) (v : t.speed.v = s.speed.v) : t.SpeedsBounded :=
  ⟨fun w => (wheel w).trans (h.1 w), median ▸ h.2.1, v ▸ h.2.2⟩

/-- The speed unit replaced by one that shows the same speeds. -/
theorem State.setSpeed_attends (u : SpeedUnit) (s : State)
    (wheel : ∀ w, (u.wheel w).speed = (s.speed.wheel w).speed := by intro w; cases w <;> rfl)
    (median : u.median = s.speed.median := by rfl) (v : u.v = s.speed.v := by rfl)
    (estimate : u.estimate = s.speed.estimate := by rfl)
    (travel : s.TravelBounded → (s.setSpeed u).TravelBounded := by exact id) : Attends s (s.setSpeed u) :=
  .of (.of (.of (.of (speeds := fun h => h.of_eq (fun w => (wheel w).le) median v)
    (median := fun h e => v.trans ((h (estimate ▸ e)).trans median.symm)) (travel := travel))))

theorem State.releaseWithheld_attends (s : State) : Attends s s.releaseWithheld :=
  (State.setSpeed_attends _ s).trans (State.credit_attends _ _)

theorem State.addTravel_attends (w : Wheel) (s : State) : Attends s (s.addTravel w) := by
  have bounded (n : Nat) (h : s.TravelBounded) :
      s.params.Valid ∧ ((n % (10 * s.params.ppr.toNat) : Nat) : Int) < 10 * s.params.ppr := by
    have low : 1 ≤ s.params.ppr := (h.1.ranges .ppr).1
    have below := Nat.mod_lt n (show 0 < 10 * s.params.ppr.toNat by omega)
    exact ⟨h.1, by omega⟩
  unfold State.addTravel
  dsimp only
  split
  next =>
    refine (State.setSpeed_attends _ s (travel := ?_)).trans (State.credit_attends _ _)
    exact bounded _
  next =>
    refine State.setSpeed_attends _ s (travel := ?_)
    exact bounded _

theorem State.logOdd_latchMove (w : Wheel) (old new : Bool) (s : State) : LatchMove s (s.logOdd w old new) :=
  .ite _ (State.logEvent_latchMove _ s) (.refl s)

theorem State.logRecomputed_latchMove (old new : SpeedUnit) (s : State) : LatchMove s (s.logRecomputed old new) :=
  (((((State.logOdd_latchMove _ _ _ s).trans (State.logOdd_latchMove _ _ _ _)).trans (State.logOdd_latchMove _ _ _ _)).trans
    (.ite _ (State.logEvent_latchMove _ _) (.refl _)))).trans (.ite _ (State.logEvent_latchMove _ _) (.refl _))

theorem median3_le {a b c n : Nat} (ha : a ≤ n) (hb : b ≤ n) (hc : c ≤ n) : median3 a b c ≤ n := by
  unfold median3
  omega

/-- The speed unit after a recomputation (R7, R9). -/
theorem State.setRecomputed_attends (s : State) (now : Nat) : Attends s (s.setSpeed (s.speed.recomputed now)) := by
  refine .of (.of (.of (.of (speeds := fun h => ?_) (median := fun _ e => if_pos e))))
  have median : (s.speed.recomputed now).median ≤ 2500 := median3_le (h.1 .rear) (h.1 .frontL) (h.1 .frontR)
  refine ⟨fun w => le_of_eq_of_le (by cases w <;> rfl) (h.1 w), median, ?_⟩
  show (if _ then (s.speed.recomputed now).median else s.speed.v) ≤ 2500
  split
  · exact median
  · exact h.2.2

theorem State.recompute_attends (s : State) : Attends s s.recompute := by
  have seen := (((State.setRecomputed_attends s s.now).trans (State.logRecomputed_latchMove s.speed (s.speed.recomputed s.now) _).sound.attends).trans
    (.ite (s.speed.v ≠ (s.speed.recomputed s.now).v) (State.watchCeiling_attends _) (.refl _))).trans
    (State.handOn_sound _).attends
  exact seen.trans (.ite _ (State.releaseWithheld_attends _) (.refl _))

theorem wheelSpeed_le (circ ppr : Int) (t : Nat) : wheelSpeed circ ppr t ≤ 2500 := Nat.min_le_left ..

theorem WheelRec.edge_speed_le (r : WheelRec) (circ ppr : Int) (now : Nat) : (r.edge circ ppr now).speed ≤ 2500 := by
  unfold WheelRec.edge
  split
  · exact Nat.zero_le _
  · exact wheelSpeed_le ..
  · exact wheelSpeed_le ..

theorem SpeedUnit.wheel_setWheel (u : SpeedUnit) (w x : Wheel) (r : WheelRec) :
    (u.setWheel w r).wheel x = if x = w then r else u.wheel x := by cases w <;> cases x <;> rfl

theorem State.putWheel_attends (w : Wheel) {r : WheelRec} (le : r.speed ≤ 2500) (s : State) : Attends s (s.putWheel w r) := by
  have put : Attends s (s.setSpeed (s.speed.setWheel w r)) := by
    refine .of (.of (.of (.of (speeds := fun h => ⟨fun x => ?_, ?_⟩) (median := fun h => ?_) (travel := fun h => ?_))))
    · rw [State.setSpeed_speed, SpeedUnit.wheel_setWheel]
      split
      · exact le
      · exact h.1 x
    · cases w <;> exact h.2
    · cases w <;> exact h
    · cases w <;> exact h
  exact .ite _ (put.trans (State.recompute_attends _)) put

end Sys2Proof.Machine
end

section
/-! PROOFS. What waking, parking, grants, the starts of sessions, writes and loads keep. -/

namespace Sys2Proof.Machine

/-! ## Waking and parking -/

theorem State.setLatchUnit_attends (l : LatchUnit) (s : State) (run : l.run = s.latch.run := by rfl) :
    Attends s (s.setLatchUnit l) := .of (.of (.of (.of (run := run)))) run

/-- Both axes OFF where there is no hold, and so no session. -/
theorem State.Seats.off {s t : State} (h : s.Seats) (free : s.auth.hold = none) (tilt : t.tilt.mode = .off)
    (steer : t.steer.mode = .off) (session : t.slot.session = s.slot.session) (hold : t.auth.hold = none) : t.Seats where
  modes x m hm := by
    have none : s.slot.session = none := by
      by_contra some
      exact h.held some free
    rw [session, none]
    have mode : (t.axis x).mode = .off := by cases x <;> assumption
    rw [mode]
    rcases hm with rfl | rfl <;> simp
  held some := absurd free (h.held (session ▸ some))
  parked _ := ⟨hold, tilt, steer⟩

theorem State.axesOff_attends {s : State} (free : s.auth.hold = none) : Attends s s.axesOff :=
  have params := Attends.refl s
  { params with seats := fun h => h.off free rfl rfl rfl free, path := fun h => h.of_eq rfl rfl }

theorem State.parkNow_serves {s : State} (free : s.auth.hold = none) : Serves s s.parkNow where
  log := id
  trips := id
  speeds := id
  median := id
  travel := id
  seats h := h.off free rfl rfl rfl free
  path h := h.of_eq rfl rfl
  safe := id
  now := rfl
  pending := rfl
  pins := rfl
  portA := rfl
  portB := rfl
  factory := rfl
  records := List.prefix_refl _
  targets := rfl
  tilt := rfl
  steer := rfl
  phiS := .inl rfl
  deltaS := .inl rfl
  captured := .inl rfl
  dropoutSince := .inr rfl
  dropoutFired := .inr rfl

theorem State.runs_contained (s : State) : Contained s (s.setLatchUnit { s.latch with run := .run }) where
  log := id
  trips := id
  speeds := id
  median := id
  travel := id
  seats h := ⟨h.modes, h.held, fun parked => nomatch parked⟩
  path h := h.of_eq rfl rfl
  safe := id
  now := rfl
  pending := rfl
  pins := rfl
  portA := rfl
  portB := rfl
  factory := rfl

theorem State.wakeNow_contained (src : WakeSource) (s : State) : Contained s (s.wakeNow src) := by
  have runs := State.runs_contained s
  set a := s.setLatchUnit { s.latch with run := .run }
  have watch : Contained a (a.setAuth { a.auth with dropoutSince := none, dropoutFired := false }) := .of
  set b := a.setAuth { a.auth with dropoutSince := none, dropoutFired := false }
  have logged := (State.logEvent_sound (.wake src) b).attends.contained
  exact ((runs.trans watch).trans logged).trans (.of (s := b.logEvent (.wake src)))

theorem State.wake_contained (src : WakeSource) (s : State) : Contained s (s.wake src) :=
  .ite _ ((State.wakeNow_contained src s).trans (State.settle_sound _).attends.contained) (.refl s)

/-- A part that has been told to wake is in RUN. -/
theorem State.wake_latch_run (src : WakeSource) (s : State) : (s.wake src).latch.run = .run := by
  unfold State.wake
  split
  next => exact (State.settle_consequence (s.wakeNow src)).latchClock.2.2.2.1
  next awake =>
    cases run : s.latch.run
    · rfl
    · exact absurd run awake

/-! ## Grants (R74, R75) -/

theorem State.grant_attends (p : Port) {s : State} (run : s.latch.run = .run) (calm : s.grade = .none) :
    Attends s (s.grant p) where
  log := State.logEvent_bounded (.holdBegin p) s
  trips := id
  speeds h := h.of_eq (fun w => by cases w <;> exact le_refl _) rfl rfl
  median := id
  travel := id
  seats h := ⟨h.modes, fun _ => Option.some_ne_none _, fun parked => absurd (run.symm.trans parked) (by decide)⟩
  path _ :=
    { queueRoom := Nat.zero_le _
      stagingRoom := Nat.zero_le _
      queueSettled := fun g hg => nomatch hg
      stagingSettled := fun g hg => nomatch hg
      within := fun g rest e => nomatch e
      unheld := fun free => nomatch free
      dry := fun _ => ⟨fun _ => Option.some_ne_none _, fun _ => rfl⟩
      watched := fun runs => absurd rfl runs }
  safe _ grave := absurd calm grave
  now := rfl
  pending := rfl
  pins := rfl
  portA := rfl
  portB := rfl
  factory := rfl
  records := (State.logEvent_latchMove (.holdBegin p) s).records
  targets := rfl
  tilt := rfl
  steer := rfl
  phiS := .inl rfl
  deltaS := .inl rfl
  captured := .inl rfl
  dropoutSince := .inl rfl
  dropoutFired := .inl rfl
  run := rfl

theorem State.grantFree_attends (p : Port) {s : State} (run : s.latch.run = .run) (calm : s.grade = .none) :
    Attends s (s.grantFree p) :=
  (((State.grant_attends p run calm).trans (State.announce_latchMove _).sound.attends).trans
    (State.credit_attends _ _)).settle

theorem State.abortSession_trips (s : State) : s.abortSession.inputs.trips = s.inputs.trips := by
  unfold State.abortSession
  split
  next r _ => cases e : r.axis <;> simp [State.finishRoutine, State.setDrive, State.setResult, State.leaveSession, e] <;> rfl
  next x _ _ => cases x <;> rfl
  next => rfl
  next => rfl

theorem State.dropHold_trips (reason : EndReason) (s : State) : (s.dropHold reason).inputs.trips = s.inputs.trips := by
  unfold State.dropHold
  split
  next => rfl
  next h _ =>
    have permit (u : State) : (u.endPermit h.port).inputs = u.inputs := by
      unfold State.endPermit
      split <;> rfl
    rw [State.endHoldCore, permit]
    exact State.abortSession_trips _

theorem State.preempt_attends (p : Port) {s : State} (run : s.latch.run = .run) (calm : s.grade = .none) :
    Attends s (s.preempt p) := by
  have dropped := (State.dropHold_sound .preempted s).trans (State.announce_latchMove _).sound
  have granted : Attends ((s.dropHold .preempted).announce) ((s.dropHold .preempted).announce.grant p) :=
    State.grant_attends p (dropped.attends.run.trans run)
      ((congrArg gradeOf (State.dropHold_trips .preempted s) :).trans calm)
  exact ((dropped.attends.trans granted).trans (State.announce_latchMove _).sound.attends).settle

/-! ## Sessions (R97, R104, R105, R109, R110) -/

/-- An axis takes the free slot, under a hold. -/
theorem State.Seats.enter {s t : State} {x : Axis} {m : AxisMode} (h : s.Seats) (free : s.slot.session = none)
    (hold : s.auth.hold ≠ none) (mode : (t.axis x).mode = m) (other : ∀ y, y ≠ x → (t.axis y).mode = (s.axis y).mode)
    (session : t.slot.session = some (x, m)) (auth : t.auth.hold = s.auth.hold) (run : t.latch.run = s.latch.run) :
    t.Seats where
  modes y n hn := by
    rw [session]
    by_cases same : y = x
    · rw [same, mode]
      simp
    · rw [other y same, h.modes y n hn, free]
      simp [Ne.symm same]
  held _ := auth ▸ hold
  parked p := absurd (h.parked (run ▸ p)).1 hold

theorem State.setAxis_axis_mode (x y : Axis) (a : AxisCtl) (s : State) (other : y ≠ x) :
    ((s.setAxis x a).axis y).mode = (s.axis y).mode := by
  cases x <;> cases y
  case tilt.tilt | steer.steer => exact absurd rfl other
  all_goals rfl

/-- An axis takes the free slot with this occupant, its measurement standing. -/
theorem State.enter_attends {s : State} {x : Axis} {m : AxisMode} {a : AxisCtl} {y : Slot} (free : s.slot.session = none)
    (hold : s.auth.hold ≠ none) (mode : a.mode = m) (meas : a.meas = (s.axis x).meas) (session : y.session = some (x, m)) :
    Attends s ((s.setAxis x a).setSlot y) := by
  have seats (h : s.Seats) : ((s.setAxis x a).setSlot y).Seats :=
    h.enter free hold (by cases x <;> exact mode) (fun z other => State.setAxis_axis_mode x z a s other) session
      (by cases x <;> rfl) (by cases x <;> rfl)
  have same := Attends.refl s
  cases x
  · exact { same with seats := seats, tilt := meas, path := fun h => h.of_eq rfl rfl }
  · exact { same with seats := seats, steer := meas, path := fun h => h.of_eq rfl rfl }

theorem State.setSlot_beginPhase (y : Slot) (r : Routine) (ph : Phase) (s : State) :
    (s.setSlot y).beginPhase r ph = s.beginPhase r ph := by
  cases ph
  case release | engage =>
    have axis : (s.setSlot y).axis r.axis = s.axis r.axis := by cases r.axis <;> rfl
    simp only [State.beginPhase, axis]
    rfl
  all_goals
    unfold State.beginPhase
    cases r.axis <;> rfl

theorem State.startRoutine_attends (x : Axis) (k : RoutineKind) {s : State} (free : s.slot.session = none)
    (hold : s.auth.hold ≠ none) : Attends s (s.startRoutine x k) := by
  unfold State.startRoutine
  dsimp only
  rw [← State.setSlot_beginPhase (.routine (.start x k (s.params.centre x)))]
  set t := (s.setAxis x _).setSlot (.routine (.start x k (s.params.centre x))) with ht
  have entered : Attends s t := ht ▸ State.enter_attends (m := .routine) free hold rfl rfl rfl
  have session : t.slot.session = some (x, .routine) := by rw [ht]; rfl
  exact entered.trans (State.beginPhase_sound (firstPhase x k) (by exact session)).attends

theorem State.startService_attends (x : Axis) {s : State} (free : s.slot.session = none)
    (hold : s.auth.hold ≠ none) : Attends s (s.startService x) :=
  State.enter_attends (m := .service) free hold rfl rfl rfl

theorem State.suspend_sound {r : Routine} {s : State} (session : s.slot.session = some (r.axis, .routine)) :
    Sound s (s.suspend r) :=
  ((State.setSlot_sound _ s (by exact session.symm)).trans (State.setDrive_sound _ _ _)).trans (State.logEvent_sound _ _)

theorem State.resume_sound {r : Routine} {s : State} (session : s.slot.session = some (r.axis, .routine)) :
    Sound s (s.resume r) :=
  ((State.logEvent_sound _ s).trans (State.beginPhase_sound _ (by exact session))).trans (State.settle_sound _)

theorem State.suspendIfMoving_sound (s : State) : Sound s s.suspendIfMoving := by
  unfold State.suspendIfMoving
  split
  next r e => exact .ite _ (State.suspend_sound (e ▸ rfl)) (.refl s)
  all_goals exact .refl s

theorem Slot.session_of_serviceAxis {y : Slot} {x : Axis} (h : y.serviceAxis = some x) : y.session = some (x, .service) := by
  cases y
  case service => rw [Slot.session, Option.some.inj h]
  all_goals cases h

theorem Slot.session_of_routine? {y : Slot} {r : Routine} (h : y.routine? = some r) :
    y.session = some (r.axis, .routine) := by
  cases y
  case routine => rw [Slot.session, Option.some.inj h]
  all_goals cases h

theorem Slot.session_of_running {y : Slot} {r : Routine} (h : y.running = some r) :
    y.session = some (r.axis, .routine) := by
  cases y
  case routine q =>
    unfold Slot.running at h
    dsimp only at h
    split at h
    · rw [Slot.session, Option.some.inj h]
    · cases h
  all_goals cases h

theorem Slot.session_of_isFree {y : Slot} (h : y.isFree = true) : y.session = none := by
  cases y
  case free => rfl
  all_goals cases h

theorem State.applyDrive_sound (x : Axis) (d : Int) {s : State} (session : s.slot.session = some (x, .service)) :
    Sound s (s.applyDrive x d) :=
  (State.setSlot_sound _ s (by exact session.symm)).trans (State.setDrive_sound _ _ _)

/-! ## ENABLE (R94) -/

/-- An axis outside sessions takes a mode that is no session's, in RUN. -/
theorem State.Seats.remode {s t : State} {x : Axis} (h : s.Seats) (run : t.latch.run = .run)
    (old : ¬(s.axis x).mode.ofSession) (new : ¬(t.axis x).mode.ofSession)
    (other : ∀ y, y ≠ x → (t.axis y).mode = (s.axis y).mode) (slot : t.slot = s.slot)
    (auth : t.auth.hold = s.auth.hold) : t.Seats where
  modes y n hn := by
    rw [slot, ← h.modes y n hn]
    by_cases same : y = x
    · subst same
      exact ⟨fun e => absurd (e ▸ hn) new, fun e => absurd (e ▸ hn) old⟩
    · rw [other y same]
  held some := auth ▸ h.held (slot ▸ some)
  parked p := absurd (run.symm.trans p) (by decide)

theorem State.setAxis_mode_self (x : Axis) (a : AxisCtl) (s : State) : ((s.setAxis x a).axis x) = a := by
  cases x <;> rfl

theorem State.enableAxis_attends (x : Axis) {s : State} (run : s.latch.run = .run) : Attends s (s.enableAxis x) := by
  unfold State.enableAxis
  dsimp only
  split
  next off =>
    refine .trans ?_ (t := s.setAxis x { s.axis x with mode := .track }) ?_
    · have same := Attends.refl s
      have seats (h : s.Seats) : (s.setAxis x { s.axis x with mode := .track }).Seats :=
        h.remode (x := x) (by cases x <;> exact run) (by rw [off]; rintro (e | e) <;> cases e)
          (by rw [State.setAxis_mode_self]; rintro (e | e) <;> cases e)
          (fun y other => State.setAxis_axis_mode x y _ s other) (State.setAxis_slot ..) (by cases x <;> rfl)
      cases x
      · exact { same with seats := seats, path := fun h => h.of_eq rfl rfl }
      · exact { same with seats := seats, path := fun h => h.of_eq rfl rfl }
    · exact (State.seedSetpoint_sound x _).attends
  next => exact .refl s
  next => exact (State.setAxis_sound x _ s (by exact rfl) (by exact rfl) (by exact rfl)).attends
  next => exact (State.setAxis_sound x _ s (by exact rfl) (by exact rfl) (by exact rfl)).attends

/-! ## The working set (R163, R166) -/

theorem State.setParams_attends (p : Params) (s : State) (travel : s.TravelBounded → (s.setParams p).TravelBounded) :
    Attends s (s.setParams p) := .of (.of (.of (.of (travel := travel))))

/-- A valid set enters with no travel in the accumulator. -/
theorem State.zeroTravel_attends {p : Params} (s : State) (valid : s.params.Valid → p.Valid) :
    Attends s ((s.setParams p).zeroTravel) := by
  have travel (h : s.TravelBounded) : ((s.setParams p).zeroTravel).TravelBounded := by
    have ok := valid h.1
    refine ⟨ok, ?_⟩
    have low : 1 ≤ p.ppr := (ok.ranges .ppr).1
    show ((0 : Nat) : Int) < 10 * p.ppr
    omega
  exact .of (.of (.of (.of (speeds := fun h => h.of_eq (fun w => by cases w <;> exact le_refl _) rfl rfl) (travel := travel))))

theorem State.evaluateLine_attends (p : Port) (s : State) : Attends s (s.evaluateLine p) := by
  cases p <;> exact .of

theorem State.clearStored_sound (i : CombinerId) (s : State) : Sound s (s.clearStored i) := State.setCombiner_sound i _ s

theorem State.clearTripUnit_sound (u : TripUnit) (s : State) : Sound s (s.clearTripUnit u) := State.setTripUnit_sound u _ s

theorem State.load_attends (p : Params) (s : State) : Attends s (s.load p) := by
  unfold State.load
  dsimp only
  have entered := State.zeroTravel_attends (p := p.loaded) s fun _ => p.loaded_valid
  set v := (s.setParams p.loaded).zeroTravel
  have cleared := ((((State.clearStored_sound .c0 v).trans (State.clearStored_sound .c1 _)).trans
    (State.clearStored_sound .c2 _)).trans (State.clearTripUnit_sound .t1 _)).trans (State.clearTripUnit_sound .t2 _)
  exact ((entered.trans (cleared.trans (State.evaluateInputs_sound false _ _)).attends).trans
    (State.evaluateLine_attends .a _)).trans (State.evaluateLine_attends .b _)

theorem State.restore_attends (s : State) : Attends s s.restore :=
  .settle (.trans (t := s.setStore { s.store with source := .factory }) .of (State.load_attends _ _))

theorem State.writeParam_attends {name : ParamName} {p : Params} {value : List Byte} {s : State}
    (written : s.params.write name value = some p) : Attends s (s.writeParam name p) := by
  have entered (other : name ≠ .num .ppr) : Attends s (s.setParams p) :=
    State.setParams_attends p s fun h => ⟨h.1.write written, by
      show (s.speed.accumulator : Int) < 10 * p.ppr
      rw [Params.write_ppr written other]
      exact h.2⟩
  refine .settle ?_
  cases name with
  | num x =>
    by_cases ppr : x = .ppr
    · subst ppr
      exact State.zeroTravel_attends s fun h => h.write written
    · have e : (s.setParams p).writeEffect (.num x) s.combined = s.setParams p := by
        cases x
        case ppr => exact absurd rfl ppr
        all_goals rfl
      rw [e]
      exact entered fun e => ppr (ParamName.num.inj e)
  | mask m =>
    have e := entered (fun e => nomatch e)
    cases m
    case attnA => exact e.trans (State.evaluateLine_attends .a _)
    case attnB => exact e.trans (State.evaluateLine_attends .b _)
    case inputEvent => exact e
    case wake => exact e
  | combiner i =>
    exact (entered (fun e => nomatch e)).trans
      ((State.clearStored_sound i _).trans (State.evaluateInputs_sound false _ _)).attends
  | tripUnit u =>
    exact (entered (fun e => nomatch e)).trans
      ((State.clearTripUnit_sound u _).trans (State.evaluateTripUnit_sound u _)).attends

/-! ## The trip set (R144) -/

theorem State.clearTrips_attends (s : State) : Attends s s.clearTrips := by
  refine .ite _ (.refl s) (.settle (.trans (t := s.setInputs { s.inputs with trips := [] }) ?_ (State.logEvent_sound _ _).attends))
  have same := Attends.refl s
  exact { same with
    trips := fun _ => List.nodup_nil
    seats := fun h => h.of_eq rfl rfl rfl rfl rfl
    path := fun h => h.of_eq rfl rfl
    safe := fun _ grave => absurd rfl grave }

end Sys2Proof.Machine
end

section
/-! PROOFS. What the handlers of the requests keep. -/

namespace Sys2Proof.Machine

/-! ## Segments as R45 settles them -/

theorem clampSym_bounds {b : Int} (h : 0 ≤ b) (x : Int) : -b ≤ clampSym b x ∧ clampSym b x ≤ b :=
  clamp_bounds (by omega) x

theorem settleSegment_settled {options tag : Byte} {length : Nat} {k0 : Int} {k1 : Option Int} {ceiling : Option Nat}
    {trim : Option Int} {r : ReadSegment} (h : settleSegment options tag length k0 k1 ceiling trim = some r) :
    r.seg.Settled := by
  unfold settleSegment at h
  split at h
  next => cases h
  next ok =>
    obtain ⟨long, low⟩ : 10 ≤ length ∧ ceiling.any (2500 < ·) = false := by simpa using ok
    obtain rfl := Option.some.inj h
    have curve := clampSym_bounds (b := 500) (by decide)
    refine ⟨long, curve k0, ?_, fun c hc => ?_, fun c hc => ?_⟩
    · cases k1 with
      | none => exact curve k0
      | some k => exact curve k
    · have e : ceiling = some c := hc
      rw [e] at low
      simpa using low
    · obtain ⟨x, -, rfl⟩ := Option.map_eq_some_iff.mp hc
      exact clampSym_bounds (by decide) x

theorem readSegment_settled {bytes rest : List Byte} {r : ReadSegment} (h : readSegment bytes = some (r, rest)) :
    r.seg.Settled := by
  unfold readSegment at h
  split at h
  next =>
    split at h
    next => cases h
    next =>
      obtain ⟨a, -, h⟩ := Option.bind_eq_some_iff.mp h
      obtain ⟨b, -, h⟩ := Option.bind_eq_some_iff.mp h
      obtain ⟨c, -, h⟩ := Option.bind_eq_some_iff.mp h
      obtain ⟨q, settled, e⟩ := Option.map_eq_some_iff.mp h
      obtain ⟨rfl, -⟩ := Prod.mk.inj e
      exact settleSegment_settled settled
  next => cases h

theorem readSegmentsN_settled {n : Nat} {bytes : List Byte} {segs : List ReadSegment}
    (h : readSegmentsN n bytes = some segs) : ∀ g ∈ segs.map (·.seg), g.Settled := by
  induction n generalizing bytes segs with
  | zero =>
    cases bytes with
    | nil => cases h; simp
    | cons => cases h
  | succ n ih =>
    cases bytes with
    | nil => cases h; simp
    | cons b bs =>
      unfold readSegmentsN at h
      split at h
      next => cases h
      next r rest read =>
        obtain ⟨more, readMore, rfl⟩ := Option.map_eq_some_iff.mp h
        exact List.forall_mem_cons.mpr ⟨readSegment_settled read, ih readMore⟩

/-! ## LOAD_PATH and FLUSH_PATH -/

theorem State.hold_of_holds {s : State} {p : Port} (h : s.holds p = true) : s.auth.hold ≠ none := by
  intro none
  rw [State.holds, none] at h
  cases h

theorem State.discardStaging_attends (s : State) : Attends s s.discardStaging :=
  State.setPath_attends _ s fun h =>
    { h with
      stagingRoom := Nat.zero_le _
      stagingSettled := fun g hg => nomatch hg
      unheld := fun free => by
        have e := h.unheld free
        show { s.path with staging := [], batchOpen := false } = PathUnit.empty
        rw [e]
        rfl
      dry := h.dry }

theorem State.stage_attends {segs : List ReadSegment} {s : State} (hold : s.auth.hold ≠ none)
    (room : s.path.staging.length + segs.length ≤ 8) (settled : ∀ g ∈ segs.map (·.seg), g.Settled) :
    Attends s (s.stage segs) :=
  State.setPath_attends _ s fun h =>
    { h with
      stagingRoom := by
        show (s.path.staging ++ segs.map (·.seg)).length ≤ 8
        rw [List.length_append, List.length_map]
        exact room
      stagingSettled := fun g hg => (List.mem_append.mp hg).elim (h.stagingSettled g) (settled g)
      unheld := fun free => absurd free hold
      dry := h.dry }

/-- A batch that fits joins the queue (R55, R65). -/
theorem State.PathShape.append {batch : List Segment} {s : State} (h : s.PathShape) (hold : s.auth.hold ≠ none)
    (room : s.path.queue.length + batch.length ≤ 16) (settled : ∀ g ∈ batch, g.Settled) :
    (s.appendSegments batch).PathShape := by
  unfold State.appendSegments
  split
  next => exact h
  next g rest empty =>
    refine (State.restartCeiling_attends _).path ?_
    rw [empty, List.length_nil, Nat.zero_add] at room
    exact {
      queueRoom := room
      stagingRoom := h.stagingRoom
      queueSettled := settled
      stagingSettled := h.stagingSettled
      within := fun x more e => by
        obtain ⟨rfl, rfl⟩ := List.cons.inj e
        have := (settled g (List.mem_cons_self ..)).length
        show 0 < g.length
        omega
      unheld := fun free => absurd free hold
      dry := fun _ => ⟨fun e => absurd e (List.cons_ne_nil _ _), fun e => absurd rfl e⟩
      watched := fun runs => by
        obtain ⟨_, _, _, e, _⟩ := h.watched runs
        rw [empty] at e
        cases e }
  next head more g rest full =>
    rw [full, ← List.length_append] at room
    exact {
      queueRoom := room
      stagingRoom := h.stagingRoom
      queueSettled := fun x hx => (List.mem_append.mp hx).elim (fun old => h.queueSettled x (full ▸ old)) (settled x)
      stagingSettled := h.stagingSettled
      within := fun x tail e => by
        obtain ⟨rfl, -⟩ := List.cons.inj e
        exact h.within head more full
      unheld := fun free => absurd free hold
      dry := fun some => ⟨fun e => absurd e (List.cons_ne_nil _ _),
        fun e => absurd ((h.dry some).mpr e) (full ▸ List.cons_ne_nil _ _)⟩
      watched := fun runs => by
        obtain ⟨x, tail, c, e, ceiling⟩ := h.watched runs
        obtain ⟨rfl, -⟩ := List.cons.inj (full.symm.trans e)
        exact ⟨head, more ++ g :: rest, c, rfl, ceiling⟩ }

/-- An append touches the path unit alone. -/
theorem State.appendSegments_eq (batch : List Segment) (s : State) :
    s.appendSegments batch = s.setPath (s.appendSegments batch).path := by
  unfold State.appendSegments
  split <;> rfl

theorem commitBatch_attends {batch : List Segment} (status : Status) {s : State} (hold : s.auth.hold ≠ none)
    (settled : s.PathShape → ∀ g ∈ batch, g.Settled) : Attends s (commitBatch batch status s).1 := by
  unfold commitBatch
  dsimp only
  split
  next room =>
    have e : s.discardStaging.appendSegments batch = s.setPath (s.discardStaging.appendSegments batch).path :=
      State.appendSegments_eq batch s.discardStaging
    show Attends s (s.discardStaging.appendSegments batch)
    rw [e]
    refine State.setPath_attends _ s fun h => e ▸ ?_
    have within := h.queueRoom
    exact ((State.discardStaging_attends s).path h).append hold (by show s.path.queue.length + _ ≤ 16; omega) (settled h)
  next => exact State.discardStaging_attends s

theorem stagingFull_attends (s : State) : Attends s (stagingFull s).1 := State.discardStaging_attends s

/-- What a batch position makes of segments that a frame has carried (R60 to R63). -/
structure Position (act : List ReadSegment → State → State × Answer) : Prop where
  attends : ∀ {segs : List ReadSegment} {s : State}, s.auth.hold ≠ none → segs.length ≤ 4 →
    (∀ g ∈ segs.map (·.seg), g.Settled) → Attends s (act segs s).1

theorem loadFirst_position : Position loadFirst where
  attends {_ s} hold few settled :=
    (State.discardStaging_attends s).trans (State.stage_attends (s := s.discardStaging) hold
      (by show 0 + _ ≤ 8; omega) settled)

theorem loadMiddle_position : Position loadMiddle where
  attends {segs s} hold few settled := by
    unfold loadMiddle
    split
    · exact .refl s
    · split
      next => exact stagingFull_attends s
      next room => exact State.stage_attends hold (by omega) settled

theorem loadLast_position : Position loadLast where
  attends {segs s} hold few settled := by
    unfold loadLast
    split
    · exact .refl s
    · split
      next => exact stagingFull_attends s
      next =>
        exact commitBatch_attends _ hold fun h g hg => (List.mem_append.mp hg).elim (h.stagingSettled g) (settled g)

theorem loadOnly_position : Position loadOnly where
  attends hold _ settled := commitBatch_attends _ hold fun _ => settled

theorem malformed_position : Position (fun _ s => loadAnswer s.discardStaging .badArg []) where
  attends _ _ _ := State.discardStaging_attends _

theorem loadPath_attends {act : List ReadSegment → State → State × Answer} (position : Position act) (p : Port)
    (payload : List Byte) (s : State) : Attends s (loadPath act p payload s).1 := by
  unfold loadPath
  split
  next => exact .refl s
  next holder =>
    split
    next => exact .refl s
    next =>
      split
      next => exact State.discardStaging_attends s
      next segs read =>
        exact position.attends (State.hold_of_holds (by simpa using holder)) (readSegments_length_le read)
          (readSegmentsN_settled read)

theorem handleLoadPath_attends (p : Port) (payload : List Byte) (s : State) :
    Attends s (handleLoadPath p payload s).1 := by
  unfold handleLoadPath
  split
  next =>
    split
    · exact loadPath_attends loadFirst_position _ _ _
    · exact loadPath_attends loadMiddle_position _ _ _
    · exact loadPath_attends loadLast_position _ _ _
    · exact loadPath_attends loadOnly_position _ _ _
    · exact loadPath_attends malformed_position _ _ _
  next => exact loadPath_attends malformed_position _ _ _

theorem State.flush_attends {s : State} (hold : s.auth.hold ≠ none) : Attends s s.flush := by
  unfold State.flush
  split
  next => exact State.discardStaging_attends s
  next =>
    refine .trans (State.setPath_attends _ s fun _ => ?_) (State.logEvent_sound _ _).attends
    exact {
      queueRoom := Nat.zero_le _
      stagingRoom := Nat.zero_le _
      queueSettled := fun g hg => nomatch hg
      stagingSettled := fun g hg => nomatch hg
      within := fun g rest e => nomatch e
      unheld := fun free => absurd free hold
      dry := fun _ => ⟨fun _ => Option.some_ne_none _, fun _ => rfl⟩
      watched := fun runs => absurd rfl runs }

theorem handleFlushPath_attends (p : Port) (payload : List Byte) (s : State) :
    Attends s (handleFlushPath p payload s).1 := by
  unfold handleFlushPath
  split
  next => exact .refl s
  next =>
    split
    next => exact .refl s
    next holder => exact State.flush_attends (State.hold_of_holds (by simpa using holder))

end Sys2Proof.Machine
end

section
/-! PROOFS. What each handler keeps, and a whole request. -/

namespace Sys2Proof.Machine

/-! ## The handlers -/

theorem handleStatus_attends (p : Port) (payload : List Byte) (s : State) : Attends s (handleStatus p payload s).1 := by
  unfold handleStatus
  split <;> exact .refl s

theorem handleGetParam_attends (p : Port) (payload : List Byte) (s : State) :
    Attends s (handleGetParam p payload s).1 := by
  unfold handleGetParam
  split
  next => split <;> exact .refl s
  next => exact .refl s

theorem handleReadResult_attends (p : Port) (payload : List Byte) (s : State) :
    Attends s (handleReadResult p payload s).1 := by
  unfold handleReadResult
  split
  next => exact .refl s
  next => split <;> exact .refl s

theorem EventLog.read_length (l : EventLog) (a b : Byte) (now : Nat) :
    (l.read a b now).records.length ≤ l.records.length := by
  unfold EventLog.read
  split
  · exact le_refl _
  · exact (List.length_drop ..).trans_le (Nat.sub_le ..)

theorem handleReadEvents_contained (p : Port) (payload : List Byte) (s : State) :
    Contained s (handleReadEvents p payload s).1 := by
  unfold handleReadEvents
  split
  next => exact .refl s
  next => exact .of (.of (log := fun h => (EventLog.read_length ..).trans h))

theorem handleSetParam_attends (p : Port) (payload : List Byte) (s : State) :
    Attends s (handleSetParam p payload s).1 := by
  unfold handleSetParam
  split
  next => exact .refl s
  next b name value _ =>
    split
    next => exact .refl s
    next new written =>
      unfold setChecked
      split
      · exact .refl s
      split
      · exact .refl s
      split
      · exact .refl s
      · exact State.writeParam_attends written

theorem handleEnable_attends (p : Port) (payload : List Byte) {s : State} (run : s.latch.run = .run) :
    Attends s (handleEnable p payload s).1 := by
  unfold handleEnable
  split
  · exact .refl s
  split
  · exact .refl s
  · have tilt := State.enableAxis_attends .tilt run
    exact (tilt.trans (State.enableAxis_attends .steer (tilt.run.trans run))).settle

theorem State.softRestart_attends (s : State) : Attends s s.softRestart := by
  have ended := (State.endHold_sound .restart s).trans (State.abortSession_sound _)
  have free : (s.endHold .restart).abortSession.auth.hold = none :=
    (State.abortSession_consequence _).unheld (State.endHold_hold .restart s)
  set t := (s.endHold .restart).abortSession
  have seeded : Attends t.axesOff t.axesOff.seedAll :=
    .of (.of (phiS := .inr rfl) (deltaS := .inr rfl) (captured := .inr rfl))
  exact (((ended.attends.trans (State.axesOff_attends free)).trans seeded).trans (State.logEvent_sound _ _).attends).settle

theorem handleSoftRestart_attends (p : Port) (payload : List Byte) (s : State) :
    Attends s (handleSoftRestart p payload s).1 := by
  unfold handleSoftRestart
  split
  · exact .refl s
  split
  · exact .refl s
  · exact State.softRestart_attends s

theorem handlePark_serves (p : Port) (payload : List Byte) (s : State) : Serves s (handlePark p payload s).1 := by
  unfold handlePark
  split
  next => exact (Attends.refl s).toServes
  next =>
    split
    next parks => exact State.parkNow_serves (Option.isNone_iff_eq_none.mp (Bool.and_eq_true .. ▸ parks).2)
    next => exact (Attends.refl s).toServes

theorem handleClearTrip_attends (p : Port) (payload : List Byte) (s : State) :
    Attends s (handleClearTrip p payload s).1 := by
  unfold handleClearTrip
  split
  · exact .refl s
  split
  · exact State.clearTrips_attends s
  · exact .refl s

theorem State.demandItem_sound (p : Port) (i : DemandItem) (s : State) : Sound s (s.demandItem p i) :=
  have item := State.setLatchUnit_sound _ s (LatchUnit.setItem_clock s p i)
  .ite _ (item.trans (State.endPermit_sound _ _)) item

theorem State.lockRequest_sound (s : State) : Sound s s.lockRequest :=
  .ite _ (State.beginEngage_latchMove .own s).sound (.refl s)

theorem demandNone_attends (p : Port) (s : State) : Attends s (demandNone p s).1 :=
  (State.demandItem_sound p .none s).attends.settle

theorem demandLock_attends (p : Port) (s : State) : Attends s (demandLock p s).1 :=
  ((State.demandItem_sound p .lock s).trans (State.lockRequest_sound _)).attends.settle

theorem demandPermit_attends (p : Port) (s : State) : Attends s (demandPermit p s).1 := by
  unfold demandPermit
  split
  · exact .refl s
  split
  · exact .refl s
  · exact (State.demandItem_sound p .permit s).attends.settle

theorem demandRow_attends {act : Port → State → State × Answer} (h : ∀ p s, Attends s (act p s).1) (p : Port)
    (payload : List Byte) (s : State) : Attends s (demandRow act p payload s).1 := by
  unfold demandRow
  split
  · exact .refl s
  · exact h p s

theorem handleLockDemand_attends (p : Port) (payload : List Byte) (s : State) :
    Attends s (handleLockDemand p payload s).1 := by
  unfold handleLockDemand
  split
  next =>
    split
    · exact demandNone_attends p s
    · exact demandLock_attends p s
    · exact demandPermit_attends p s
    · exact .refl s
  next => exact .refl s

theorem handleTakeHold_attends (p : Port) (payload : List Byte) {s : State} (run : s.latch.run = .run) :
    Attends s (handleTakeHold p payload s).1 := by
  unfold handleTakeHold
  split
  next => exact .refl s
  next =>
    split
    next => exact .refl s
    next =>
      split
      next => exact .refl s
      next opened =>
        have calm : s.grade = .none := by
          simp only [Bool.or_eq_true, decide_eq_true_eq, not_or, not_not] at opened
          exact opened.1
        split
        · exact State.grantFree_attends p run calm
        split
        · exact State.preempt_attends p run calm
        · exact .refl s

theorem handleDropHold_attends (p : Port) (payload : List Byte) (s : State) :
    Attends s (handleDropHold p payload s).1 := by
  unfold handleDropHold
  split
  · exact .refl s
  split
  · exact .refl s
  · exact (State.endHold_sound .dropped s).attends.settle

theorem handleStartRoutine_attends (p : Port) (payload : List Byte) (s : State) :
    Attends s (handleStartRoutine p payload s).1 := by
  unfold handleStartRoutine
  split
  next => exact .refl s
  next x k _ =>
    split
    next => exact .refl s
    next holder =>
      split
      next => exact .refl s
      next free =>
        split
        next => exact .refl s
        next =>
          exact (State.startRoutine_attends x k (Slot.session_of_isFree (by simpa using free))
            (State.hold_of_holds (by simpa using holder))).settle

theorem handleEnterService_attends (p : Port) (payload : List Byte) (s : State) :
    Attends s (handleEnterService p payload s).1 := by
  unfold handleEnterService
  split
  next => exact .refl s
  next x _ =>
    split
    next => exact .refl s
    next holder =>
      split
      next => exact .refl s
      next free =>
        split
        next => exact .refl s
        next =>
          exact (State.startService_attends x (Slot.session_of_isFree (by simpa using free))
            (State.hold_of_holds (by simpa using holder))).settle

theorem handleSuspendRoutine_attends (p : Port) (payload : List Byte) (s : State) :
    Attends s (handleSuspendRoutine p payload s).1 := by
  unfold handleSuspendRoutine
  split
  · exact .refl s
  split
  · exact .refl s
  split
  next => exact .refl s
  next r e =>
    split
    · exact .refl s
    · exact (State.suspend_sound (Slot.session_of_routine? e)).attends

theorem handleResumeRoutine_attends (p : Port) (payload : List Byte) (s : State) :
    Attends s (handleResumeRoutine p payload s).1 := by
  unfold handleResumeRoutine
  split
  · exact .refl s
  split
  · exact .refl s
  split
  next => exact .refl s
  next r e =>
    split
    · exact (State.resume_sound (Slot.session_of_routine? e)).attends
    · exact .refl s

theorem handleAbortRoutine_attends (p : Port) (payload : List Byte) (s : State) :
    Attends s (handleAbortRoutine p payload s).1 := by
  unfold handleAbortRoutine
  split
  · exact .refl s
  split
  · exact .refl s
  split
  next => exact .refl s
  next r e => exact (State.finishRoutine_sound .aborted false (Slot.session_of_routine? e)).attends.settle

theorem handleServiceDrive_attends (p : Port) (payload : List Byte) (s : State) :
    Attends s (handleServiceDrive p payload s).1 := by
  unfold handleServiceDrive
  split
  next =>
    split
    next => exact .refl s
    next =>
      split
      next => exact .refl s
      next x e => exact (State.applyDrive_sound x _ (Slot.session_of_serviceAxis e)).attends
  next => exact .refl s

theorem handleLeaveService_attends (p : Port) (payload : List Byte) (s : State) :
    Attends s (handleLeaveService p payload s).1 := by
  unfold handleLeaveService
  split
  · exact .refl s
  split
  · exact .refl s
  split
  next => exact .refl s
  next x e => exact (State.finishService_sound (Slot.session_of_serviceAxis e)).attends.settle

theorem handleCommitCal_attends (p : Port) (payload : List Byte) (s : State) :
    Attends s (handleCommitCal p payload s).1 := by
  unfold handleCommitCal
  split
  · exact .refl s
  split
  · exact .refl s
  next free =>
    have session : s.slot.session = none := Slot.session_of_isFree (by simpa using free)
    exact .of (.of (.of (.of (session := session.symm))))

theorem handleRestoreCal_attends (p : Port) (payload : List Byte) (s : State) :
    Attends s (handleRestoreCal p payload s).1 := by
  unfold handleRestoreCal
  split
  · exact .refl s
  split
  · exact .refl s
  split
  · exact .refl s
  split
  · exact .refl s
  · exact State.restore_attends s

/-! ## A request -/

/-- What a handler may do to a part that it finds in RUN where its request wakes. -/
def HandlerContained (wakes : Bool) (h : Handler) : Prop :=
  ∀ p payload s, (wakes = true → s.latch.run = .run) → Contained s (h p payload s).1

theorem Attends.handler {wakes : Bool} {h : Handler} (k : ∀ p payload s, Attends s (h p payload s).1) :
    HandlerContained wakes h := fun p payload s _ => (k p payload s).contained

theorem Attends.wakingHandler {h : Handler}
    (k : ∀ p payload {s : State}, s.latch.run = .run → Attends s (h p payload s).1) : HandlerContained true h :=
  fun p payload _ run => (k p payload (run rfl)).contained

theorem handlerOf_contained (kind : Nat) : HandlerContained (handlerOf kind).1 (handlerOf kind).2 := by
  unfold handlerOf
  split
  · exact Attends.handler handleStatus_attends
  · exact fun p payload s _ => handleReadEvents_contained p payload s
  · exact Attends.handler handleGetParam_attends
  · exact Attends.handler handleSetParam_attends
  · exact Attends.wakingHandler handleEnable_attends
  · exact Attends.handler handleSoftRestart_attends
  · exact fun p payload s _ => (handlePark_serves p payload s).toContained
  · exact Attends.handler handleClearTrip_attends
  · exact Attends.handler handleLockDemand_attends
  · exact Attends.wakingHandler handleTakeHold_attends
  · exact Attends.handler handleDropHold_attends
  · exact Attends.handler handleLoadPath_attends
  · exact Attends.handler handleFlushPath_attends
  · exact Attends.handler handleStartRoutine_attends
  · exact Attends.handler handleSuspendRoutine_attends
  · exact Attends.handler handleResumeRoutine_attends
  · exact Attends.handler handleAbortRoutine_attends
  · exact Attends.handler handleReadResult_attends
  · exact Attends.handler handleEnterService_attends
  · exact Attends.handler handleServiceDrive_attends
  · exact Attends.handler handleLeaveService_attends
  · exact Attends.handler handleCommitCal_attends
  · exact Attends.handler handleRestoreCal_attends
  · exact fun _ _ s _ => .refl s

/-- What a request keeps beside the invariants: the other port, the pins and the FACTORY region. -/
structure OnPort (p : Port) (s t : State) : Prop extends Keeps s t where
  pins : t.pins = s.pins
  other : SameOtherPort p s t
  factory : t.store.factory = s.store.factory

theorem OnPort.trans {p : Port} {s t u : State} (h : OnPort p s t) (k : OnPort p t u) : OnPort p s u :=
  ⟨h.toKeeps.trans k.toKeeps, k.pins.trans h.pins, k.other.trans h.other, k.factory.trans h.factory⟩

theorem Contained.onPort {s t : State} (h : Contained s t) (p : Port) : OnPort p s t where
  toKeeps := h.toKeeps
  pins := h.pins
  other := by
    cases p
    · exact h.portB
    · exact h.portA
  factory := h.factory

theorem State.setPort_onPort (p : Port) (r : PortRec) (s : State) : OnPort p s (s.setPort p r) := by
  cases p <;> exact ⟨.of, rfl, rfl, rfl⟩

theorem State.rxHunt_onPort (p : Port) (s : State) : OnPort p s (s.rxHunt p) := State.setPort_onPort p _ s

theorem State.refresh_attends (p : Port) (s : State) : Attends s (s.refresh p) := by
  unfold State.refresh
  split
  next => exact .refl s
  next h e =>
    refine .ite _ ?_ (.refl s)
    have some : (Option.some { h with lastContact := s.now }).isSome = s.auth.hold.isSome := by rw [e]; rfl
    exact .of (.of (.of (.of (hold := some) (path := fun shape => shape.of_eq rfl some))))

theorem State.deliver_onPort (kind : Byte) {wakes : Bool} (f : Frame) {h : Handler} (contained : HandlerContained wakes h)
    (s : State) : OnPort f.port s (s.deliver kind wakes f h) := by
  have hunted := State.rxHunt_onPort f.port s
  unfold State.deliver
  dsimp only
  set t := s.rxHunt f.port
  split
  next => exact hunted.trans ((State.logEvent_sound _ t).attends.contained.onPort f.port)
  next =>
    have refreshed := ((State.refresh_attends f.port t).contained).onPort f.port
    set u := t.refresh f.port
    set w := if wakes = true then u.wake .link else u with hw
    have woken : Contained u w := hw ▸ .ite _ (State.wake_contained .link u) (.refl u)
    have run (wakes : wakes = true) : w.latch.run = .run := by
      rw [hw, if_pos wakes]
      exact State.wake_latch_run .link u
    exact (((hunted.trans refreshed).trans (woken.onPort f.port)).trans
      ((contained f.port f.payload w run).onPort f.port)).trans (State.setPort_onPort f.port _ _)

theorem State.request_onPort (dt : Nat) (kind : Byte) {wakes : Bool} (f : Frame) {h : Handler}
    (contained : HandlerContained wakes h) (s : State) : OnPort f.port (s.advance dt) (s.request dt kind wakes f h) := by
  unfold State.request
  split
  · exact State.rxHunt_onPort f.port _
  · exact State.deliver_onPort kind f contained _

end Sys2Proof.Machine
end

section
/-! PROOFS. Every command is carried out, and keeps the invariants of every step. -/

namespace Sys2Proof.Machine

/-! ## Requests -/

/-- The kind of a request command, whether it wakes a parked part, and what its owner does with the payload. -/
def requestService : Instr → Byte × Bool × Handler
  | .loadPathFirst .. => (0x22, true, loadPath loadFirst)
  | .loadPathMiddle .. => (0x22, true, loadPath loadMiddle)
  | .loadPathLast .. => (0x22, true, loadPath loadLast)
  | .loadPathOnly .. => (0x22, true, loadPath loadOnly)
  | .flushPath .. => (0x23, true, handleFlushPath)
  | .takeHold .. => (0x20, true, handleTakeHold)
  | .dropHold .. => (0x21, true, handleDropHold)
  | .enable .. => (0x10, true, handleEnable)
  | .startRoutine .. => (0x30, true, handleStartRoutine)
  | .suspendRoutine .. => (0x31, true, handleSuspendRoutine)
  | .resumeRoutine .. => (0x32, true, handleResumeRoutine)
  | .abortRoutine .. => (0x33, true, handleAbortRoutine)
  | .readResult .. => (0x34, false, handleReadResult)
  | .enterService .. => (0x38, true, handleEnterService)
  | .serviceDrive .. => (0x39, true, handleServiceDrive)
  | .leaveService .. => (0x3A, true, handleLeaveService)
  | .lockDemandNone .. => (0x14, true, demandRow demandNone)
  | .lockDemandLock .. => (0x14, true, demandRow demandLock)
  | .lockDemandPermit .. => (0x14, true, demandRow demandPermit)
  | .park .. => (0x12, true, handlePark)
  | .clearTrip .. => (0x13, true, handleClearTrip)
  | .readEvents .. => (0x02, false, handleReadEvents)
  | .status .. => (0x01, false, handleStatus)
  | .getParam .. => (0x03, false, handleGetParam)
  | .setParam .. => (0x04, true, handleSetParam)
  | .softRestart .. => (0x11, true, handleSoftRestart)
  | .commitCal .. => (0x40, true, handleCommitCal)
  | .restoreCal .. => (0x41, true, handleRestoreCal)
  | .unknown _ kind _ => (kind, handlerOf kind.toNat)
  | _ => (0, handlerOf 0)

/-- A row that fixes the payload's first byte has room for one byte less behind it (R154). -/
theorem tailRequest_cases (dt : Nat) (kind : Byte) (f : Frame) (h : Handler) (s : State)
    {o : Host.Outcome State Fault Refusal}
    (row : o = if 37 < f.payload.length then .next ((s.advance dt).rxHunt f.port) else .next (s.request dt kind true f h)) :
    o = .next (s.request dt kind true f h) ∨ (f.tailFits = false ∧ o = .next ((s.advance dt).rxHunt f.port)) := by
  split at row
  next long => exact .inr ⟨by simpa [Frame.tailFits] using long, row⟩
  next => exact .inl row

/-- The command of a request row is a request, or, with a payload that no frame carries behind the row's own first byte, the end
of the frame (R154). -/
theorem exec_request {c : Instr} {f : Frame} (h : c.frame? = some f) (s : State) :
    exec c s = .next (s.request c.delay (requestService c).1 (requestService c).2.1 f (requestService c).2.2) ∨
      (c.wf = false ∧ exec c s = .next ((s.advance c.delay).rxHunt f.port)) := by
  cases c
  case loadPathFirst dt g =>
    cases h
    exact tailRequest_cases dt 0x22 f (loadPath loadFirst) s rfl
  case loadPathMiddle dt g =>
    cases h
    exact tailRequest_cases dt 0x22 f (loadPath loadMiddle) s rfl
  case loadPathLast dt g =>
    cases h
    exact tailRequest_cases dt 0x22 f (loadPath loadLast) s rfl
  case loadPathOnly dt g =>
    cases h
    exact tailRequest_cases dt 0x22 f (loadPath loadOnly) s rfl
  case lockDemandNone dt g =>
    cases h
    exact tailRequest_cases dt 0x14 f (demandRow demandNone) s rfl
  case lockDemandLock dt g =>
    cases h
    exact tailRequest_cases dt 0x14 f (demandRow demandLock) s rfl
  case lockDemandPermit dt g =>
    cases h
    exact tailRequest_cases dt 0x14 f (demandRow demandPermit) s rfl
  case flushPath | takeHold | dropHold | enable | startRoutine | suspendRoutine | resumeRoutine | abortRoutine | readResult
      | enterService | serviceDrive | leaveService | park | clearTrip | readEvents | status | getParam | setParam
      | softRestart | commitCal | restoreCal | unknown =>
    cases h
    exact .inl rfl
  all_goals cases h

theorem requestService_contained (c : Instr) : HandlerContained (requestService c).2.1 (requestService c).2.2 := by
  cases c
  case loadPathFirst => exact Attends.handler (loadPath_attends loadFirst_position)
  case loadPathMiddle => exact Attends.handler (loadPath_attends loadMiddle_position)
  case loadPathLast => exact Attends.handler (loadPath_attends loadLast_position)
  case loadPathOnly => exact Attends.handler (loadPath_attends loadOnly_position)
  case lockDemandNone => exact Attends.handler (demandRow_attends demandNone_attends)
  case lockDemandLock => exact Attends.handler (demandRow_attends demandLock_attends)
  case lockDemandPermit => exact Attends.handler (demandRow_attends demandPermit_attends)
  case flushPath => exact handlerOf_contained 0x23
  case takeHold => exact handlerOf_contained 0x20
  case dropHold => exact handlerOf_contained 0x21
  case enable => exact handlerOf_contained 0x10
  case startRoutine => exact handlerOf_contained 0x30
  case suspendRoutine => exact handlerOf_contained 0x31
  case resumeRoutine => exact handlerOf_contained 0x32
  case abortRoutine => exact handlerOf_contained 0x33
  case readResult => exact handlerOf_contained 0x34
  case enterService => exact handlerOf_contained 0x38
  case serviceDrive => exact handlerOf_contained 0x39
  case leaveService => exact handlerOf_contained 0x3A
  case park => exact handlerOf_contained 0x12
  case clearTrip => exact handlerOf_contained 0x13
  case readEvents => exact handlerOf_contained 0x02
  case status => exact handlerOf_contained 0x01
  case getParam => exact handlerOf_contained 0x03
  case setParam => exact handlerOf_contained 0x04
  case softRestart => exact handlerOf_contained 0x11
  case commitCal => exact handlerOf_contained 0x40
  case restoreCal => exact handlerOf_contained 0x41
  case unknown dt kind f => exact handlerOf_contained kind.toNat
  all_goals exact handlerOf_contained 0

/-- Every request is carried out, and touches no port but its own. -/
theorem exec_onPort {c : Instr} {f : Frame} (h : c.frame? = some f) (s : State) :
    ∃ t, exec c s = .next t ∧ OnPort f.port (s.advance c.delay) t := by
  rcases exec_request h s with e | ⟨-, e⟩
  · exact ⟨_, e, State.request_onPort c.delay _ f (requestService_contained c) s⟩
  · exact ⟨_, e, State.rxHunt_onPort f.port _⟩

/-! ## The samples and the timers -/

theorem State.setPins_keeps (x : Pins) (s : State) : Keeps s (s.setPins x) := .of

theorem State.handlebarSampled_keeps (reading : Int) (s : State) : Keeps s (s.handlebarSampled reading) := by
  have same (f : Hold → Hold) : (s.auth.hold.map f).isSome = s.auth.hold.isSome := Option.isSome_map
  refine .ite _ (.of (hold := same _) (path := fun h => h.of_eq rfl (same _)))
    (.of (hold := same _) (path := fun h => h.of_eq rfl (same _)))

/-- Any change of an axis controller but of its mode. -/
theorem State.setAxis_keeps (x : Axis) (a : AxisCtl) (s : State) (mode : a.mode = (s.axis x).mode) :
    Keeps s (s.setAxis x a) := by
  cases x
  · exact .of (tilt := mode)
  · exact .of (steer := mode)

theorem State.holdAt_sound (x : Axis) (target : Int) (s : State) : Sound s (s.holdAt x target) := State.setDrive_sound x _ s

theorem AxisCtl.watchTrack_mode (a : AxisCtl) (limit e : Int) (now : Nat) :
    (a.watchTrack limit e now).mode = a.mode ∧ (a.watchTrack limit e now).meas = a.meas ∧
      (a.watchTrack limit e now).valid = a.valid := by
  unfold AxisCtl.watchTrack
  split <;> exact ⟨rfl, rfl, rfl⟩

theorem State.trackSample_sound (x : Axis) (s : State) : Sound s (s.trackSample x) := by
  have w (a : AxisCtl) := a.watchTrack_mode (s.params.trackErr x) (s.setpoint x - (s.axis x).meas) s.now
  exact State.setAxis_sound x _ s (w _).1 (w _).2.1 (w _).2.2

section
variable {r : Routine} {s : State}

/-- The routine of the slot goes on with other findings. -/
theorem State.setRoutine_sound (q : Routine) (axis : q.axis = r.axis) (session : s.slot.session = some (r.axis, .routine)) :
    Sound s (s.setSlot (.routine q)) :=
  State.setSlot_sound _ s (by rw [session, ← axis]; rfl)

theorem State.rampSample_sound (sign : Int) (session : s.slot.session = some (r.axis, .routine)) :
    Sound s (s.rampSample r sign) := by
  unfold State.rampSample
  dsimp only
  split
  next => exact State.setDrive_sound _ _ s
  next => exact .ite _ ((State.setRoutine_sound _ (by exact rfl) session).trans (State.setDrive_sound _ _ _))
            (State.holdAt_sound _ _ s)

theorem Routine.withPush_axis (r : Routine) : r.withPush.axis = r.axis := by
  unfold Routine.withPush
  split
  · rfl
  · split <;> rfl

theorem State.pushSample_sound (sign : Int) (session : s.slot.session = some (r.axis, .routine)) :
    Sound s (s.pushSample r sign) := by
  unfold State.pushSample
  dsimp only
  set q := { r with maxDisp := max r.maxDisp (mag ((s.axis r.axis).meas - r.reference)) }
  have kept : Sound s (s.setSlot (.routine q)) := State.setRoutine_sound q rfl session
  exact .ite _ (kept.trans (State.finishRoutine_sound .failSlip true (by rw [Routine.withPush_axis]; rfl)))
    (kept.trans (State.setDrive_sound _ _ _))

theorem Routine.sweepSample_axis (r : Routine) (m : Int) (now : Nat) : (r.sweepSample m now).axis = r.axis := by
  unfold Routine.sweepSample
  split <;> rfl

theorem State.phaseSample_sound (session : s.slot.session = some (r.axis, .routine)) : Sound s (s.phaseSample r) := by
  have sweep (d : Int) : Sound s ((s.setSlot (.routine (r.sweepSample (s.axis r.axis).meas s.now))).setDrive r.axis d) :=
    (State.setRoutine_sound _ (r.sweepSample_axis _ _) session).trans (State.setDrive_sound _ _ _)
  unfold State.phaseSample
  dsimp only
  split
  next => exact State.holdAt_sound _ _ s
  next => exact State.holdAt_sound _ _ s
  next => exact sweep _
  next => exact sweep _
  next =>
    have held := State.holdAt_sound r.axis r.target s
    exact .ite _ (held.trans (State.completePhase_sound (by rw [State.holdAt, State.setDrive, State.setAxis_slot, session]))) held
  next => exact State.rampSample_sound 1 session
  next => exact State.rampSample_sound (-1) session
  next => exact State.pushSample_sound 1 session
  next => exact State.pushSample_sound (-1) session

theorem State.routineSample_sound (session : s.slot.session = some (r.axis, .routine)) : Sound s (s.routineSample r) := by
  unfold State.routineSample
  split
  · exact State.holdAt_sound _ _ s
  · exact State.phaseSample_sound session

theorem State.stepRamp_sound (session : s.slot.session = some (r.axis, .routine)) : Sound s (s.stepRamp r) := by
  have broke : r.brokeAway.axis = r.axis := by
    unfold Routine.brokeAway
    split <;> rfl
  unfold State.stepRamp
  split
  · exact (State.setDrive_sound _ _ s).trans (State.completePhase_sound (by
      rw [State.setDrive, State.setAxis_slot, session, broke]))
  split
  · exact State.finishRoutine_sound _ _ session
  · exact (State.setRoutine_sound _ (by exact rfl) session).trans (State.setDrive_sound _ _ _)

end

theorem State.modeSample_sound (x : Axis) (s : State) : Sound s (s.modeSample x) := by
  have undriven : Sound s (s.setAxis x (s.axis x).undriven) := State.setAxis_sound x _ s rfl rfl rfl
  unfold State.modeSample
  split
  next => exact undriven
  next => exact .ite _ (State.trackSample_sound x s) undriven
  next =>
    split
    next r e => exact .ite _ (State.routineSample_sound (e ▸ rfl)) (.refl s)
    all_goals exact .refl s
  next =>
    split
    next y d e => exact .ite _ (State.setDrive_sound x _ s) (.refl s)
    all_goals exact .refl s

theorem State.validSample_keeps (x : Axis) (reading : Int) (s : State) : Keeps s (s.validSample x reading) :=
  (State.setAxis_keeps x _ s (by exact rfl)).trans (State.modeSample_sound x _).keeps

theorem State.invalidSample_keeps (x : Axis) (s : State) : Keeps s (s.invalidSample x) :=
  have faulted : Keeps s (s.setAxis x { (s.axis x).undriven with valid := false }) := State.setAxis_keeps x _ s rfl
  .ite _ (faulted.trans (State.fireTrip_sound _ _ _).keeps) faulted

theorem State.setSwitch_keeps (i : Input) (r : SwitchRec) (s : State) : Keeps s (s.setInputs (s.inputs.setSwitch i r)) := by
  cases i <;> exact .of

theorem State.reportInput_keeps (i : Input) (active : Bool) (s : State) : Keeps s (s.reportInput i active) := by
  have woken (src : WakeSource) (b : Bool) (t : State) : Keeps t (if b = true then t.wake src else t) :=
    .ite _ (State.wake_contained src t).toKeeps (.refl t)
  cases i with
  | key =>
    have run : (s.latch.keyChanged active s.now).run = s.latch.run := by
      unfold LatchUnit.keyChanged
      split <;> rfl
    exact (State.setLatchUnit_attends _ s run).keeps.trans (woken .key _ _)
  | lift =>
    exact (Keeps.ite _ (.refl s) ((State.endPermit_sound .a s).trans (State.endPermit_sound .b _)).keeps).trans
      (woken .input _ _)
  | stand => exact woken .input _ s
  | seat => exact woken .input _ s
  | brake => exact woken .input _ s
  | parkbtn => exact woken .input _ s

theorem State.inputChanged_keeps (i : Input) (level : Bool) (s : State) : Keeps s (s.inputChanged i level) :=
  .settle ((((State.setSwitch_keeps i _ s).trans (.ite _ (State.logEvent_sound _ _).keeps (.refl _))).trans
    (State.handOn_sound _).keeps).trans (State.reportInput_keeps i level _))

theorem State.switchSample_keeps (i : Input) (level : Bool) (s : State) : Keeps s (s.switchSample i level) :=
  .ite _ (State.setSwitch_keeps i _ s) (.ite _ (State.inputChanged_keeps i level s) (State.setSwitch_keeps i _ s))

/-! ## The wheels -/

theorem State.acceptEdge_keeps (w : Wheel) (s : State) : Keeps s (s.acceptEdge w) := by
  have woken : Keeps s s.wheelWake := .ite _ (State.wake_contained .wheel s).toKeeps (.refl s)
  unfold State.acceptEdge
  dsimp only
  set t := s.wheelWake
  have travelled : Attends t (if t.speed.source.isWheel w then t.addTravel w else t) :=
    .ite _ (State.addTravel_attends w t) (.refl t)
  set u := if t.speed.source.isWheel w then t.addTravel w else t
  have put := State.putWheel_attends w ((u.speed.wheel w).edge_speed_le (u.params.circ w) u.params.ppr u.now) u
  exact ((woken.trans travelled.keeps).trans (put.trans (State.suspendIfMoving_sound _).attends).keeps).settle

/-! ## The latch -/

theorem State.edgeInSet_latchMove (x : AttemptSet) (s : State) : LatchMove s (s.edgeInSet x) := by
  have late := (State.succeedSet_latchMove x.direction s).trans (State.logEvent_latchMove (.lockLate x.direction.reached) _)
  unfold State.edgeInSet
  split
  · exact .refl s
  · exact State.succeedSet_latchMove _ s
  · exact late
  · exact late

theorem State.slip_sound (s : State) : Sound s s.slip := by
  have rested : LatchMove s (s.setLatchUnit { s.latch with preloadEnd := none }) := .of
  have slipped : LatchMove s (((s.setLatchUnit { s.latch with preloadEnd := none }).setLatch .unlatchedFault).logEvent
      (.lockFault .slip)) :=
    (rested.trans (State.setLatch_latchMove _ _)).trans (State.logEvent_latchMove _ _)
  unfold State.slip
  dsimp only
  split
  next r e =>
    exact .ite _ (slipped.sound.trans (State.finishRoutine_sound _ _ (by rw [e, Routine.withPush_axis]; rfl))) slipped.sound
  all_goals exact slipped.sound

theorem State.confirmOpened_sound (s : State) : Sound s s.confirmOpened := by
  have slips : Sound s (if s.latch.pulsing .release then s else s.slip) := .ite _ (.refl s) s.slip_sound
  unfold State.confirmOpened
  split
  · exact slips
  · exact slips
  · exact .ite _ ((State.setLatch_latchMove _ s).trans (State.logEvent_latchMove _ _)).sound slips
  all_goals exact .refl s

theorem State.confirmClosed_latchMove (s : State) : LatchMove s s.confirmClosed := by
  have locked (e : Event) := (State.setLatch_latchMove .engaged s).trans (State.logEvent_latchMove e _)
  unfold State.confirmClosed
  split
  · exact .ite _ (.refl s) ((locked _).trans .of)
  · exact .ite _ (locked _) (State.setLatch_latchMove _ s)
  all_goals exact .refl s

theorem State.confirmChanged_attends (closed : Bool) (s : State) : Attends s (s.confirmChanged closed) := by
  have level := State.setLatchUnit_attends { s.latch with closed := closed, differSince := none } s
  unfold State.confirmChanged
  dsimp only
  split
  next => exact .ite _ (level.trans (State.edgeInSet_latchMove _ _).sound.attends) level
  next => exact .ite _ (level.trans (State.confirmClosed_latchMove _).sound.attends)
            (level.trans (State.confirmOpened_sound _).attends)

theorem State.confirmSample_keeps (closed : Bool) (s : State) : Keeps s (s.confirmSample closed) := by
  unfold State.confirmSample
  split
  · exact (State.setLatchUnit_attends _ s).keeps
  split
  · exact (State.setLatchUnit_attends _ s).keeps
  · exact .ite _ (State.confirmChanged_attends closed s).keeps.settle (.refl s)

theorem State.firstLatch_attends (closed : Bool) (s : State) : Attends s (s.firstLatch closed) :=
  .settle (((State.setLatchUnit_attends _ s).trans (State.takeLatch_latchMove _ _).sound.attends).trans
    (State.askWaiting_latchMove _).sound.attends)

theorem State.firstSample_keeps (x : FirstDebounce) (closed : Bool) (s : State) : Keeps s (s.firstSample x closed) :=
  .ite _ (State.setLatchUnit_attends _ s).keeps (.ite _ (State.firstLatch_attends closed s).keeps (.refl s))

theorem State.pulseOver_latchMove (s : State) : LatchMove s s.pulseOver := by
  unfold State.pulseOver
  dsimp only
  have off : LatchMove s (s.setLatchUnit { s.latch with pulse := none }) := .of
  split
  next => exact off
  next =>
    split
    · exact off.trans (State.openWindow_latchMove _ _)
    · exact off.trans (State.setSet_latchMove _ _)
    · exact off
    · exact off

theorem State.windowFailed_sound (x : AttemptSet) (s : State) : Sound s (s.windowFailed x) :=
  .ite _ (State.failSet_sound x s) (.ite _ (State.setSet_latchMove _ s).sound (State.setSet_latchMove _ s).sound)

theorem State.pauseOver_latchMove (x : AttemptSet) (s : State) : LatchMove s (s.pauseOver x) :=
  .ite _ ((State.setSet_latchMove none s).trans (State.setLatch_latchMove .engaged _)) (State.startAttempt_latchMove _ s)

end Sys2Proof.Machine
end

section
/-! PROOFS. The invariants of every step, and what every command is. -/

namespace Sys2Proof.Machine

/-- The slots that have an end of their own to come to. -/
theorem Slot.session_of_filter {y : Slot} {f : Routine → Bool} {r : Routine} (h : y.running.filter f = some r) :
    y.session = some (r.axis, .routine) := Slot.session_of_running (Option.filter_eq_some_iff.mp h).1

theorem State.serviceLapsed_session {s : State} {x : Axis} (h : s.serviceLapsed = some x) :
    s.slot.session = some (x, .service) := by
  unfold State.serviceLapsed at h
  split at h
  next e =>
    split at h
    · rw [e, Slot.session, Option.some.inj h]
    · cases h
  all_goals cases h

theorem State.programmed_session {s : State} (h : s.programmed = true) : s.slot.session = none := by
  unfold State.programmed at h
  split at h
  next e => rw [e]; rfl
  all_goals cases h

theorem Routine.stopFound_axis (r : Routine) (stop : Int) : (r.stopFound stop).axis = r.axis := by
  unfold Routine.stopFound
  split <;> rfl

theorem State.endProgramming_keeps (m : Bool) {s : State} (session : s.slot.session = none) : Keeps s (s.endProgramming m) := by
  have compared : Keeps s (s.setStore (s.store.compared s.params m)) := .of
  exact (compared.trans (State.logEvent_sound (.storeDone m) _).keeps).trans
    (State.setSlot_sound .free _ (by exact session.symm)).keeps

/-- A command is carried out, and keeps the invariants from the moment at which it comes. -/
def Carried (s : State) (o : Host.Outcome State Fault Refusal) : Prop := ∃ t, o = .next t ∧ Keeps s t

theorem Keeps.carried {s t : State} (h : Keeps s t) : Carried s (.next t) := ⟨t, rfl, h⟩

theorem Carried.ite {s : State} {a b : Host.Outcome State Fault Refusal} (q : Prop) [Decidable q] (h : q → Carried s a)
    (k : Carried s b) : Carried s (if q then a else b) := by
  split
  next hq => exact h hq
  next => exact k

/-- Nothing happens but that the time has come. -/
theorem Carried.idle (s : State) : Carried s (.next s) := (Keeps.refl s).carried

theorem execFirstConfirmDebounce_carried (dt : Nat) (closed : Bool) (s : State) :
    Carried (s.advance dt) (execFirstConfirmDebounce dt closed s) := by
  have pin : Keeps (s.advance dt) ((s.advance dt).setConfirmPin closed) := State.setPins_keeps _ _
  unfold execFirstConfirmDebounce
  dsimp only
  split
  · exact pin.carried
  · exact (pin.trans (State.firstSample_keeps _ closed _)).carried

theorem execConfirmEdge_carried (dt : Nat) (closed : Bool) (s : State) :
    Carried (s.advance dt) (execConfirmEdge dt closed s) := by
  have pin : Keeps (s.advance dt) ((s.advance dt).setConfirmPin closed) := State.setPins_keeps _ _
  exact .ite _ (fun _ => pin.carried) (pin.trans (State.confirmSample_keeps closed _)).carried

theorem execWheelEdge_carried (dt : Nat) (w : Wheel) (s : State) : Carried (s.advance dt) (execWheelEdge dt w s) :=
  .ite _ (fun _ => .idle _) (State.acceptEdge_keeps w _).carried

theorem execDecayStep_carried (dt : Nat) (w : Wheel) (s : State) : Carried (s.advance dt) (execDecayStep dt w s) :=
  .ite _ (fun _ => ((State.putWheel_attends w (wheelSpeed_le ..) _).trans
    (State.suspendIfMoving_sound _).attends).keeps.settle.carried) (.idle _)

theorem execStallExpiry_carried (dt : Nat) (w : Wheel) (s : State) : Carried (s.advance dt) (execStallExpiry dt w s) :=
  .ite _ (fun _ => (State.putWheel_attends w (Nat.zero_le _) _).keeps.settle.carried) (.idle _)

theorem execSuspectTimerExpiry_carried (dt : Nat) (s : State) : Carried (s.advance dt) (execSuspectTimerExpiry dt s) :=
  .ite _ (fun _ => ((State.setSpeed_attends _ _).trans (State.fireTrip_sound .speed .degrade _).attends).keeps.settle.carried)
    (.idle _)

theorem execSolvePeriod_carried (dt : Nat) (s : State) : Carried (s.advance dt) (execSolvePeriod dt s) :=
  .ite _ (fun _ => (Keeps.of (s := s.advance dt)).settle.carried) (.idle _)

theorem execOverspeedExpiry_carried (dt : Nat) (s : State) : Carried (s.advance dt) (execOverspeedExpiry dt s) :=
  .ite _ (fun _ => (State.endHold_sound .overspeed _).keeps.settle.carried) (.idle _)

theorem execSilenceExpiry_carried (dt : Nat) (s : State) : Carried (s.advance dt) (execSilenceExpiry dt s) :=
  .ite _ (fun _ => (State.endHold_sound .silent _).keeps.settle.carried) (.idle _)

theorem execTakeoverExpiry_carried (dt : Nat) (s : State) : Carried (s.advance dt) (execTakeoverExpiry dt s) :=
  .ite _ (fun _ => (State.endHold_sound .takeover _).keeps.settle.carried) (.idle _)

theorem execHandlebarDropoutExpiry_carried (dt : Nat) (s : State) :
    Carried (s.advance dt) (execHandlebarDropoutExpiry dt s) :=
  .ite _ (fun _ => ((Keeps.of (s := s.advance dt)).trans
    (State.fireTrip_sound .handlebar .degrade _).keeps).settle.carried) (.idle _)

theorem execAxisSample_carried (dt : Nat) (x : Axis) (reading : Int) (s : State) :
    Carried (s.advance dt) (execAxisSample dt x reading s) := by
  have pin := State.setPins_keeps ((s.advance dt).pins.setAngle x reading) (s.advance dt)
  exact .ite _ (fun _ => (pin.trans (State.validSample_keeps x reading _)).settle.carried)
    (pin.trans (State.invalidSample_keeps x _)).settle.carried

theorem execTrackingExpiry_carried (dt : Nat) (x : Axis) (s : State) :
    Carried (s.advance dt) (execTrackingExpiry dt x s) :=
  .ite _ (fun _ => ((State.setAxis_keeps x _ _ (by exact rfl)).trans (State.fireTrip_sound _ _ _).keeps).settle.carried)
    (.idle _)

theorem execSweepStopFound_carried (dt : Nat) (s : State) : Carried (s.advance dt) (execSweepStopFound dt s) := by
  unfold execSweepStopFound
  dsimp only
  split
  next => exact .idle _
  next r e =>
    refine ((State.setDrive_sound _ _ _).trans (State.completePhase_sound ?_)).keeps.settle.carried
    rw [State.setDrive, State.setAxis_slot, Routine.stopFound_axis]
    exact Slot.session_of_filter e

theorem execPhaseTimeout_carried (dt : Nat) (s : State) : Carried (s.advance dt) (execPhaseTimeout dt s) := by
  unfold execPhaseTimeout
  dsimp only
  split
  next => exact .idle _
  next r e => exact (State.finishRoutine_sound _ _ (Slot.session_of_filter e)).keeps.settle.carried

theorem execRampStep_carried (dt : Nat) (s : State) : Carried (s.advance dt) (execRampStep dt s) := by
  unfold execRampStep
  dsimp only
  split
  next => exact .idle _
  next r e => exact (State.stepRamp_sound (Slot.session_of_filter e)).keeps.settle.carried

theorem execPushPhaseEnd_carried (dt : Nat) (s : State) : Carried (s.advance dt) (execPushPhaseEnd dt s) := by
  unfold execPushPhaseEnd
  dsimp only
  split
  next => exact .idle _
  next r e =>
    refine ((State.setDrive_sound _ _ _).trans (State.completePhase_sound ?_)).keeps.settle.carried
    rw [State.setDrive, State.setAxis_slot, Routine.withPush_axis]
    exact Slot.session_of_filter e

theorem execServiceDriveExpiry_carried (dt : Nat) (s : State) : Carried (s.advance dt) (execServiceDriveExpiry dt s) := by
  unfold execServiceDriveExpiry
  dsimp only
  split
  next => exact .idle _
  next x e =>
    have session := State.serviceLapsed_session e
    exact ((State.setSlot_sound (.service x none) _ (by exact session.symm)).trans (State.setDrive_sound _ _ _)).keeps.carried

theorem execPreloadExpiry_carried (dt : Nat) (s : State) : Carried (s.advance dt) (execPreloadExpiry dt s) :=
  .ite _ (fun _ => (State.endPreload_latchMove _).sound.keeps.settle.carried) (.idle _)

theorem execPullinEnd_carried (dt : Nat) (s : State) : Carried (s.advance dt) (execPullinEnd dt s) := by
  unfold execPullinEnd
  dsimp only
  split
  next => exact .idle _
  next => exact .ite _ (fun _ => (State.pulseOver_latchMove _).sound.keeps.settle.carried) (State.setLatchUnit_attends _ _).keeps.carried

theorem execPulseEnd_carried (dt : Nat) (s : State) : Carried (s.advance dt) (execPulseEnd dt s) := by
  unfold execPulseEnd
  dsimp only
  split
  next => exact .idle _
  next => exact (State.pulseOver_latchMove _).sound.keeps.settle.carried

theorem execConfirmWindowClose_carried (dt : Nat) (s : State) : Carried (s.advance dt) (execConfirmWindowClose dt s) := by
  unfold execConfirmWindowClose
  dsimp only
  split
  next => exact .idle _
  next => exact (State.windowFailed_sound _ _).keeps.settle.carried

theorem execAttemptPauseEnd_carried (dt : Nat) (s : State) : Carried (s.advance dt) (execAttemptPauseEnd dt s) := by
  unfold execAttemptPauseEnd
  dsimp only
  split
  next => exact .idle _
  next => exact (State.pauseOver_latchMove _ _).sound.keeps.settle.carried

theorem execKeyOffExpiry_carried (dt : Nat) (s : State) : Carried (s.advance dt) (execKeyOffExpiry dt s) :=
  .ite _ (fun _ => (State.setLatchUnit_attends _ _).keeps.carried) (.idle _)

theorem execAutoPark_carried (dt : Nat) (s : State) : Carried (s.advance dt) (execAutoPark dt s) :=
  .ite _ (fun _ => ((State.endHold_sound .park _).keeps.trans
    (State.parkNow_serves (State.endHold_hold .park _)).toKeeps).carried) (.idle _)

theorem execInputChange_carried (dt : Nat) (i : Input) (level : Bool) (s : State) :
    Carried (s.advance dt) (execInputChange dt i level s) :=
  ((State.setPins_keeps _ _).trans (State.switchSample_keeps i level _)).carried

theorem execTripUnitExpiry_carried (dt : Nat) (u : TripUnit) (s : State) :
    Carried (s.advance dt) (execTripUnitExpiry dt u s) :=
  .ite _ (fun _ => (State.fireTripUnit_sound u _).keeps.settle.carried) (.idle _)

theorem execRearmGapEnd_carried (dt : Nat) (line : Port) (s : State) :
    Carried (s.advance dt) (execRearmGapEnd dt line s) :=
  .ite _ (fun _ => Keeps.carried (by cases line <;> exact .of)) (.idle _)

theorem execFrameAbandon_carried (dt : Nat) (p : Port) (cause : AbandonCause) (s : State) :
    Carried (s.advance dt) (execFrameAbandon dt p cause s) :=
  .ite _ (fun _ => (State.rxHunt_onPort p _).toKeeps.carried) (.idle _)

theorem execFrameGapTimeout_carried (dt : Nat) (p : Port) (s : State) :
    Carried (s.advance dt) (execFrameGapTimeout dt p s) :=
  .ite _ (fun _ => (State.rxHunt_onPort p _).toKeeps.carried) (.idle _)

theorem execPortOverrun_carried (dt : Nat) (p : Port) (s : State) : Carried (s.advance dt) (execPortOverrun dt p s) :=
  .ite _ (fun _ => ((State.rxHunt_onPort p _).toKeeps.trans (State.logEvent_sound _ _).keeps).carried) (.idle _)

theorem execReplySent_carried (dt : Nat) (p : Port) (s : State) : Carried (s.advance dt) (execReplySent dt p s) :=
  .ite _ (fun _ => (State.setPort_onPort p _ _).toKeeps.carried) (.idle _)

theorem execStoreDone_carried (dt : Nat) (m : Bool) (s : State) : Carried (s.advance dt) (execStoreDone dt m s) :=
  .ite _ (fun done => (State.endProgramming_keeps m (State.programmed_session done)).carried) (.idle _)

theorem State.complete_onPort (p : Port) (s : State) : OnPort p s (s.complete p) := by
  unfold State.complete
  split
  next kind ref payload _ =>
    exact State.deliver_onPort kind { port := p, ref := ref, payload := payload } (handlerOf_contained kind.toNat) s
  next => exact State.rxHunt_onPort p s

theorem State.receiveCharacter_onPort (p : Port) (c : Character) (s : State) : OnPort p s (s.receiveCharacter p c) := by
  unfold State.receiveCharacter
  split
  next =>
    unfold State.receive
    dsimp only
    split
    · exact State.setPort_onPort p _ s
    · split
      · exact State.setPort_onPort p _ s
      · exact State.rxHunt_onPort p s
    · exact State.setPort_onPort p _ s
    · split
      · exact State.complete_onPort p s
      · exact State.rxHunt_onPort p s
  next => exact State.rxHunt_onPort p s

theorem execReceivedCharacter_carried (dt : Nat) (p : Port) (c : Character) (s : State) :
    Carried (s.advance dt) (execReceivedCharacter dt p c s) :=
  .ite _ (fun _ => ((State.rxHunt_onPort p _).trans (State.receiveCharacter_onPort p c _)).toKeeps.carried)
    (State.receiveCharacter_onPort p c _).toKeeps.carried

/-- Every command but a FULL reset is carried out `dt` after the one before it. -/
theorem exec_carried (c : Instr) (s : State) (other : ∀ l b, c ≠ .fullReset l b) : Carried (s.advance c.delay) (exec c s) := by
  cases hf : c.frame? with
  | some f =>
    obtain ⟨t, e, k⟩ := exec_onPort hf s
    exact ⟨t, e, k.toKeeps⟩
  | none =>
    cases c
    case fullReset l b => exact absurd rfl (other l b)
    case firstConfirmDebounce => exact execFirstConfirmDebounce_carried ..
    case wheelEdge => exact execWheelEdge_carried ..
    case decayStep => exact execDecayStep_carried ..
    case stallExpiry => exact execStallExpiry_carried ..
    case suspectTimerExpiry => exact execSuspectTimerExpiry_carried ..
    case solvePeriod => exact execSolvePeriod_carried ..
    case overspeedExpiry => exact execOverspeedExpiry_carried ..
    case silenceExpiry => exact execSilenceExpiry_carried ..
    case handlebarSample dt reading => exact (State.handlebarSampled_keeps reading (s.advance dt)).carried
    case takeoverExpiry => exact execTakeoverExpiry_carried ..
    case handlebarDropoutExpiry => exact execHandlebarDropoutExpiry_carried ..
    case axisSample => exact execAxisSample_carried ..
    case trackingExpiry => exact execTrackingExpiry_carried ..
    case sweepStopFound => exact execSweepStopFound_carried ..
    case phaseTimeout => exact execPhaseTimeout_carried ..
    case rampStep => exact execRampStep_carried ..
    case pushPhaseEnd => exact execPushPhaseEnd_carried ..
    case serviceDriveExpiry => exact execServiceDriveExpiry_carried ..
    case confirmEdge => exact execConfirmEdge_carried ..
    case preloadExpiry => exact execPreloadExpiry_carried ..
    case pullinEnd => exact execPullinEnd_carried ..
    case pulseEnd => exact execPulseEnd_carried ..
    case confirmWindowClose => exact execConfirmWindowClose_carried ..
    case attemptPauseEnd => exact execAttemptPauseEnd_carried ..
    case keyOffExpiry => exact execKeyOffExpiry_carried ..
    case autoPark => exact execAutoPark_carried ..
    case inputChange => exact execInputChange_carried ..
    case tripUnitExpiry => exact execTripUnitExpiry_carried ..
    case rearmGapEnd => exact execRearmGapEnd_carried ..
    case frameAbandon => exact execFrameAbandon_carried ..
    case frameGapTimeout => exact execFrameGapTimeout_carried ..
    case portOverrun => exact execPortOverrun_carried ..
    case replySent => exact execReplySent_carried ..
    case storeDone => exact execStoreDone_carried ..
    case receivedCharacter => exact execReceivedCharacter_carried ..
    all_goals cases hf

/-! ## Start-up -/

/-- The state of every block after a FULL reset meets the invariants, whatever was before. -/
theorem State.cleared_preserves (l : Switches) (closed : Bool) (s u : State) : Preserves u (s.cleared l closed) where
  log _ := Nat.zero_le _
  trips _ := List.nodup_nil
  speeds _ := ⟨fun w => by cases w <;> exact Nat.zero_le _, Nat.zero_le _, Nat.zero_le _⟩
  median _ _ := rfl
  travel _ := by
    have valid := s.store.startSet.loaded_valid
    have low : 1 ≤ s.store.startSet.loaded.ppr := (valid.ranges .ppr).1
    refine ⟨valid, ?_⟩
    show ((0 : Nat) : Int) < 10 * s.store.startSet.loaded.ppr
    generalize s.store.startSet.loaded.ppr = n at low ⊢
    omega
  seats _ :=
    { modes := fun x m hm => by
        have off : ((s.cleared l closed).axis x).mode = .off := by cases x <;> rfl
        rw [off]
        rcases hm with rfl | rfl <;> simp [State.cleared, Slot.session]
      held := fun some => absurd rfl some
      parked := fun parked => ⟨rfl, rfl, rfl⟩ }
  path _ := PathUnit.empty_shape rfl rfl
  safe _ _ := rfl

/-- From the cleared state on, what follows are consequences (R169 steps 3 and 4). -/
theorem State.started_sound (l : Switches) (closed : Bool) (s : State) :
    Sound (s.cleared l closed) (s.started l closed) :=
  (State.logEvent_sound _ _).trans (State.evaluateInputs_sound true _ _)

theorem State.started_preserves (l : Switches) (closed : Bool) (s u : State) : Preserves u (s.started l closed) :=
  (s.cleared_preserves l closed u).trans (s.started_sound l closed).keeps.toPreserves

/-! ## The idle clock, and every step -/

theorem State.tick_preserves (s : State) : Preserves s s.tick := by
  have sampled : Keeps s s.startSample := .ite _ (State.handlebarSampled_keeps _ s) (.refl s)
  exact (sampled.toPreserves.trans (State.advance_preserves 1 _)).trans (State.setPending_preserves _ _)

theorem exec_preserves (c : Instr) (s : State) {t : State} (h : exec c s = .next t) : Preserves s t := by
  by_cases other : ∀ l b, c ≠ .fullReset l b
  · obtain ⟨u, e, k⟩ := exec_carried c s other
    obtain rfl : u = t := Host.Outcome.next.inj (e.symm.trans h)
    exact (State.advance_preserves c.delay s).trans k.toPreserves
  · obtain ⟨l, b, rfl⟩ : ∃ l b, c = .fullReset l b := by simpa only [not_forall, not_not, ne_eq] using other
    obtain rfl : s.started l b = t := Host.Outcome.next.inj h
    exact State.started_preserves l b s s

theorem step_preserves {s t : State} (h : step s = .next t) : Preserves s t := by
  unfold step at h
  split at h
  next =>
    obtain rfl := Host.Outcome.next.inj h
    exact State.tick_preserves s
  next c rest _ => exact (State.setPending_preserves rest s).trans (exec_preserves c _ h)

/-- Settles O6: the log and the trip set are among what every step preserves. -/
theorem stepKeepsTheLogAndTheTripSet : Obligations.StepKeepsTheLogAndTheTripSet :=
  fun _ _ h => ⟨(step_preserves h).log, (step_preserves h).trips⟩

/-- Settles O7: every wheel record that is put has a bounded speed, and a recomputation takes the median of three. -/
theorem stepKeepsSpeedsBounded : Obligations.StepKeepsSpeedsBounded :=
  fun _ _ h => ⟨(step_preserves h).speeds, (step_preserves h).median⟩

/-- Settles O8. -/
theorem stepKeepsThePathShape : Obligations.StepKeepsThePathShape := fun _ _ shape h => (step_preserves h).path shape

/-- Settles O9: the session shape is that of the seats, and of the SAFE grade. -/
theorem stepKeepsTheSessionShape : Obligations.StepKeepsTheSessionShape := by
  intro s t shape h
  obtain ⟨seats, safe⟩ := s.sessionShape_iff.mp shape
  exact t.sessionShape_iff.mpr ⟨(step_preserves h).seats seats, (step_preserves h).safe safe⟩

/-- Settles O10: a write is settled by R164 in a valid set, a load makes a valid set of any, and each enters with what it does to
the accumulator. -/
theorem stepKeepsTheWorkingSetCoupled : Obligations.StepKeepsTheWorkingSetCoupled :=
  fun _ _ travel h => (step_preserves h).travel travel

/-! ## What every command is -/

/-- Settles O1. -/
theorem stepRunsTheFrontCommand : Obligations.StepRunsTheFrontCommand := fun _ _ _ => rfl

/-- Settles O2: all but the FULL reset by what they keep; the reset starts the time again. -/
theorem everyCommandCompletes : Obligations.EveryCommandCompletes := by
  intro c s
  by_cases other : ∀ l b, c ≠ .fullReset l b
  · obtain ⟨t, e, k⟩ := exec_carried c s other
    exact ⟨t, e, k.pending, .inl k.now⟩
  · obtain ⟨l, b, rfl⟩ : ∃ l b, c = .fullReset l b := by simpa only [not_forall, not_not, ne_eq] using other
    have k := (s.started_sound l b).keeps
    exact ⟨_, rfl, k.pending, .inr ⟨l, b, rfl, k.now⟩⟩

/-- Settles O3. -/
theorem requestsTouchOnlyTheirOwnPort : Obligations.RequestsTouchOnlyTheirOwnPort := by
  intro c f s t frame h
  obtain ⟨u, e, k⟩ := exec_onPort frame s
  obtain rfl : u = t := Host.Outcome.next.inj (e.symm.trans h)
  exact ⟨k.other.trans (by cases f.port <;> rfl), k.pins, k.factory⟩

/-- Settles O11: each is read off the reset state; the working set is the built-in set as loaded. -/
theorem resetMeetsTheInvariants : Obligations.ResetMeetsTheInvariants := by
  have valid : State.reset.params.Valid :=
    { ranges := fun x => by cases x <;> decide
      speeds := by decide
      ceilings := by decide
      table := by decide }
  refine ⟨show 1 ≤ 16 by decide, ⟨fun w => by cases w <;> decide, by decide, by decide⟩, PathUnit.empty_shape rfl rfl, ?_,
    ⟨valid, by decide⟩, List.nodup_nil, fun _ => rfl⟩
  refine State.reset.sessionShape_iff.mpr ⟨⟨fun x m hm => ?_, fun some => absurd rfl some, fun _ => ⟨rfl, rfl, rfl⟩⟩, fun _ => rfl⟩
  have off : (State.reset.axis x).mode = .off := by cases x <;> rfl
  rw [off]
  rcases hm with rfl | rfl <;> simp [State.reset, Slot.session]

end Sys2Proof.Machine
end

section
/-! PROOFS. Requests at an occupied place, and requests that wake a parked part (R157, R129, R158). -/

namespace Sys2Proof.Machine

theorem payload_length_of_wf {c : Instr} {f : Frame} (h : c.frame? = some f) (wf : c.wf = true) : f.payload.length ≤ 38 := by
  cases c
  case loadPathFirst dt g | loadPathMiddle dt g | loadPathLast dt g | loadPathOnly dt g | lockDemandNone dt g
      | lockDemandLock dt g | lockDemandPermit dt g =>
    cases h
    have tail : f.payload.length ≤ 37 := of_decide_eq_true wf
    omega
  case unknown dt k g =>
    cases h
    exact of_decide_eq_true (Bool.and_eq_true .. ▸ wf).1
  case flushPath | takeHold | dropHold | enable | startRoutine | suspendRoutine | resumeRoutine | abortRoutine | readResult
      | enterService | serviceDrive | leaveService | park | clearTrip | readEvents | status | getParam | setParam
      | softRestart | commitCal | restoreCal =>
    cases h
    exact of_decide_eq_true wf
  all_goals cases h

/-- A well-formed request is delivered to its port (R157). -/
theorem exec_deliver {c : Instr} {f : Frame} (h : c.frame? = some f) (wf : c.wf = true) (s : State) :
    exec c s =
      .next ((s.advance c.delay).deliver (requestService c).1 (requestService c).2.1 f (requestService c).2.2) := by
  rcases exec_request h s with e | ⟨bad, -⟩
  · rw [e, State.request, if_neg (Nat.not_lt.mpr (payload_length_of_wf h wf))]
  · rw [wf] at bad
    cases bad

theorem State.rxHunt_place (p : Port) (s : State) : ((s.rxHunt p).port p).place = (s.port p).place := by
  cases p <;> rfl

/-- Settles O4. -/
theorem occupiedPlaceDiscardsEveryRequest : Obligations.OccupiedPlaceDiscardsEveryRequest := by
  intro c f s frame wf occupied
  have full : (((s.advance c.delay).rxHunt f.port).port f.port).place.isSome = true := by
    rw [State.rxHunt_place, Option.isSome_iff_ne_none]
    cases e : f.port <;> rw [e] at occupied <;> exact occupied
  rw [exec_deliver frame wf, State.deliver]
  dsimp only
  rw [if_pos full]

/-! ## Waking -/

theorem State.wakeNow_eq (src : WakeSource) (s : State) :
    s.wakeNow src =
      (((s.setLatchUnit { s.latch with run := .run }).setAuth
          { s.auth with dropoutSince := none, dropoutFired := false }).logEvent (.wake src)).setSolve
        { phiT := 0, deltaT := 0, phiS := s.tilt.meas, deltaS := s.steer.meas, kc := 0, a := 0, curvLimited := false,
          leanLimited := false, upright := false, captured := s.tilt.meas, periodDue := s.now + 2000 } := rfl

theorem State.wake_parked {src : WakeSource} {s : State} (parked : s.latch.run = .parked) :
    s.wake src = (s.wakeNow src).settle := if_pos parked

/-- The solve is made of its targets and the three values that seeding moves. -/
theorem SameTargets.solve_eq {s t : State} (h : SameTargets s t) (phiS : t.solve.phiS = s.solve.phiS)
    (deltaS : t.solve.deltaS = s.solve.deltaS) (captured : t.solve.captured = s.solve.captured) : t.solve = s.solve :=
  calc t.solve
    _ = { { t.solve with phiS := 0, deltaS := 0, captured := 0 } with
          phiS := t.solve.phiS, deltaS := t.solve.deltaS, captured := t.solve.captured } := rfl
    _ = { { s.solve with phiS := 0, deltaS := 0, captured := 0 } with
          phiS := s.solve.phiS, deltaS := s.solve.deltaS, captured := s.solve.captured } := by rw [h, phiS, deltaS, captured]
    _ = s.solve := rfl

/-- A request that wakes, with a handler that leaves a part in RUN as `R` says. -/
structure WakingService (R : State → State → Prop) (x : Byte × Bool × Handler) : Prop where
  wakes : x.2.1 = true
  handled : ∀ p payload s, s.latch.run = .run → R s (x.2.2 p payload s).1

theorem WakingService.of {kind : Byte} {h : Handler} (k : ∀ p payload s, Attends s (h p payload s).1) :
    WakingService Attends (kind, true, h) := ⟨rfl, fun p payload s _ => k p payload s⟩

/-- Every waking request but PARK leaves the part in RUN. -/
theorem requestService_waking {c : Instr} {f : Frame} (frame : c.frame? = some f)
    (quiet : ∀ dt, c ≠ .status dt f ∧ c ≠ .readEvents dt f ∧ c ≠ .getParam dt f ∧ c ≠ .readResult dt f)
    (known : ∀ dt k, c ≠ .unknown dt k f) (stays : ∀ dt, c ≠ .park dt f) : WakingService Attends (requestService c) := by
  cases c
  case status dt g => cases frame; exact absurd rfl (quiet dt).1
  case readEvents dt g => cases frame; exact absurd rfl (quiet dt).2.1
  case getParam dt g => cases frame; exact absurd rfl (quiet dt).2.2.1
  case readResult dt g => cases frame; exact absurd rfl (quiet dt).2.2.2
  case unknown dt k g => cases frame; exact absurd rfl (known dt k)
  case park dt g => cases frame; exact absurd rfl (stays dt)
  case loadPathFirst => exact .of (loadPath_attends loadFirst_position)
  case loadPathMiddle => exact .of (loadPath_attends loadMiddle_position)
  case loadPathLast => exact .of (loadPath_attends loadLast_position)
  case loadPathOnly => exact .of (loadPath_attends loadOnly_position)
  case lockDemandNone => exact .of (demandRow_attends demandNone_attends)
  case lockDemandLock => exact .of (demandRow_attends demandLock_attends)
  case lockDemandPermit => exact .of (demandRow_attends demandPermit_attends)
  case flushPath => exact .of handleFlushPath_attends
  case takeHold => exact ⟨rfl, fun p payload _ run => handleTakeHold_attends p payload run⟩
  case dropHold => exact .of handleDropHold_attends
  case enable => exact ⟨rfl, fun p payload _ run => handleEnable_attends p payload run⟩
  case startRoutine => exact .of handleStartRoutine_attends
  case suspendRoutine => exact .of handleSuspendRoutine_attends
  case resumeRoutine => exact .of handleResumeRoutine_attends
  case abortRoutine => exact .of handleAbortRoutine_attends
  case enterService => exact .of handleEnterService_attends
  case serviceDrive => exact .of handleServiceDrive_attends
  case leaveService => exact .of handleLeaveService_attends
  case clearTrip => exact .of handleClearTrip_attends
  case setParam => exact .of handleSetParam_attends
  case softRestart => exact .of handleSoftRestart_attends
  case commitCal => exact .of handleCommitCal_attends
  case restoreCal => exact .of handleRestoreCal_attends
  all_goals cases frame

theorem WakingService.serves {x : Byte × Bool × Handler} (h : WakingService Attends x) : WakingService Serves x :=
  ⟨h.wakes, fun p payload s run => (h.handled p payload s run).toServes⟩

theorem State.occupy_place (p : Port) (x : Held) (s : State) : ((s.occupy p x).port p).place = some x := by
  cases p <;> rfl

/-- The solve as waking leaves it (R129, R36, R18). -/
def State.wokenSolve (s : State) : SolveUnit :=
  { phiT := 0, deltaT := 0, phiS := s.tilt.meas, deltaS := s.steer.meas, kc := 0, a := 0, curvLimited := false,
    leanLimited := false, upright := false, captured := s.tilt.meas, periodDue := s.now + 2000 }

/-- What waking has left stands while a request is served. -/
theorem Serves.after_wakeNow {src : WakeSource} {u v : State} (h : Serves (u.wakeNow src) v) :
    LoggedFirst u [.wake src] v ∧ v.solve = u.wokenSolve ∧ v.auth.dropoutSince = none ∧ v.auth.dropoutFired = false :=
  ⟨.of_logEvents h.now h.records,
    h.targets.solve_eq (h.phiS.elim id id) (h.deltaS.elim id id) (h.captured.elim id id),
    h.dropoutSince.elim id id, h.dropoutFired.elim id id⟩

/-- The reply touches nothing but its port. -/
theorem State.occupy_eq (p : Port) (x : Held) (a : State) :
    (a.occupy p x).latch = a.latch ∧ (a.occupy p x).solve = a.solve ∧ (a.occupy p x).auth = a.auth ∧
      (a.occupy p x).now = a.now ∧ (a.occupy p x).log = a.log := by
  cases p <;> exact ⟨rfl, rfl, rfl, rfl, rfl⟩

/-- The state in which the owner of a waking request finds a parked part. -/
theorem State.deliver_parked {kind : Byte} {f : Frame} {h : Handler} {s : State} (empty : (s.port f.port).place = none) :
    s.deliver kind true f h =
      (h f.port f.payload (((s.rxHunt f.port).refresh f.port).wake .link)).1.occupy f.port
        { kind := kind, ref := f.ref, at_ := (((s.rxHunt f.port).refresh f.port).wake .link).now,
          answer := (h f.port f.payload (((s.rxHunt f.port).refresh f.port).wake .link)).2 } := by
  have none : ¬((s.rxHunt f.port).port f.port).place.isSome = true := by rw [State.rxHunt_place, empty]; simp
  rw [State.deliver]
  dsimp only
  rw [if_neg none, if_pos rfl]

/-- A waking request to a parked part: what stands when the port has taken its reply. -/
theorem State.deliver_wakes {kind : Byte} {f : Frame} {h : Handler} (service : WakingService Serves (kind, true, h))
    {s : State} (empty : (s.port f.port).place = none) (parked : s.latch.run = .parked) :
    LoggedFirst s [.wake .link] (s.deliver kind true f h) ∧ ((s.deliver kind true f h).port f.port).place ≠ none ∧
      (WakingService Attends (kind, true, h) → (s.deliver kind true f h).latch.run = .run) ∧
      (s.deliver kind true f h).solve = s.wokenSolve ∧
      (s.deliver kind true f h).auth.dropoutSince = none ∧ (s.deliver kind true f h).auth.dropoutFired = false := by
  rw [State.deliver_parked empty]
  set u := (s.rxHunt f.port).refresh f.port with hu
  have refreshed : Attends (s.rxHunt f.port) u := State.refresh_attends f.port _
  have log : u.log = s.log := by
    rw [hu, State.refresh_eq]
    cases f.port <;> rfl
  have run : u.latch.run = .parked := refreshed.run.trans (by cases f.port <;> exact parked)
  have solve : u.wokenSolve = s.wokenSolve := by
    have tilt : u.tilt.meas = s.tilt.meas := refreshed.tilt.trans (by cases f.port <;> rfl)
    have steer : u.steer.meas = s.steer.meas := refreshed.steer.trans (by cases f.port <;> rfl)
    have now : u.now = s.now := refreshed.now.trans (by cases f.port <;> rfl)
    rw [State.wokenSolve, tilt, steer, now]
    rfl
  have running := State.wake_latch_run .link u
  have woken : Serves (u.wakeNow .link) (u.wake .link) := by
    rw [State.wake_parked run]
    exact (State.settle_sound _).attends.toServes
  set w := u.wake .link
  obtain ⟨logged, solved, since, fired⟩ := (woken.trans (service.handled f.port f.payload w running)).after_wakeNow
  set v := (h f.port f.payload w).1
  obtain ⟨latch', solve', auth', now', log'⟩ := State.occupy_eq f.port
    { kind := kind, ref := f.ref, at_ := w.now, answer := (h f.port f.payload w).2 } v
  refine ⟨?_, by rw [State.occupy_place]; exact Option.some_ne_none _, fun attended => ?_, solve' ▸ solved.trans solve,
    auth' ▸ since, auth' ▸ fired⟩
  · rw [LoggedFirst, log', now', ← log]
    exact logged
  · rw [latch', (attended.handled f.port f.payload w running).run]
    exact running

/-- Settles O5: PARK is the one waking request whose owner may park the part again; it too leaves the solve seeded and the marks
clear. -/
theorem otherRequestsWakeAParkedPart : Obligations.OtherRequestsWakeAParkedPart := by
  refine ⟨fun src s => ⟨s.wakeNow_eq src, s.wake_run src, State.wake_parked⟩, ?_⟩
  intro c f s frame wf quiet known empty parked
  have service (stays : ∀ dt, c ≠ .park dt f) : WakingService Attends (requestService c) :=
    requestService_waking frame quiet known stays
  have serves : WakingService Serves (requestService c) := by
    by_cases stays : ∀ dt, c ≠ .park dt f
    · exact (service stays).serves
    · obtain ⟨dt, rfl⟩ : ∃ dt, c = .park dt f := by simpa only [not_forall, not_not, ne_eq] using stays
      exact ⟨rfl, fun p payload s _ => handlePark_serves p payload s⟩
  obtain ⟨t, run, k⟩ := exec_onPort frame s
  have e := exec_deliver frame wf s
  have wakes := serves.wakes
  generalize requestService c = x at service serves e wakes
  obtain ⟨kind, w, h⟩ := x
  obtain rfl : w = true := wakes
  obtain rfl : t = (s.advance c.delay).deliver kind true f h := Host.Outcome.next.inj (run.symm.trans e)
  obtain ⟨logged, place, awake, solve, since, fired⟩ := State.deliver_wakes (s := s.advance c.delay) serves
    (by cases hp : f.port <;> rw [hp] at empty <;> exact empty) parked
  exact ⟨_, run, logged, k.other.trans (by cases f.port <;> rfl), place, fun stays => awake (service stays), solve, since, fired⟩

end Sys2Proof.Machine
end

section
/-! PROOFS. The state that a request's owner finds and the state that its reply leaves, part by part; a request answered in one
equation (R157, R158). -/

namespace Sys2Proof.Machine

/-! ## Delivery -/

@[simp] theorem State.delivered_pins (dt : Nat) (p : Port) (s : State) : (s.delivered dt p).pins = s.pins := by
  rw [State.delivered_eq]
  cases p <;> rfl

@[simp] theorem State.delivered_speed (dt : Nat) (p : Port) (s : State) : (s.delivered dt p).speed = s.speed := by
  rw [State.delivered_eq]
  cases p <;> rfl

@[simp] theorem State.delivered_solve (dt : Nat) (p : Port) (s : State) : (s.delivered dt p).solve = s.solve := by
  rw [State.delivered_eq]
  cases p <;> rfl

@[simp] theorem State.delivered_tilt (dt : Nat) (p : Port) (s : State) : (s.delivered dt p).tilt = s.tilt := by
  rw [State.delivered_eq]
  cases p <;> rfl

@[simp] theorem State.delivered_steer (dt : Nat) (p : Port) (s : State) : (s.delivered dt p).steer = s.steer := by
  rw [State.delivered_eq]
  cases p <;> rfl

@[simp] theorem State.delivered_slot (dt : Nat) (p : Port) (s : State) : (s.delivered dt p).slot = s.slot := by
  rw [State.delivered_eq]
  cases p <;> rfl

@[simp] theorem State.delivered_latch (dt : Nat) (p : Port) (s : State) : (s.delivered dt p).latch = s.latch := by
  rw [State.delivered_eq]
  cases p <;> rfl

@[simp] theorem State.delivered_inputs (dt : Nat) (p : Port) (s : State) : (s.delivered dt p).inputs = s.inputs := by
  rw [State.delivered_eq]
  cases p <;> rfl

@[simp] theorem State.delivered_log (dt : Nat) (p : Port) (s : State) : (s.delivered dt p).log = s.log := by
  rw [State.delivered_eq]
  cases p <;> rfl

@[simp] theorem State.delivered_now (dt : Nat) (p : Port) (s : State) : (s.delivered dt p).now = s.now + dt := by
  rw [State.delivered_eq]
  cases p <;> rfl

@[simp] theorem State.delivered_axis (dt : Nat) (p : Port) (x : Axis) (s : State) : (s.delivered dt p).axis x = s.axis x := by
  rw [State.delivered_eq]
  cases p <;> cases x <;> rfl

@[simp] theorem State.delivered_grade (dt : Nat) (p : Port) (s : State) : (s.delivered dt p).grade = s.grade :=
  congrArg (fun u : InputUnit => gradeOf u.trips) (s.delivered_inputs dt p)

@[simp] theorem State.delivered_still (dt : Nat) (p : Port) (s : State) : (s.delivered dt p).still = s.still := by
  rw [State.delivered_eq]
  cases p <;> rfl

theorem Hold.refreshed_other (p : Port) (now : Nat) (h : Hold) : ((h.refreshed p now).port ≠ p) = (h.port ≠ p) := by
  rw [h.refreshed_port]

@[simp] theorem State.delivered_heldByOther (dt : Nat) (p q : Port) (s : State) :
    (s.delivered dt p).heldByOther q = s.heldByOther q := by
  rw [State.delivered_eq, State.heldByOther, State.heldByOther, State.setAuth_auth]
  cases s.auth.hold with
  | none => rfl
  | some h => simp [Hold.refreshed_port]

theorem State.delivered_hold_isSome (dt : Nat) (p : Port) (s : State) :
    (s.delivered dt p).auth.hold.isSome = s.auth.hold.isSome := by
  rw [State.delivered_eq, State.setAuth_auth]
  exact Option.isSome_map

theorem State.delivered_unheld {dt : Nat} {p : Port} {s : State} (free : s.auth.hold = none) :
    (s.delivered dt p).auth = s.auth := by
  rw [State.delivered_eq, State.setAuth_auth, free]
  show { s.auth with hold := none } = s.auth
  rw [← free]

/-! ## Replies -/

@[simp] theorem State.answered_now (p : Port) (kind ref : Byte) (status : Status) (payload : List Byte) (s : State) :
    (s.answered p kind ref status payload).now = s.now := by cases p <;> rfl

@[simp] theorem State.answered_pins (p : Port) (kind ref : Byte) (status : Status) (payload : List Byte) (s : State) :
    (s.answered p kind ref status payload).pins = s.pins := by cases p <;> rfl

@[simp] theorem State.answered_speed (p : Port) (kind ref : Byte) (status : Status) (payload : List Byte) (s : State) :
    (s.answered p kind ref status payload).speed = s.speed := by cases p <;> rfl

@[simp] theorem State.answered_solve (p : Port) (kind ref : Byte) (status : Status) (payload : List Byte) (s : State) :
    (s.answered p kind ref status payload).solve = s.solve := by cases p <;> rfl

@[simp] theorem State.answered_path (p : Port) (kind ref : Byte) (status : Status) (payload : List Byte) (s : State) :
    (s.answered p kind ref status payload).path = s.path := by cases p <;> rfl

@[simp] theorem State.answered_auth (p : Port) (kind ref : Byte) (status : Status) (payload : List Byte) (s : State) :
    (s.answered p kind ref status payload).auth = s.auth := by cases p <;> rfl

@[simp] theorem State.answered_tilt (p : Port) (kind ref : Byte) (status : Status) (payload : List Byte) (s : State) :
    (s.answered p kind ref status payload).tilt = s.tilt := by cases p <;> rfl

@[simp] theorem State.answered_steer (p : Port) (kind ref : Byte) (status : Status) (payload : List Byte) (s : State) :
    (s.answered p kind ref status payload).steer = s.steer := by cases p <;> rfl

@[simp] theorem State.answered_slot (p : Port) (kind ref : Byte) (status : Status) (payload : List Byte) (s : State) :
    (s.answered p kind ref status payload).slot = s.slot := by cases p <;> rfl

@[simp] theorem State.answered_latch (p : Port) (kind ref : Byte) (status : Status) (payload : List Byte) (s : State) :
    (s.answered p kind ref status payload).latch = s.latch := by cases p <;> rfl

@[simp] theorem State.answered_inputs (p : Port) (kind ref : Byte) (status : Status) (payload : List Byte) (s : State) :
    (s.answered p kind ref status payload).inputs = s.inputs := by cases p <;> rfl

@[simp] theorem State.answered_log (p : Port) (kind ref : Byte) (status : Status) (payload : List Byte) (s : State) :
    (s.answered p kind ref status payload).log = s.log := by cases p <;> rfl

/-! ## A request in one equation -/

/-- A request that wakes nothing is answered from the state that its owner leaves, in either run state. -/
theorem exec_read {c : Instr} {f : Frame} {s t : State} {a : Answer} (frame : c.frame? = some f) (wf : c.wf = true)
    (sleeps : (requestService c).2.1 = false) (empty : (s.port f.port).place = none)
    (handled : (requestService c).2.2 f.port f.payload (s.delivered c.delay f.port) = (t, a))
    (now : t.now = s.now + c.delay) :
    exec c s = .next (t.answered f.port (requestService c).1 f.ref a.status a.payload) := by
  have none : ¬(((s.advance c.delay).rxHunt f.port).port f.port).place.isSome = true := by
    rw [State.rxHunt_place, show ((s.advance c.delay).port f.port).place = Option.none by
      cases e : f.port <;> rw [e] at empty <;> exact empty]
    simp
  rw [exec_deliver frame wf, State.deliver]
  dsimp only
  rw [if_neg none, sleeps, if_neg Bool.false_ne_true]
  change Host.Outcome.next (((requestService c).2.2 f.port f.payload (s.delivered c.delay f.port)).1.occupy f.port
    { kind := _, ref := f.ref, at_ := (s.delivered c.delay f.port).now,
      answer := ((requestService c).2.2 f.port f.payload (s.delivered c.delay f.port)).2 }) = _
  rw [handled, State.delivered_now, ← now]
  rfl

/-- A request to a part in RUN is answered from the state that its owner leaves. -/
theorem exec_answered {c : Instr} {f : Frame} {s t : State} {a : Answer} (frame : c.frame? = some f) (wf : c.wf = true)
    (ready : Ready s f.port)
    (handled : (requestService c).2.2 f.port f.payload (s.delivered c.delay f.port) = (t, a))
    (now : t.now = s.now + c.delay) :
    exec c s = .next (t.answered f.port (requestService c).1 f.ref a.status a.payload) := by
  have len := payload_length_of_wf frame wf
  rcases exec_request frame s with e | ⟨bad, -⟩
  · rw [e, State.request_eq_answered len ready handled (by rw [now, State.delivered_now])]
  · rw [wf] at bad
    cases bad

/-- The same, where the owner refuses. -/
theorem exec_refused {c : Instr} {f : Frame} {s : State} {status : Status} {payload : List Byte} (frame : c.frame? = some f)
    (wf : c.wf = true) (ready : Ready s f.port)
    (handled : (requestService c).2.2 f.port f.payload (s.delivered c.delay f.port) =
      refuse (s.delivered c.delay f.port) status payload) :
    exec c s = .next ((s.delivered c.delay f.port).answered f.port (requestService c).1 f.ref status payload) :=
  exec_answered frame wf ready handled (s.delivered_now c.delay f.port)

end Sys2Proof.Machine
end

section
/-! PROOFS. The log's appends, the handlebar, FLUSH_PATH, PARK and the key-off, COMMIT_CAL. -/

namespace Sys2Proof.Machine

/-! ## The log (R146, R147, R150) -/

theorem AttnLine.onAppend_of_want {x : AttnLine} {want : Bool} (h : want = true) (gap : x.gapEnd = none) :
    (x.onAppend want).asserted = true := by
  rw [AttnLine.onAppend, h, gap]
  rfl

theorem AttnLine.onAppend_of_asserted {x : AttnLine} (want : Bool) (h : x.asserted = true) :
    (x.onAppend want).asserted = true := by
  unfold AttnLine.onAppend
  split
  · rfl
  · exact h

theorem EventLog.append_of_room {l : EventLog} (r : EventRec) (a b : Byte) (room : l.records.length < 16) :
    l.append r a b = { l with
      records := l.records ++ [r]
      attnA := l.attnA.onAppend ((l.records ++ [r]).any fun x => a.getLsbD x.event.category)
      attnB := l.attnB.onAppend ((l.records ++ [r]).any fun x => b.getLsbD x.event.category) } := if_pos room

theorem EventLog.append_of_full {l : EventLog} (r : EventRec) (a b : Byte) (full : 16 ≤ l.records.length) :
    l.append r a b = { l with overflow := true } := if_neg (Nat.not_lt.mpr full)

theorem any_append_self {α : Type} (l : List α) {x : α} {f : α → Bool} (h : f x = true) : (l ++ [x]).any f = true := by
  simp [h]

/-- Settles O51. -/
theorem appendsKeepTheOldest : Obligations.AppendsKeepTheOldest := by
  refine fun e s => ⟨fun room => ?_, EventLog.append_of_full _ _ _, rfl⟩
  have appended : (s.logEvent e).log = _ := EventLog.append_of_room _ s.params.attnMaskA s.params.attnMaskB room
  rw [appended]
  exact ⟨rfl, rfl, fun want gap => AttnLine.onAppend_of_want (any_append_self _ want) gap,
    fun want gap => AttnLine.onAppend_of_want (any_append_self _ want) gap,
    AttnLine.onAppend_of_asserted _, AttnLine.onAppend_of_asserted _⟩

/-! ## The handlebar (R79, R84, R85, R87) -/

/-- Settles O32: a reading is valid or it is not, and each writes the pin and the authority unit. -/
theorem handlebarSampleFollowsTheBar : Obligations.HandlebarSampleFollowsTheBar := by
  refine fun dt x s => ⟨fun low high => ?valid, fun out => ?invalid⟩
  case valid =>
    have valid : readingValid x = true := by simp [readingValid, low, high]
    show Host.Outcome.next ((s.advance dt).handlebarSampled x) = _
    rw [State.handlebarSampled]
    dsimp only
    rw [if_pos valid, AuthorityUnit.validSample, riderDemandOf, clampSym, clamp_eq (by decide), clampSym, clamp_eq (by decide)]
    simp only [Hold.takeoverAt, mag_eq_abs]
    rfl
  case invalid =>
    have invalid : readingValid x = false := by
      simp only [readingValid, Bool.and_eq_false_iff, decide_eq_false_iff_not, not_le]
      exact out
    show Host.Outcome.next ((s.advance dt).handlebarSampled x) = _
    rw [State.handlebarSampled]
    dsimp only
    rw [invalid, AuthorityUnit.invalidSample]
    simp only [Bool.or_eq_true, decide_eq_true_eq]
    rfl

/-! ## FLUSH_PATH (R66) -/

theorem handleFlushPath_of_holder {p : Port} {s : State} (holder : s.holds p = true) :
    handleFlushPath p [] s = (s.flush, okAnswer [byteOf s.path.queue.length, byteOf s.path.staging.length]) := by
  simp [handleFlushPath, holder]

/-- Settles O26. -/
theorem flushPathEmptiesTheQueue : Obligations.FlushPathEmptiesTheQueue := by
  intro dt p r s ready holder
  have path := s.delivered_path dt p
  have handled : handleFlushPath p [] (s.delivered dt p) =
      ((s.delivered dt p).flush, okAnswer [byteOf s.path.queue.length, byteOf s.path.staging.length]) := by
    rw [handleFlushPath_of_holder ((s.delivered_holds dt p p).trans holder), path]
  have now : (s.delivered dt p).flush.now = s.now + dt := by
    rw [← s.delivered_now dt p]
    unfold State.flush
    split <;> rfl
  rw [exec_answered (c := .flushPath dt { port := p, ref := r, payload := [] }) rfl rfl ready handled now]
  refine ⟨fun empty => ?_, fun some => ?_⟩
  · rw [State.flush, path, empty]
    dsimp only
    rw [State.discardStaging, path]
    rfl
  · obtain ⟨g, rest, e⟩ := List.exists_cons_of_ne_nil some
    rw [State.flush, path, e]
    dsimp only
    rw [← e]
    rfl

/-! ## Parking (R126, R128) -/

theorem State.parkable_iff (s : State) : s.parkable = true ↔
    s.latch.run = .run ∧ s.still = true ∧ s.latch.state = .engaged ∧ s.slot = .free ∧ s.grade ≠ .lockdown := by
  have free : s.slot.isFree = true ↔ s.slot = .free := by cases s.slot <;> simp [Slot.isFree]
  simp only [State.parkable, Bool.and_eq_true, decide_eq_true_eq, free]
  tauto

/-- What PARK asks for, in the state its owner finds (R126). -/
theorem State.delivered_parks (dt : Nat) (p : Port) {s : State} (run : s.latch.run = .run) :
    ((s.delivered dt p).parkable && (s.delivered dt p).auth.hold.isNone) = true ↔
      s.still = true ∧ s.latch.state = .engaged ∧ s.auth.hold = none ∧ s.slot = .free ∧ s.grade ≠ .lockdown := by
  have free : (s.delivered dt p).auth.hold.isNone = s.auth.hold.isNone := by
    rw [← Option.not_isSome, s.delivered_hold_isSome dt p, Option.not_isSome]
  rw [Bool.and_eq_true, State.parkable_iff, free, Option.isNone_iff_eq_none]
  simp only [State.delivered_latch, State.delivered_still, State.delivered_slot, State.delivered_grade]
  tauto

/-- Settles O49. -/
theorem parkNeedsStandstillAndTheLatch : Obligations.ParkNeedsStandstillAndTheLatch := by
  intro dt p r s ready
  refine ⟨fun still engaged free slot grade => ?parks, fun cause => ?refused⟩
  case parks =>
    have parks := (s.delivered_parks dt p ready.2).mpr ⟨still, engaged, free, slot, grade⟩
    have handled : handlePark p [] (s.delivered dt p) = ((s.delivered dt p).parkNow, okAnswer []) := if_pos parks
    rw [exec_answered (c := .park dt { port := p, ref := r, payload := [] }) rfl rfl ready handled (s.delivered_now dt p),
      State.parkNow, State.axesOff, s.delivered_tilt dt p]
    dsimp only [State.setSteer_auth, State.setTilt_auth, State.setTilt_steer, State.setSteer_latch, State.setTilt_latch,
      State.setAuth_latch]
    rw [s.delivered_steer dt p, s.delivered_latch dt p, State.delivered_unheld free]
    rfl
  case refused =>
    have stays : ¬((s.delivered dt p).parkable && (s.delivered dt p).auth.hold.isNone) = true := by
      rw [s.delivered_parks dt p ready.2]
      rintro ⟨still, engaged, free, slot, grade⟩
      rcases cause with c | c | c | c | c
      · rw [still] at c; cases c
      · exact c engaged
      · exact c free
      · exact c slot
      · exact grade c
    exact exec_refused (c := .park dt { port := p, ref := r, payload := [] }) rfl rfl ready (if_neg stays)

end Sys2Proof.Machine
end

section
/-! PROOFS. The timers that end a hold, the key-off, the store's commands, and the requests that need the hold. -/

namespace Sys2Proof.Machine

/-! ## The end of a hold (R77, R79, R56, R128) -/

theorem State.endHold_of_hold {reason : EndReason} {h : Hold} {s : State} (hold : s.auth.hold = some h) :
    s.endHold reason = (s.endHoldCore h reason).handOn := by
  rw [State.endHold, State.dropHold, hold]
  rfl

theorem State.endHold_of_none {reason : EndReason} {s : State} (free : s.auth.hold = none) : s.endHold reason = s := by
  rw [State.endHold, free]
  rfl

/-- The end of a hold with the conditions handed on leaves what R80 says. -/
theorem State.endHold_ended (reason : EndReason) {h : Hold} {s : State} (hold : s.auth.hold = some h) :
    HoldEnded reason h s (s.endHold reason) := by
  rw [State.endHold_of_hold hold]
  exact (State.endHoldCore_ended h reason s).lasts (State.endHoldCore_consequence h reason s) (State.handOn_consequence _)
    (State.handOn_inert _ (State.endHoldCore_vacant h reason s))

theorem msOf_eq (x : Int) : msOf x = x.toNat * 1000 := rfl

theorem reached_some {e limit now : Nat} : reached (some e) limit now = true ↔ e + limit ≤ now := decide_eq_true_iff

/-- A hold end that is due, and what the end of the moment before leaves. -/
theorem endHold_due {reason : EndReason} {h : Hold} {dt : Nat} {s : State} (hold : s.auth.hold = some h) :
    HoldEnded reason h s ((s.advance dt).endHold reason).settle ∧
      Consequence (s.advance dt) ((s.advance dt).endHold reason).settle := by
  have ended := State.endHold_settle_ended reason (s := s.advance dt) hold
  exact ⟨{ ended with }, (State.endHold_consequence reason _).trans (State.settle_consequence _)⟩

/-- Settles O31. -/
theorem holdTimersEndTheHold : Obligations.HoldTimersEndTheHold := by
  intro dt s
  have silence (h : Hold) (hold : s.auth.hold = some h) :
      (s.advance dt).silent = true ↔ h.lastContact + s.params.holdTimeout.toNat * 1000 ≤ s.now + dt := by
    show reached (s.auth.hold.map (·.lastContact)) _ _ = true ↔ _
    rw [hold]
    exact reached_some
  have takeover : (s.advance dt).takenOver =
      reached (s.auth.hold.bind (·.takeoverSince)) (s.auth.takeoverTime.toNat * 1000) (s.now + dt) := rfl
  have notYet {e limit now : Nat} (early : now < e + limit) : ¬reached (some e) limit now = true := by
    rw [reached_some]
    omega
  refine ⟨fun h hold => ⟨fun due => ?_, fun e since due => ?_, fun e since due => ?_, fun early => ?_, fun none => ?_,
    fun e since early => ?_, fun e since early => ?_⟩, fun none => ⟨?_, ?_⟩, fun none => ?_⟩
  · exact ⟨_, if_pos ((silence h hold).mpr due), endHold_due hold⟩
  · refine ⟨_, if_pos ?_, endHold_due hold⟩
    rw [takeover, hold, Option.bind_some, since]
    exact reached_some.mpr due
  · refine ⟨_, if_pos ?_, endHold_due hold⟩
    show reached s.path.ceilingSince overspeedLimit (s.now + dt) = true
    rw [since]
    exact reached_some.mpr due
  · exact if_neg (fun due => Nat.not_le.mpr early ((silence h hold).mp due))
  · refine if_neg ?_
    rw [takeover, hold, Option.bind_some, none]
    exact Bool.false_ne_true
  · refine if_neg ?_
    rw [takeover, hold, Option.bind_some, since]
    exact notYet early
  · refine if_neg ?_
    show ¬reached s.path.ceilingSince overspeedLimit (s.now + dt) = true
    rw [since]
    exact notYet early
  · refine if_neg ?_
    show ¬reached (s.auth.hold.map (·.lastContact)) _ _ = true
    rw [none]
    exact Bool.false_ne_true
  · refine if_neg ?_
    rw [takeover, none]
    exact Bool.false_ne_true
  · refine if_neg ?_
    show ¬reached s.path.ceilingSince overspeedLimit (s.now + dt) = true
    rw [none]
    exact Bool.false_ne_true

theorem State.parkNow_of_consequence {s t : State} (c : Consequence s t) :
    SameOutside s t.parkNow ∧ SameTargets s t.parkNow ∧ SameAngles s t.parkNow ∧ SameSwitches s t.parkNow ∧
      SameSettings s t.parkNow :=
  ⟨⟨c.outside.pending, c.outside.pins, c.outside.portA, c.outside.portB, c.outside.store⟩, c.targets, c.angles, c.switches,
    c.settings⟩

/-- Settles O50. -/
theorem keyOffParks : Obligations.KeyOffParks := by
  intro dt s
  refine ⟨fun e since due => ?_, fun none => ?_, fun pending run still engaged slot grade => ?_, fun cause => ?_⟩
  · refine if_pos ?_
    show reached s.latch.keyOffSince keyOffLimit (s.now + dt) = true
    rw [since]
    exact reached_some.mpr due
  · refine if_neg ?_
    show ¬reached s.latch.keyOffSince keyOffLimit (s.now + dt) = true
    rw [none]
    exact Bool.false_ne_true
  · have parks : (s.advance dt).autoParks = true :=
      Bool.and_eq_true .. ▸ ⟨pending, (s.advance dt).parkable_iff.mpr ⟨run, still, engaged, slot, grade⟩⟩
    have c := State.endHold_consequence .park (s.advance dt)
    have path : ((s.advance dt).endHold .park).path = if s.auth.hold = none then s.path else .empty := by
      cases hold : s.auth.hold with
      | none => rw [State.endHold_of_none (s := s.advance dt) hold]; rfl
      | some h => rw [(State.endHold_ended .park (s := s.advance dt) hold).path]; rfl
    refine ⟨_, if_pos parks, rfl, State.endHold_hold .park _, rfl, rfl, rfl, rfl, path, fun some => ?_, fun none => ?_, ?_⟩
    · obtain ⟨h, hold⟩ := Option.ne_none_iff_exists'.mp some
      exact (State.endHold_ended .park (s := s.advance dt) hold).logged
    · rw [State.endHold_of_none (s := s.advance dt) none]
      rfl
    · obtain ⟨outside, rest⟩ := State.parkNow_of_consequence c
      exact ⟨⟨outside.pending, outside.pins, outside.portA, outside.portB, outside.store⟩, rest⟩
  · refine if_neg ?_
    rw [State.autoParks, Bool.and_eq_true, State.parkable_iff]
    rintro ⟨pending, run, still, -⟩
    rcases cause with e | e | e
    · exact Bool.false_ne_true (e.symm.trans pending)
    · exact absurd (run.symm.trans e) (by decide)
    · exact Bool.false_ne_true (e.symm.trans still)

/-! ## COMMIT_CAL and STORE_DONE (R167) -/

theorem Slot.isFree_iff {y : Slot} : y.isFree = true ↔ y = .free := by cases y <;> simp [Slot.isFree]

theorem State.programmed_of_slot {n : Nat} {s : State} (slot : s.slot = .storeProgramming n) :
    s.programmed = true ↔ n + 60000 ≤ s.now := by
  rw [State.programmed, slot]
  exact decide_eq_true_iff

/-- Settles O59. -/
theorem commitProgramsUser : Obligations.CommitProgramsUser := by
  intro dt p r m s
  refine ⟨fun ready free => ?_, fun ready busy => ?_, fun n slot due => ?_, fun n slot early => ?_, fun other => ?_⟩
  · have handled : handleCommitCal p [] (s.delivered dt p) = ((s.delivered dt p).startProgramming, okAnswer []) := by
      simp [handleCommitCal, free, Slot.isFree]
    rw [exec_answered (c := .commitCal dt { port := p, ref := r, payload := [] }) rfl rfl ready handled (s.delivered_now dt p),
      State.startProgramming, State.delivered_store, State.delivered_now]
    rfl
  · have occupied : s.slot.isFree = false := by
      rw [← Bool.not_eq_true, Slot.isFree_iff]
      exact busy
    have handled : handleCommitCal p [] (s.delivered dt p) = refuseBusy (s.delivered dt p) := by
      simp [handleCommitCal, occupied]
    rw [refuseBusy, State.delivered_slot] at handled
    exact exec_refused (c := .commitCal dt { port := p, ref := r, payload := [] }) rfl rfl ready handled
  · refine (if_pos ((State.programmed_of_slot (s := s.advance dt) slot).mpr due)).trans ?_
    rw [State.endProgramming, CalStore.compared]
    rfl
  · exact if_neg fun due => Nat.not_le.mpr early ((State.programmed_of_slot (s := s.advance dt) slot).mp due)
  · refine if_neg fun due => ?_
    have e : (s.advance dt).slot = s.slot := rfl
    rw [State.programmed, e] at due
    cases slot : s.slot
    case storeProgramming n => rw [slot] at other; cases other
    all_goals rw [slot] at due; cases due

/-! ## Requests that need the hold -/

theorem axisOfCode_code (x : Axis) : axisOfCode (byteOf (axisCode x)).toNat = some x := by cases x <;> rfl

theorem RoutineKind.ofCode_code (k : RoutineKind) : RoutineKind.ofCode (byteOf k.code).toNat = some k := by cases k <;> rfl

theorem startArgs_code {x : Axis} {k : RoutineKind} (exists_ : kindExists x k = true) :
    startArgs [byteOf (axisCode x), byteOf k.code] = some (x, k) := by
  simp [startArgs, axisOfCode_code, RoutineKind.ofCode_code, exists_]

theorem axisArg_code (x : Axis) : axisArg [byteOf (axisCode x)] = some x := axisOfCode_code x

theorem loadPath_of_unheld (act : List ReadSegment → State → State × Answer) {p : Port} {bytes : List Byte} {s : State}
    (other : s.holds p = false) : loadPath act p bytes s = loadAnswer s .notHolder [] := by
  simp [loadPath, other]

theorem loadPath_of_busy (act : List ReadSegment → State → State × Answer) {p : Port} {bytes : List Byte} {s : State}
    (holder : s.holds p = true) (busy : s.axisBusy = true) : loadPath act p bytes s = loadAnswer s .notNow [] := by
  simp [loadPath, holder, busy]

/-- The four commands of LOAD_PATH, each with what it does with segments that are read (R59). -/
theorem loadPath_service {dt : Nat} {f : Frame} {c : Instr}
    (h : c = .loadPathFirst dt f ∨ c = .loadPathMiddle dt f ∨ c = .loadPathLast dt f ∨ c = .loadPathOnly dt f)
    (len : f.payload.length ≤ 37) :
    c.frame? = some f ∧ c.wf = true ∧ c.delay = dt ∧ ∃ act, requestService c = (0x22, true, loadPath act) := by
  have fits : f.tailFits = true := decide_eq_true len
  rcases h with rfl | rfl | rfl | rfl <;> exact ⟨rfl, fits, rfl, _, rfl⟩

theorem exec_loadPath {dt : Nat} {f : Frame} {c : Instr} {s t : State} {status : Status} {more : List Byte}
    (h : c = .loadPathFirst dt f ∨ c = .loadPathMiddle dt f ∨ c = .loadPathLast dt f ∨ c = .loadPathOnly dt f)
    (len : f.payload.length ≤ 37) (ready : Ready s f.port) (now : t.now = s.now + dt)
    (handled : ∀ act, loadPath act f.port f.payload (s.delivered dt f.port) = loadAnswer t status more) :
    exec c s = .next (t.answered f.port 0x22 f.ref status (t.path.counts ++ more)) := by
  obtain ⟨frame, wf, rfl, act, service⟩ := loadPath_service h len
  have e := exec_answered (a := (loadAnswer t status more).2) frame wf ready (by rw [service]; exact handled act) now
  rw [service] at e
  exact e

/-- Settles O40. -/
theorem requestsNeedTheHold : Obligations.RequestsNeedTheHold := by
  refine ⟨fun dt p r lo hi x k s ready other kind => ?_, fun dt f s c command len ready => ⟨fun other => ?_, fun holder busy => ?_⟩⟩
  · have unheld := (s.delivered_holds dt p p).trans other
    refine ⟨exec_refused (c := .flushPath dt _) rfl rfl ready ?_, exec_refused (c := .startRoutine dt _) rfl rfl ready ?_,
      exec_refused (c := .suspendRoutine dt _) rfl rfl ready ?_, exec_refused (c := .resumeRoutine dt _) rfl rfl ready ?_,
      exec_refused (c := .abortRoutine dt _) rfl rfl ready ?_, exec_refused (c := .enterService dt _) rfl rfl ready ?_,
      exec_refused (c := .serviceDrive dt _) rfl rfl ready ?_, exec_refused (c := .leaveService dt _) rfl rfl ready ?_,
      exec_refused (c := .lockDemandPermit dt _) rfl rfl ready ?_⟩
    · simp [requestService, Instr.delay, handleFlushPath, unheld]
    · simp [requestService, Instr.delay, handleStartRoutine, startArgs_code kind, unheld]
    · simp [requestService, Instr.delay, handleSuspendRoutine, unheld]
    · simp [requestService, Instr.delay, handleResumeRoutine, unheld]
    · simp [requestService, Instr.delay, handleAbortRoutine, unheld]
    · simp [requestService, Instr.delay, handleEnterService, axisArg_code, unheld]
    · simp [requestService, Instr.delay, handleServiceDrive, unheld]
    · simp [requestService, Instr.delay, handleLeaveService, unheld]
    · simp [requestService, Instr.delay, demandRow, demandPermit, unheld]
  · have unheld := (s.delivered_holds dt f.port f.port).trans other
    rw [exec_loadPath command len ready (s.delivered_now dt f.port) fun act => loadPath_of_unheld act unheld,
      List.append_nil, s.delivered_path dt f.port]
  · rw [exec_loadPath command len ready (s.delivered_now dt f.port) fun act =>
      loadPath_of_busy act ((s.delivered_holds dt f.port f.port).trans holder) ((s.delivered_axisBusy dt f.port).trans busy),
      List.append_nil, s.delivered_path dt f.port]

end Sys2Proof.Machine
end

section
/-! PROOFS. Characters, and the events of a port (R153, R154, R156, R157, R159). -/

namespace Sys2Proof.Machine

/-! ## Parity -/

/-- A running exclusive or is the parity of the count. -/
theorem foldl_bne_eq {α : Type} (f : α → Bool) (l : List α) (a : Bool) :
    l.foldl (fun acc i => acc != f i) a = decide ((l.countP f + a.toNat) % 2 = 1) := by
  induction l generalizing a with
  | nil => cases a <;> rfl
  | cons x l ih =>
    rw [List.foldl_cons, ih, List.countP_cons]
    cases a <;> cases f x <;> grind

theorem evenParity_eq (b : Byte) : evenParity b = decide ((List.range 8).countP (fun i => b.getLsbD i) % 2 = 1) :=
  foldl_bne_eq (fun i => b.getLsbD i) (List.range 8) false

theorem Character.good_iff (c : Character) : c.good = true ↔ c.stop = true ∧
    ((List.range 8).countP (fun i => c.data.getLsbD i) + c.parity.toNat) % 2 = 0 := by
  rw [Character.good, evenParity_eq, Bool.and_eq_true]
  refine and_congr_right fun _ => ?_
  cases c.parity <;> grind

theorem Character.of_good (b : Byte) : (Character.of b).good = true := by simp [Character.good, Character.of]

/-! ## The receiver -/

theorem State.rxHunt_eq (dt : Nat) (p : Port) (s : State) :
    (s.advance dt).rxHunt p =
      (s.advance dt).setPort p { s.port p with rx := .hunt, need := 0, body := [], lastEnd := s.now + dt } := by
  rw [State.rxHunt, State.advance_port]
  rfl

theorem State.rxHunt_port (p : Port) (s : State) :
    (s.rxHunt p).port p = { s.port p with rx := .hunt, need := 0, body := [], lastEnd := s.now } := State.setPort_port ..

theorem State.setPort_setPort (s : State) (p : Port) (a b : PortRec) : (s.setPort p a).setPort p b = s.setPort p b := by
  cases p <;> rfl

theorem State.setPort_now (s : State) (p : Port) (a : PortRec) : (s.setPort p a).now = s.now := by cases p <;> rfl

theorem State.rxHunt_rxHunt (p : Port) (s : State) : (s.rxHunt p).rxHunt p = s.rxHunt p := by
  conv_lhs => rw [State.rxHunt]
  rw [State.rxHunt_port, State.rxHunt, State.setPort_setPort, State.setPort_now]

theorem PortRec.late_iff {r : PortRec} {now : Nat} : r.late now = true ↔ r.rx ≠ .hunt ∧ r.lastEnd + 2044 < now := by
  simp [PortRec.late]

/-- A character error leaves the receiver in HUNT (R156). -/
theorem exec_receivedCharacter_of_bad {dt : Nat} {p : Port} {c : Character} {s : State} (bad : c.good = false) :
    exec (.receivedCharacter dt p c) s = .next ((s.advance dt).rxHunt p) := by
  have rejected (t : State) : t.receiveCharacter p c = t.rxHunt p := if_neg (by rw [bad]; exact Bool.false_ne_true)
  show execReceivedCharacter dt p c s = _
  rw [execReceivedCharacter, rejected, rejected, State.rxHunt_rxHunt]
  exact ite_self _

/-- A right character to a receiver whose frame, if it has one, is not late. -/
theorem exec_receivedCharacter_of_not_late {dt : Nat} {p : Port} {c : Character} {s : State}
    (prompt : (s.port p).late (s.now + dt) = false) (good : c.good = true) :
    exec (.receivedCharacter dt p c) s = .next ((s.advance dt).receive p c.data) := by
  have notLate : ¬((s.advance dt).port p).late (s.advance dt).now = true := by
    rw [State.advance_port]
    exact ne_true_of_eq_false prompt
  exact (if_neg notLate).trans (congrArg Host.Outcome.next (if_pos good))

theorem PortRec.not_late_of_hunt {r : PortRec} {now : Nat} (h : r.rx = .hunt) : r.late now = false := by
  simp [PortRec.late, h]

/-- A character that began too late finds its frame abandoned, and is taken in HUNT (R156). -/
theorem exec_receivedCharacter_of_late {dt : Nat} {p : Port} {c : Character} {s : State}
    (late : (s.port p).late (s.now + dt) = true) (good : c.good = true) :
    exec (.receivedCharacter dt p c) s = .next (((s.advance dt).rxHunt p).receive p c.data) := by
  have isLate : ((s.advance dt).port p).late (s.advance dt).now = true := by
    rw [State.advance_port]
    exact late
  exact (if_pos isLate).trans (congrArg Host.Outcome.next (if_pos good))

theorem State.receive_of_hunt {p : Port} {s : State} (hunt : (s.port p).rx = .hunt) (b : Byte) :
    s.receive p b = s.setPort p (if b = 0x5A then { s.port p with rx := .length, need := 0, body := [], lastEnd := s.now }
      else { s.port p with rx := .hunt, lastEnd := s.now }) := by
  rw [State.receive, hunt, PortRec.take, hunt]
  rfl

theorem State.receive_of_length {p : Port} {s : State} (length : (s.port p).rx = .length) (b : Byte) :
    s.receive p b = if validLength b then
      s.setPort p { s.port p with rx := .body, need := b, body := [], lastEnd := s.now } else s.rxHunt p := by
  rw [State.receive, length, PortRec.take, length]

theorem State.receive_of_body {p : Port} {s : State} (body : (s.port p).rx = .body) (b : Byte) :
    s.receive p b = s.setPort p { s.port p with
      rx := if (s.port p).need.toNat ≤ (s.port p).body.length + 1 then .check else .body,
      body := (s.port p).body ++ [b], lastEnd := s.now } := by
  rw [State.receive, body, PortRec.take, body]

theorem validLength_iff {n : Byte} : validLength n = true ↔ 2 ≤ n.toNat ∧ n.toNat ≤ 40 := by simp [validLength]

theorem validLength_of_out {n : Byte} (h : n.toNat < 2 ∨ 40 < n.toNat) : ¬validLength n = true := by
  rw [validLength_iff]
  omega

/-- A receiver in time inside a frame, at the moment of a character. -/
theorem receive_in_time {dt : Nat} {p : Port} {c : Character} {s u : State} (good : c.good = true)
    (inTime : s.now + dt ≤ (s.port p).lastEnd + 2044) (h : (s.advance dt).receive p c.data = u) :
    exec (.receivedCharacter dt p c) s = .next u := by
  rw [exec_receivedCharacter_of_not_late (PortRec.late_of_le inTime) good, h]

theorem exec_frameAbandon_of {dt : Nat} {p : Port} {cause : AbandonCause} {s : State}
    (h : (s.port p).abandons cause = true) :
    exec (.frameAbandon dt p cause) s = .next ((s.advance dt).rxHunt p) := by
  refine if_pos ?_
  rw [State.advance_port]
  exact h

theorem Held.replyOver_iff {r : PortRec} {h : Held} {now : Nat} (place : r.place = some h) :
    r.replyOver now = true ↔ h.at_ + 44 * (6 + h.answer.payload.length) ≤ now := by
  rw [PortRec.replyOver, place]
  exact decide_eq_true_iff

/-- Settles O54: what a right character does in each state of the receiver, then the four events of a port. -/
theorem charactersAndPortEventsKeepToThePort : Obligations.CharactersAndPortEventsKeepToThePort := by
  refine ⟨Character.good_iff, fun p x s c hc => ?_, fun dt p c s bad => ⟨?_, fun inside => ?_⟩, fun dt p c s =>
    ⟨fun good hunt => ⟨fun start => ?_, fun other => ?_⟩, fun good inside late => ?_, fun good inTime =>
      ⟨fun length low high => ?_, fun length out => ?_, fun body short => ?_, fun body full => ?_⟩,
      fun n length out => ?_, fun b check wrong => ?_, fun a hunt => ?_, fun inside gap => ?_, fun hunt => ?_,
      fun full => ?_, fun h place due => ?_, fun h place early => ?_⟩⟩
  · rw [State.occupy_tx] at hc
    obtain ⟨b, -, rfl⟩ := List.mem_map.mp hc
    exact (Character.good_iff _).mp (Character.of_good b)
  · rw [exec_receivedCharacter_of_bad bad, State.rxHunt_eq]
  · exact exec_frameAbandon_of (by simp [PortRec.abandons, bad, inside])
  · rw [exec_receivedCharacter_of_not_late (PortRec.not_late_of_hunt hunt) good,
      State.receive_of_hunt (by rw [State.advance_port, hunt]), if_pos start, State.advance_port]
    rfl
  · rw [exec_receivedCharacter_of_not_late (PortRec.not_late_of_hunt hunt) good,
      State.receive_of_hunt (by rw [State.advance_port, hunt]), if_neg other, State.advance_port, ← hunt]
    rfl
  · rw [exec_receivedCharacter_of_late (PortRec.late_iff.mpr ⟨inside, late⟩) good,
      State.receive_of_hunt (by rw [State.rxHunt_port]), State.rxHunt_port, State.advance_port, State.rxHunt,
      State.setPort_setPort, State.setPort_now]
    split <;> rfl
  · refine receive_in_time good inTime ?_
    rw [State.receive_of_length (by rw [State.advance_port, length]), if_pos (validLength_iff.mpr ⟨low, high⟩),
      State.advance_port]
    rfl
  · refine receive_in_time good inTime ?_
    rw [State.receive_of_length (by rw [State.advance_port, length]), if_neg (validLength_of_out out), State.rxHunt_eq]
  · refine receive_in_time good inTime ?_
    rw [State.receive_of_body (by rw [State.advance_port, body]), State.advance_port, if_neg (by omega), ← body]
    rfl
  · refine receive_in_time good inTime ?_
    rw [State.receive_of_body (by rw [State.advance_port, body]), State.advance_port, if_pos (by omega)]
    rfl
  · refine exec_frameAbandon_of ?_
    simp [PortRec.abandons, length, validLength_of_out out]
  · refine exec_frameAbandon_of ?_
    simp [PortRec.abandons, check, PortRec.crc, wrong]
  · refine if_neg ?_
    rw [State.advance_port]
    cases a <;> simp [PortRec.abandons, hunt]
  · refine if_pos ?_
    rw [State.advance_port]
    simp only [PortRec.gapped, Bool.and_eq_true, decide_eq_true_eq]
    exact ⟨inside, gap⟩
  · refine if_neg ?_
    rw [State.advance_port]
    simp [PortRec.gapped, hunt]
  · refine if_pos ?_
    rw [State.advance_port]
    exact Option.isSome_iff_ne_none.mpr full
  · refine (if_pos ?_).trans (by rw [State.advance_port])
    rw [State.advance_port]
    exact (Held.replyOver_iff place).mpr due
  · refine if_neg ?_
    rw [State.advance_port]
    exact fun over' => Nat.not_le.mpr early ((Held.replyOver_iff place).mp over')

end Sys2Proof.Machine
end

section
/-! PROOFS. Codes and layouts as the record layouts number them, and the reads (R148, R150, R151, R158, R162, R165). -/

namespace Sys2Proof.Machine

/-! ## Codes -/

theorem LatchState.code_eq (l : LatchState) : l.code = l.number := by cases l <;> rfl
theorem axisCode_eq (x : Axis) : axisCode x = axisNumber x := by cases x <;> rfl
theorem RoutineKind.code_eq (k : RoutineKind) : k.code = k.number := by cases k <;> rfl
theorem RoutineOutcome.code_eq (o : RoutineOutcome) : o.code = o.number := by cases o <;> rfl
theorem AxisMode.code_eq (m : AxisMode) : m.code = [AxisMode.off, .track, .routine, .service].idxOf m := by cases m <;> rfl
theorem Grade.code_eq (g : Grade) : g.code = [Grade.none, .degrade, .lockdown].idxOf g := by cases g <;> rfl
theorem CalSource.code_eq (c : CalSource) : c.code = [CalSource.user, .factory, .defaults].idxOf c := by cases c <;> rfl
theorem DemandItem.code_eq (i : DemandItem) : i.code = [DemandItem.none, .lock, .permit].idxOf i := by cases i <;> rfl
theorem TripId.code_eq (t : TripId) : t.code = 1 + [TripId.trackTilt, .trackSteer, .sensorTilt, .sensorSteer, .handlebar,
    .speed, .trip1, .trip2].idxOf t := by cases t <;> rfl

theorem bit_eq (b : Bool) (n : Nat) : bit b n = 2 ^ n * b.toNat := by cases b <;> simp [bit]

theorem Event.code_eq (e : Event) : e.code = e.fields.1 := by cases e <;> rfl

theorem assertCode_eq (on : Bool) : assertCode on = onOff on := rfl

theorem Event.stateCode_eq (e : Event) : e.stateCode = e.fields.2.1 := by cases e <;> rfl

theorem byteOf_toNat_self (b : Byte) : byteOf b.toNat = b := by simp [byteOf]

theorem Event.arg_eq (e : Event) : e.arg = byteOf e.fields.2.2 := by
  cases e
  case inputChange i _ => cases i <;> rfl
  case combiner c _ => cases c <;> rfl
  case wheelOdd w _ => cases w <;> rfl
  case speedSuspect => rfl
  case travelSource x => cases x <;> rfl
  case pathDone tag => exact (byteOf_toNat_self tag).symm
  case pathDry flushed => cases flushed <;> rfl
  case holdBegin p => cases p <;> rfl
  case holdEnd r => cases r <;> rfl
  case routineEnd x k o =>
    show byteOf (128 * axisCode x + 16 * k.code + o.code) = _
    rw [axisCode_eq, RoutineKind.code_eq, RoutineOutcome.code_eq]
    rfl
  case routineSuspend x => cases x <;> rfl
  case routineResume x => cases x <;> rfl
  case lockState l => exact congrArg byteOf l.code_eq
  case lockFault f => cases f <;> rfl
  case lockLate l => exact congrArg byteOf l.code_eq
  case trip t => exact congrArg byteOf t.code_eq
  case tripClear => rfl
  case startFull c => exact congrArg byteOf c.code_eq
  case startSoft => rfl
  case wake w => cases w <;> rfl
  case portOverrun p => cases p <;> rfl
  case storeDone pass => cases pass <;> rfl

theorem Event.category_eq (e : Event) : e.category = e.fields.1 / 16 := by
  cases e <;> simp [Event.category, Event.fields]

theorem le16_of_lt {n : Nat} (h : n < 65536) : le16 n = [byteOf (n % 256), byteOf (n / 256)] := by
  have e : ((n : Int) % 65536).toNat = n := by omega
  rw [le16, e]

theorem EventRec.bytes_eq (x : EventRec) : x.bytes =
    [byteOf x.event.fields.1, byteOf x.event.fields.2.1, byteOf x.event.fields.2.2, byteOf (x.stamp.toNat % 256),
      byteOf (x.stamp.toNat / 256)] := by
  rw [EventRec.bytes, Event.code_eq, Event.stateCode_eq, Event.arg_eq, le16_of_lt x.stamp.isLt]
  rfl

theorem EventLog.wants_iff (l : EventLog) (mask : Byte) :
    l.wants mask = true ↔ ∃ x ∈ l.records, mask.getLsbD (x.event.fields.1 / 16) = true := by
  simp [EventLog.wants, Event.category_eq]

/-! ## READ_EVENTS and the re-arm gap (R148, R151) -/

theorem AttnLine.onRead_of_want {x : AttnLine} {want : Bool} {now : Nat} (h : want = true) :
    x.onRead want now = { asserted := false, gapEnd := some (now + 50) } := if_pos h

theorem AttnLine.onRead_of_not_want {x : AttnLine} {want : Bool} {now : Nat} (h : want = false) :
    x.onRead want now = { x with asserted := false } := if_neg (ne_true_of_eq_false h)

theorem EventLog.read_of_empty {l : EventLog} (a b : Byte) (now : Nat) (h : l.records = []) :
    l.read a b now = { l with overflow := false } := if_pos (List.isEmpty_iff.mpr h)

theorem EventLog.read_of_some {l : EventLog} (a b : Byte) (now : Nat) (h : l.records ≠ []) :
    l.read a b now =
      { records := l.records.drop 6, overflow := false,
        attnA := l.attnA.onRead ((l.read a b now).wants a) now, attnB := l.attnB.onRead ((l.read a b now).wants b) now } := by
  rw [EventLog.read, if_neg (fun e => h (List.isEmpty_iff.mp e))]
  rfl

theorem EventLog.read_records (l : EventLog) (a b : Byte) (now : Nat) : (l.read a b now).records = l.records.drop 6 := by
  by_cases h : l.records = []
  · rw [l.read_of_empty a b now h, h]
    rfl
  · rw [l.read_of_some a b now h]

theorem EventLog.read_overflow (l : EventLog) (a b : Byte) (now : Nat) : (l.read a b now).overflow = false := by
  by_cases h : l.records = []
  · rw [l.read_of_empty a b now h]
  · rw [l.read_of_some a b now h]

theorem EventLog.readBytes_eq (l : EventLog) : l.readBytes =
    byteOf (min 6 l.records.length) :: ((l.records.take 6).flatMap EventRec.bytes ++
      [byteOf (l.records.length - 6), if l.overflow then 1 else 0]) := by
  rw [EventLog.readBytes, List.length_take, List.length_drop]
  cases l.overflow <;> rfl

theorem dueBy_some {e now : Nat} : dueBy (some e) now = true ↔ e ≤ now := decide_eq_true_iff

theorem State.advance_line (dt : Nat) (p : Port) (s : State) : (s.advance dt).log.line p = s.log.line p := rfl

/-- Settles O52. -/
theorem readEventsRemovesTheOldest : Obligations.ReadEventsRemovesTheOldest := by
  refine ⟨EventRec.bytes_eq, EventLog.wants_iff, fun dt p r s => ⟨fun empty => ?read, fun e gap => ⟨fun due => ?ends, fun early => ?runs⟩⟩⟩
  case read =>
    have handled : handleReadEvents p [] (s.delivered dt p) =
        ((s.delivered dt p).setLog (s.log.read s.params.attnMaskA s.params.attnMaskB (s.now + dt)),
          okAnswer s.log.readBytes) := by
      simp [handleReadEvents]
    refine ⟨s.log.read s.params.attnMaskA s.params.attnMaskB (s.now + dt), ?_, EventLog.read_records .., EventLog.read_overflow ..,
      fun none => ?_, fun some => ?_⟩
    · rw [← EventLog.readBytes_eq]
      exact exec_read (c := .readEvents dt { port := p, ref := r, payload := [] }) rfl rfl rfl empty handled (s.delivered_now dt p)
    · rw [EventLog.read_of_empty _ _ _ none]
      exact ⟨rfl, rfl⟩
    · have e := EventLog.read_of_some s.params.attnMaskA s.params.attnMaskB (s.now + dt) some
      generalize s.log.read s.params.attnMaskA s.params.attnMaskB (s.now + dt) = l at e ⊢
      have a : l.attnA = s.log.attnA.onRead (l.wants s.params.attnMaskA) (s.now + dt) := congrArg EventLog.attnA e
      have b : l.attnB = s.log.attnB.onRead (l.wants s.params.attnMaskB) (s.now + dt) := congrArg EventLog.attnB e
      exact ⟨fun want => a.trans (AttnLine.onRead_of_want want), fun want => a.trans (AttnLine.onRead_of_not_want want),
        fun want => b.trans (AttnLine.onRead_of_want want), fun want => b.trans (AttnLine.onRead_of_not_want want)⟩
  case ends =>
    refine if_pos ?_
    rw [State.advance_line, gap]
    exact dueBy_some.mpr due
  case runs =>
    refine if_neg ?_
    rw [State.advance_line, gap]
    exact fun due => Nat.not_le.mpr early (dueBy_some.mp due)

/-! ## The reads that change nothing -/

theorem byteOf_toNat {n : Nat} (h : n < 256) : (byteOf n).toNat = n := by simp [byteOf, Nat.mod_eq_of_lt h]

theorem le16_reads (n : Int) : ∃ lo hi, le16 n = [lo, hi] ∧ ((lo.toNat + 256 * hi.toNat : Nat) : Int) = n % 65536 := by
  refine ⟨_, _, rfl, ?_⟩
  have h0 := Int.emod_nonneg n (show (65536 : Int) ≠ 0 by decide)
  have h1 := Int.emod_lt_of_pos n (show (0 : Int) < 65536 by decide)
  rw [byteOf_toNat (by omega), byteOf_toNat (by omega)]
  omega

theorem ResultRec.bytes_eq (x : ResultRec) : x.bytes =
    [byteOf ((x.kind.map (fun k => k.number)).getD 3), byteOf x.outcome.number,
      byteOf (x.v1.isSome.toNat + 2 * x.v2.isSome.toNat + 4 * x.v3.isSome.toNat)] ++
    le16 (x.v1.getD 0) ++ le16 (x.v2.getD 0) ++ le16 (x.v3.getD 0) := by
  have kind : x.kind.map RoutineKind.code = x.kind.map (fun k => k.number) := by
    cases x.kind with
    | none => rfl
    | some k => exact congrArg some k.code_eq
  have presence : x.presence = x.v1.isSome.toNat + 2 * x.v2.isSome.toNat + 4 * x.v3.isSome.toNat := by
    rw [ResultRec.presence]
    cases x.v1.isSome <;> cases x.v2.isSome <;> cases x.v3.isSome <;> rfl
  rw [ResultRec.bytes, kind, presence, RoutineOutcome.code_eq]

theorem Selection.toByte_eq (y : Selection) : y.toByte = y.layout := by
  obtain ⟨c, inverted⟩ := y
  cases c <;> cases inverted <;> rfl

theorem CombinerCfg.toBytes_eq (x : CombinerCfg) : x.toBytes = x.layout := by
  obtain ⟨a, b, c, fn, inverted, action⟩ := x
  rw [CombinerCfg.toBytes, CombinerCfg.layout, a.toByte_eq, b.toByte_eq, c.toByte_eq]
  cases fn <;> cases inverted <;> cases action <;> rfl

theorem TripCfg.toBytes_eq (u : TripUnit) (x : TripCfg) :
    x.toBytes u = x.layout (if u = .t1 then x.c.layout else 0) := by
  obtain ⟨enabled, a, b, c, time, severity⟩ := x
  rw [TripCfg.toBytes, TripCfg.layout, a.toByte_eq, b.toByte_eq, c.toByte_eq]
  cases enabled <;> cases time <;> cases severity <;> rfl

theorem Params.valueBytes_tripUnit (p : Params) :
    p.valueBytes (.tripUnit .t1) = p.t1.layout p.t1.c.layout ∧ p.valueBytes (.tripUnit .t2) = p.t2.layout 0 :=
  ⟨p.t1.toBytes_eq .t1, p.t2.toBytes_eq .t2⟩

/-! ## The status record (R162) -/

/-- The number of the n-th trip of the set in the status record. -/
def tripNumber (trips : List Trip) (n : Nat) : Nat :=
  ((trips[n]?).map (fun x => 1 + [TripId.trackTilt, .trackSteer, .sensorTilt, .sensorSteer, .handlebar, .speed, .trip1,
    .trip2].idxOf x.id)).getD 0

theorem tripPlace_eq (trips : List Trip) (n : Nat) : tripPlace trips n = tripNumber trips n := by
  rw [tripPlace, tripNumber]
  cases trips[n]? with
  | none => rfl
  | some t => exact t.id.code_eq

theorem State.holderCode_eq (s : State) : s.holderCode =
    match s.auth.hold with
    | none => 0
    | some h => if h.port = .a then 1 else 2 := by
  rw [State.holderCode]
  cases s.auth.hold with
  | none => rfl
  | some h => cases hp : h.port <;> simp [portCode, hp]

theorem State.sourceCode_eq (s : State) :
    s.source.code = if s.auth.hold = none then 0 else if s.path.queue = [] then 2 else 1 := by
  rw [State.source]
  cases s.auth.hold with
  | none => rfl
  | some h => cases s.path.queue <;> simp [DemandSource.code]

theorem Slot.code_eq (y : Slot) : y.code =
    match y with
    | .free => 0
    | .routine r => if r.axis = .tilt then 1 else 2
    | .service x _ => if x = .tilt then 3 else 4
    | .storeProgramming _ => 5 := by
  cases y with
  | free => rfl
  | routine r => cases h : r.axis <;> simp [Slot.code, h]
  | service x d => cases x <;> rfl
  | storeProgramming n => rfl

theorem State.statusRecord_length (s : State) : s.statusRecord.length = 32 := rfl

theorem State.delivered_statusRecord (dt : Nat) (p : Port) (s : State) :
    (s.delivered dt p).statusRecord = s.statusRecord := by
  have holder : (s.delivered dt p).holderCode = s.holderCode := by
    rw [State.delivered_eq, State.holderCode, State.holderCode, State.setAuth_auth]
    cases s.auth.hold with
    | none => rfl
    | some h => exact congrArg portCode (h.refreshed_port p _)
  have source : (s.delivered dt p).source = s.source := by
    have hold : (s.delivered dt p).auth.hold = s.auth.hold.map (Hold.refreshed p (s.now + dt)) := by
      rw [State.delivered_eq, State.setAuth_auth]
    rw [State.source, State.source, hold, State.delivered_path]
    cases s.auth.hold <;> cases s.path.queue <;> rfl
  have authority : (s.delivered dt p).authorityByte = s.authorityByte := by
    rw [State.authorityByte, State.authorityByte, holder, source, s.delivered_path dt p, s.delivered_still dt p,
      State.suspect, s.delivered_speed dt p]
    rfl
  have flags : (s.delivered dt p).flagByte = s.flagByte := by
    simp only [State.flagByte, State.combined, State.delivered_solve, State.delivered_latch, State.delivered_params,
      State.delivered_inputs]
  simp only [State.statusRecord, authority, flags, State.delivered_latch, State.delivered_store, State.delivered_tilt,
    State.delivered_steer, State.delivered_grade, State.delivered_inputs, State.delivered_path, State.delivered_speed,
    State.delivered_solve, State.delivered_slot, State.delivered_log]

theorem decide_toNat (p : Prop) [Decidable p] : (if p then 1 else 0) = (decide p).toNat := by
  by_cases h : p <;> simp [h]

theorem handlerOf_of_unknown {k : Nat} (h : k ∉ requestKinds) : handlerOf k = (false, handleUnknown) := by
  unfold handlerOf
  split
  case h_24 => rfl
  all_goals exact absurd (by decide) h

/-- Settles O55. -/
theorem readsChangeNothing : Obligations.ReadsChangeNothing := by
  refine ⟨le16_reads, ResultRec.bytes_eq, fun p => ⟨fun _ => rfl, rfl, rfl, rfl, rfl, fun i => CombinerCfg.toBytes_eq _,
    p.valueBytes_tripUnit⟩, fun dt p r s empty => ⟨⟨?status, s.delivered_statusRecord dt p, s.statusRecord_length, ?record⟩,
    fun x idle => ?result, fun x busy => ?running, fun b name known => ?value, fun b unknown => ?absent,
    fun kind bytes len unknown => ?kind⟩⟩
  case status =>
    exact exec_read (c := .status dt { port := p, ref := r, payload := [] }) rfl rfl rfl empty rfl (s.delivered_now dt p)
  case record =>
    intro trip mode item holder source slot
    have authority : s.authorityByte =
        holder + 4 * source + 16 * s.path.batchOpen.toNat + 32 * s.still.toNat + 64 * s.suspect.toNat := by
      rw [State.authorityByte, State.holderCode_eq, State.sourceCode_eq, bit_eq, bit_eq, bit_eq]
      rfl
    have flags : s.flagByte = s.solve.curvLimited.toNat + 2 * s.solve.leanLimited.toNat + 4 * s.solve.upright.toNat +
        8 * item .a + 32 * item .b + 128 * s.combined.toNat := by
      rw [State.flagByte, bit_eq, bit_eq, bit_eq, bit_eq, DemandItem.code_eq, DemandItem.code_eq, Nat.pow_zero, Nat.one_mul]
      rfl
    have occupant : s.slot.code = slot := s.slot.code_eq
    have run : (if s.latch.run = .parked then 1 else 0) = (decide (s.latch.run = .parked)).toNat := decide_toNat _
    rw [State.statusRecord, authority, flags, occupant, run, bit_eq, tripPlace_eq, tripPlace_eq, tripPlace_eq, tripPlace_eq,
      tripPlace_eq, tripPlace_eq, tripPlace_eq, tripPlace_eq, AxisMode.code_eq, AxisMode.code_eq, Grade.code_eq,
      CalSource.code_eq, LatchState.code_eq]
    rfl
  case result =>
    refine exec_read (c := .readResult dt { port := p, ref := r, payload := [byteOf (axisCode x)] }) rfl rfl rfl empty
      (a := okAnswer (s.axis x).result.bytes) ?_ (s.delivered_now dt p)
    simp [requestService, Instr.delay, handleReadResult, axisArg_code, idle]
  case running =>
    refine exec_read (c := .readResult dt { port := p, ref := r, payload := [byteOf (axisCode x)] }) rfl rfl rfl empty
      (a := { status := .busy, payload := [0] }) ?_ (s.delivered_now dt p)
    simp [requestService, Instr.delay, handleReadResult, axisArg_code, busy, refuse]
  case value =>
    refine exec_read (c := .getParam dt { port := p, ref := r, payload := [b] }) rfl rfl rfl empty
      (a := okAnswer (b :: s.params.valueBytes name)) ?_ (s.delivered_now dt p)
    simp [requestService, Instr.delay, handleGetParam, known]
  case absent =>
    refine exec_read (c := .getParam dt { port := p, ref := r, payload := [b] }) rfl rfl rfl empty
      (a := { status := .badArg, payload := [] }) ?_ (s.delivered_now dt p)
    simp [requestService, Instr.delay, handleGetParam, unknown, refuse]
  case kind =>
    have handler : handlerOf kind.toNat = (false, handleUnknown) := handlerOf_of_unknown unknown
    have wf : (Instr.unknown dt kind { port := p, ref := r, payload := bytes }).wf = true := by
      simp [Instr.wf, Frame.fits, len, unknown]
    exact exec_read (c := .unknown dt kind { port := p, ref := r, payload := bytes }) (a := { status := .unknown, payload := [] })
      rfl wf (by simp [requestService, handler]) empty (by simp [requestService, handler, handleUnknown, refuse, Instr.delay])
      (s.delivered_now dt p)

end Sys2Proof.Machine
end

section
/-! PROOFS. The commit of a batch, and the frames of LOAD_PATH that are malformed (R59, R62, R63, R64, R65). -/

namespace Sys2Proof.Machine

/-! ## The batch joins the queue -/

theorem State.aboveCeiling_iff {s : State} {g : Segment} {rest : List Segment} (queue : s.path.queue = g :: rest) :
    s.AboveCeiling ↔ ∃ c, g.ceiling = some c ∧ (c : Int) + s.params.overspeedMargin < s.speed.v := by
  simp [State.AboveCeiling, queue]

theorem State.restartCeiling_since (s : State) :
    s.restartCeiling.path.ceilingSince = if s.tooFast = true then some s.now else none := rfl

theorem ite_some_iff {α : Type} {p : Prop} [Decidable p] {x : α} : (if p then some x else none) = some x ↔ p := by
  by_cases h : p <;> simp [h]

theorem State.appendSegments_committed (batch : List Segment) (s : State) :
    CommittedPath s s.now batch (s.discardStaging.appendSegments batch).path := by
  cases batch with
  | nil =>
    have e : (s.discardStaging.appendSegments []).path = { s.path with staging := [], batchOpen := false } := by
      unfold State.appendSegments
      cases h : s.discardStaging.path.queue <;> rfl
    rw [e]
    exact ⟨rfl, rfl, (List.append_nil _).symm, fun _ => ⟨rfl, rfl, rfl, rfl⟩, fun _ _ _ cons => nomatch cons⟩
  | cons g rest =>
    cases queue : s.path.queue with
    | nil =>
      have e : s.discardStaging.appendSegments (g :: rest) =
          (s.setPath { s.path with staging := [], batchOpen := false, queue := g :: rest, pos := 0, dryCount := 0,
                                   held := none }).restartCeiling := by
        unfold State.appendSegments
        rw [show s.discardStaging.path.queue = [] from queue]
        rfl
      rw [e]
      refine ⟨rfl, rfl, ?_, fun h => h.elim (absurd queue) (fun cons => nomatch cons), fun _ x more cons => ?_⟩
      · rw [queue]
        rfl
      · obtain ⟨rfl, rfl⟩ := List.cons.inj cons
        refine ⟨rfl, rfl, rfl, ?_, ?_⟩
        · rw [State.restartCeiling_since]
          exact ite_eq_or_eq ..
        · rw [State.restartCeiling_since]
          exact ite_some_iff.trans ((State.tooFast_iff _).trans (State.aboveCeiling_iff rfl))
    | cons head tail =>
      have e : s.discardStaging.appendSegments (g :: rest) =
          s.setPath { s.path with staging := [], batchOpen := false, queue := head :: tail ++ g :: rest } := by
        unfold State.appendSegments
        rw [show s.discardStaging.path.queue = head :: tail from queue]
        rfl
      rw [e]
      refine ⟨rfl, rfl, ?_, fun _ => ⟨rfl, rfl, rfl, rfl⟩, fun empty => ?_⟩
      · rw [queue]
        rfl
      · rw [queue] at empty
        cases empty

theorem CommittedPath.of_delivered {dt now : Nat} {p : Port} {s : State} {batch : List Segment} {u : PathUnit}
    (h : CommittedPath (s.delivered dt p) now batch u) : CommittedPath s now batch u := by
  simpa only [CommittedPath, State.delivered_path, State.delivered_params, State.delivered_speed] using h

theorem CommittedPath.counts {s : State} {now : Nat} {batch : List Segment} {u : PathUnit} (h : CommittedPath s now batch u) :
    u.counts = [byteOf (s.path.queue.length + batch.length), 0, 0] := by
  obtain ⟨staging, closed, queue, -⟩ := h
  rw [PathUnit.counts_of_closed closed, queue, staging, List.length_append]
  rfl

theorem commitBatch_of_room {batch : List Segment} (status : Status) {s : State}
    (room : s.path.queue.length + batch.length ≤ 16) :
    commitBatch batch status s = loadAnswer (s.discardStaging.appendSegments batch) status [] :=
  if_pos (by omega)

theorem commitBatch_of_excess {batch : List Segment} (status : Status) {s : State}
    (excess : 16 < s.path.queue.length + batch.length) (bounded : s.path.queue.length ≤ 16) :
    commitBatch batch status s = loadAnswer s.discardStaging .full [2, byteOf (16 - s.path.queue.length)] :=
  if_neg (by omega)

theorem loadLast_of_closed (segs : List ReadSegment) {s : State} (h : s.path.batchOpen = false) :
    loadLast segs s = loadAnswer s .notNow [] := by
  simp [loadLast, h]

theorem loadLast_of_room {segs : List ReadSegment} {s : State} (h : s.path.batchOpen = true)
    (room : s.path.staging.length + segs.length ≤ 8) :
    loadLast segs s = commitBatch (s.path.staging ++ segs.map (·.seg)) (loadStatus segs) s := by
  rw [loadLast, h, Bool.not_true, if_neg Bool.false_ne_true, if_neg room.not_gt]

theorem loadLast_of_excess {segs : List ReadSegment} {s : State} (h : s.path.batchOpen = true)
    (excess : 8 < s.path.staging.length + segs.length) :
    loadLast segs s = loadAnswer s.discardStaging .full [1, byteOf (8 - s.path.staging.length)] := by
  rw [loadLast, h, Bool.not_true, if_neg Bool.false_ne_true, if_pos excess]
  rfl

/-! ## Requests that a position commits -/

/-- A position that commits a batch with room for it in the queue (R63, R65). -/
theorem LoadChecked.committed {dt : Nat} {f : Frame} {segs : List ReadSegment} {s : State} (c : LoadChecked f segs s)
    {act : List ReadSegment → State → State × Answer} {batch : List Segment}
    (handled : act segs (s.delivered dt f.port) = commitBatch batch (loadStatus segs) (s.delivered dt f.port))
    (room : s.path.queue.length + batch.length ≤ 16) : ∃ u,
    s.request dt 0x22 true f (loadPath act) = ((s.delivered dt f.port).setPath u).answered f.port 0x22 f.ref
      (if segs.any (fun x => x.clamped) then .adjusted else .ok) [byteOf (s.path.queue.length + batch.length), 0, 0] ∧
    CommittedPath s (s.now + dt) batch u := by
  have committed : CommittedPath s (s.now + dt) batch ((s.delivered dt f.port).discardStaging.appendSegments batch).path := by
    have h := (s.delivered dt f.port).appendSegments_committed batch
    rw [s.delivered_now dt f.port] at h
    exact h.of_delivered
  have appended := State.appendSegments_eq batch (s.delivered dt f.port).discardStaging
  rw [commitBatch_of_room _ (by rw [s.delivered_path dt f.port]; exact room), appended] at handled
  refine ⟨_, ?_, committed⟩
  rw [c.request handled rfl, State.setPath_path, committed.counts]
  rfl

/-- A position that refuses the segments with FULL, or that finds its bytes malformed, leaves no batch. -/
theorem LoadChecked.discarded {dt : Nat} {f : Frame} {segs : List ReadSegment} {s : State} (c : LoadChecked f segs s)
    {act : List ReadSegment → State → State × Answer} {status : Status} {more : List Byte}
    (handled : act segs (s.delivered dt f.port) = loadAnswer (s.delivered dt f.port).discardStaging status more) :
    s.request dt 0x22 true f (loadPath act) =
      ((s.delivered dt f.port).setPath { s.path with staging := [], batchOpen := false }).answered f.port 0x22 f.ref status
        ([byteOf s.path.queue.length, 0, 0] ++ more) := by
  rw [c.request handled rfl, State.discardStaging, s.delivered_path dt f.port, State.setPath_path, PathUnit.counts_of_closed rfl]
  rfl

theorem exec_loadPathLast {dt : Nat} {f : Frame} {s : State} (len : f.payload.length ≤ 37) :
    exec (.loadPathLast dt f) s = .next (s.request dt 0x22 true f (loadPath loadLast)) := if_neg len.not_gt

theorem exec_loadPathOnly {dt : Nat} {f : Frame} {s : State} (len : f.payload.length ≤ 37) :
    exec (.loadPathOnly dt f) s = .next (s.request dt 0x22 true f (loadPath loadOnly)) := if_neg len.not_gt

/-! ## Malformed frames (R59) -/

theorem loadPath_of_malformed (act : List ReadSegment → State → State × Answer) {p : Port} {bytes : List Byte} {s : State}
    (holder : s.holds p = true) (idle : s.axisBusy = false) (read : readSegments bytes = none) :
    loadPath act p bytes s = loadAnswer s.discardStaging .badArg [] := by
  simp [loadPath, holder, idle, read]

theorem handleLoadPath_of_noPosition {p : Port} {bytes : List Byte} {s : State} (holder : s.holds p = true)
    (idle : s.axisBusy = false) (bad : bytes = [] ∨ ∃ b more, bytes = b :: more ∧ 4 ≤ b.toNat) :
    handleLoadPath p bytes s = loadAnswer s.discardStaging .badArg [] := by
  have refused : loadPath (fun _ s => loadAnswer s.discardStaging .badArg []) p [] s =
      loadAnswer s.discardStaging .badArg [] := loadPath_of_checked _ holder idle (segs := []) rfl
  rcases bad with rfl | ⟨b, more, rfl, big⟩
  · exact refused
  · unfold handleLoadPath
    dsimp only
    split
    case h_5 => exact refused
    all_goals omega

/-- A frame that completes on a port of a part in RUN is answered from the state that its owner leaves, whatever its
length. -/
theorem State.deliver_answered {dt : Nat} {kind : Byte} {w : Bool} {f : Frame} {h : Handler} {s t : State} {a : Answer}
    (ready : Ready s f.port) (handled : h f.port f.payload (s.delivered dt f.port) = (t, a)) (now : t.now = s.now + dt) :
    (s.advance dt).deliver kind w f h = t.answered f.port kind f.ref a.status a.payload := by
  have e := State.request_eq_answered (dt := dt) (kind := kind) (w := w) (f := { f with payload := [] })
    (h := fun p _ u => h p f.payload u) (Nat.zero_le 38) ready handled (by rw [now, State.delivered_now])
  rw [← e]
  rfl

theorem State.complete_of_body {p : Port} {s : State} {kind ref : Byte} {bytes : List Byte}
    (body : (s.port p).body = kind :: ref :: bytes) :
    s.complete p = s.deliver kind (handlerOf kind.toNat).1 { port := p, ref := ref, payload := bytes } (handlerOf kind.toNat).2 := by
  rw [State.complete, body]

/-- Settles O25. -/
theorem loadPathCommitsAWholeBatch : Obligations.LoadPathCommitsAWholeBatch := by
  refine ⟨fun dt f s c command len ready holder idle read => ?malformed,
    fun dt p ref bytes x s ready holder idle check inTime good crc body bad => ?position,
    fun dt p r bytes segs s len ready holder idle read => ?commits⟩
  case malformed =>
    have handled := fun act => loadPath_of_malformed act ((s.delivered_holds dt f.port f.port).trans holder)
      ((s.delivered_axisBusy dt f.port).trans idle) read
    rw [exec_loadPath (t := (s.delivered dt f.port).discardStaging) command len ready (s.delivered_now dt f.port) handled, State.discardStaging, s.delivered_path dt f.port,
      State.setPath_path, PathUnit.counts_of_closed rfl]
    rfl
  case position =>
    have handled := handleLoadPath_of_noPosition ((s.delivered_holds dt p p).trans holder)
      ((s.delivered_axisBusy dt p).trans idle) bad
    have completes : (s.advance dt).complete p =
        (s.advance dt).deliver 0x22 true { port := p, ref := ref, payload := bytes } handleLoadPath :=
      State.complete_of_body ((congrArg PortRec.body (s.advance_port dt p)).trans body)
    rw [exec_receivedCharacter_of_check check inTime good, if_pos (show x.data = (s.port p).crc from crc), completes,
      State.deliver_answered (f := { port := p, ref := ref, payload := bytes }) ready handled (s.delivered_now dt p),
      State.discardStaging, s.delivered_path dt p]
    rfl
  case commits =>
    have c : LoadChecked { port := p, ref := r, payload := bytes } segs s := ⟨len, ready, holder, idle, read⟩
    have path := s.delivered_path dt p
    rw [exec_loadPathOnly c.len, exec_loadPathLast c.len]
    refine ⟨fun room => ?only, fun excess bounded => ?onlyFull, fun opened staged room => ?last,
      fun opened staged excess bounded => ?lastFull, fun opened excess => ?stagingFull, fun closed => ?noBatch⟩
    case only =>
      obtain ⟨u, e, committed⟩ := c.committed (dt := dt) (act := loadOnly) rfl (by rw [List.length_map]; exact room)
      rw [e, List.length_map]
      exact ⟨u, rfl, committed⟩
    case onlyFull =>
      rw [c.discarded (act := loadOnly) (commitBatch_of_excess _ (by rw [path, List.length_map]; exact excess)
        (by rw [path]; exact bounded)), path]
      rfl
    case last =>
      obtain ⟨u, e, committed⟩ := c.committed (dt := dt) (loadLast_of_room (path ▸ opened) (path ▸ staged))
        (by rw [path, List.length_append, List.length_map]; exact room)
      rw [path] at e committed
      rw [e, List.length_append, List.length_map]
      exact ⟨u, rfl, committed⟩
    case lastFull =>
      rw [c.discarded ((loadLast_of_room (path ▸ opened) (path ▸ staged)).trans
        (commitBatch_of_excess _ (by rw [path, List.length_append, List.length_map]; exact excess) (by rw [path]; exact bounded))),
        path]
      rfl
    case stagingFull =>
      rw [c.discarded (loadLast_of_excess (path ▸ opened) (path ▸ excess)), path]
      rfl
    case noBatch =>
      rw [c.request (loadLast_of_closed segs (path ▸ closed)) rfl, path, PathUnit.counts_of_closed closed]
      rfl

end Sys2Proof.Machine
end

section
/-! PROOFS. The bytes of a segment and of a list of segments (R45, R59; 09, "The segment encoding"). -/

namespace Sys2Proof.Machine

/-! ## Two bytes, low byte first -/

/-- The low byte of a number in two's complement. -/
def low16 (x : Int) : Byte := byteOf ((x % 65536).toNat % 256)

/-- The high byte of a number in two's complement. -/
def high16 (x : Int) : Byte := byteOf ((x % 65536).toNat / 256)

theorem le16_eq (x : Int) : le16 x = [low16 x, high16 x] := rfl

theorem unsigned16_le16 (x : Int) : (unsigned16 (low16 x) (high16 x) : Int) = x % 65536 := by
  have h0 := Int.emod_nonneg x (show (65536 : Int) ≠ 0 by decide)
  have h1 := Int.emod_lt_of_pos x (show (0 : Int) < 65536 by decide)
  rw [unsigned16, low16, high16, byteOf_toNat (by omega), byteOf_toNat (by omega)]
  omega

theorem unsigned16_of_lt {n : Nat} (h : n < 65536) : unsigned16 (low16 n) (high16 n) = n := by
  have := unsigned16_le16 n
  omega

theorem signed16_of_bounds {x : Int} (low : -32768 ≤ x) (high : x < 32768) : signed16 (low16 x) (high16 x) = x := by
  have e := unsigned16_le16 x
  unfold signed16
  generalize unsigned16 (low16 x) (high16 x) = n at e
  dsimp only
  split <;> omega

/-! ## The optional fields -/

theorem optionWord_elim {α : Type} (o : Option α) (f : α → Int) (rest : List Byte) :
    optionWord o.isSome (o.elim [] (fun x => le16 (f x)) ++ rest) = some (o.map (fun x => (low16 (f x), high16 (f x))), rest) := by
  cases o <;> rfl

theorem optionWord_some {present : Bool} {bs rest : List Byte} {w : Option (Byte × Byte)}
    (h : optionWord present bs = some (w, rest)) :
    rest = bs.drop (2 * present.toNat) ∧ 2 * present.toNat + rest.length = bs.length ∧
      (present = true → ∃ lo hi, w = some (lo, hi) ∧ bs = lo :: hi :: rest) := by
  cases present with
  | false =>
    cases h
    exact ⟨rfl, Nat.zero_add _, fun absent => nomatch absent⟩
  | true =>
    match bs, h with
    | lo :: hi :: more, h =>
      cases h
      exact ⟨rfl, Nat.add_comm .., fun _ => ⟨lo, hi, rfl, rfl⟩⟩

/-- The four option bits, and nothing above them. -/
theorem optionByte_bits (a b c d : Bool) :
    (byteOf (a.toNat + 2 * b.toNat + 4 * c.toNat + 8 * d.toNat)).toNat < 16 ∧
    (byteOf (a.toNat + 2 * b.toNat + 4 * c.toNat + 8 * d.toNat)).getLsbD 0 = a ∧
    (byteOf (a.toNat + 2 * b.toNat + 4 * c.toNat + 8 * d.toNat)).getLsbD 1 = b ∧
    (byteOf (a.toNat + 2 * b.toNat + 4 * c.toNat + 8 * d.toNat)).getLsbD 2 = c ∧
    (byteOf (a.toNat + 2 * b.toNat + 4 * c.toNat + 8 * d.toNat)).getLsbD 3 = d := by
  revert a b c d
  decide

/-! ## One segment -/

theorem settleSegment_of_valid {options tag : Byte} {length : Nat} {k0 : Int} {k1 : Option Int} {ceiling : Option Nat}
    {trim : Option Int} (long : 10 ≤ length) (low : ∀ x ∈ ceiling, x ≤ 2500) :
    settleSegment options tag length k0 k1 ceiling trim =
      some { seg := { tag := tag, length := length, k0 := clampSym 500 k0, k1 := clampSym 500 (k1.getD k0), ceiling := ceiling,
                      trim := trim.map (clampSym 300), endRelease := options.getLsbD 3 },
             clamped := clampSym 500 k0 != k0 || k1.any (fun k => clampSym 500 k != k) ||
               trim.any (fun x => clampSym 300 x != x) } := by
  have ok : ¬(decide (length < 10) || ceiling.any (2500 < ·)) = true := by
    cases ceiling with
    | none => simpa using long
    | some c => simpa using ⟨long, low c rfl⟩
  rw [settleSegment, if_neg ok]
  cases k1 <;> rfl

theorem settleSegment_some {options tag : Byte} {length : Nat} {k0 : Int} {k1 : Option Int} {ceiling : Option Nat}
    {trim : Option Int} {r : ReadSegment} (h : settleSegment options tag length k0 k1 ceiling trim = some r) :
    10 ≤ length ∧ ∀ x ∈ ceiling, x ≤ 2500 := by
  unfold settleSegment at h
  split at h
  next => cases h
  next ok =>
    obtain ⟨long, low⟩ : 10 ≤ length ∧ ceiling.any (2500 < ·) = false := by simpa using ok
    refine ⟨long, fun x hx => ?_⟩
    obtain rfl : ceiling = some x := hx
    simpa using low

/-- What a segment that is read tells about its bytes. -/
theorem readSegment_some {options tag l0 l1 a b : Byte} {rest : List Byte} {q : ReadSegment × List Byte}
    (h : readSegment (options :: tag :: l0 :: l1 :: a :: b :: rest) = some q) :
    options.toNat < 16 ∧ 10 ≤ unsigned16 l0 l1 ∧
      2 * ((options.getLsbD 0).toNat + (options.getLsbD 1).toNat + (options.getLsbD 2).toNat) ≤ rest.length ∧
      (options.getLsbD 1 = true → ∀ lo hi more, rest.drop (2 * (options.getLsbD 0).toNat) = lo :: hi :: more →
        unsigned16 lo hi ≤ 2500) := by
  unfold readSegment at h
  dsimp only at h
  split at h
  next => cases h
  next small =>
    obtain ⟨⟨k1, rest₁⟩, read₁, h⟩ := Option.bind_eq_some_iff.mp h
    obtain ⟨⟨ceiling, rest₂⟩, read₂, h⟩ := Option.bind_eq_some_iff.mp h
    obtain ⟨⟨trim, rest₃⟩, read₃, h⟩ := Option.bind_eq_some_iff.mp h
    obtain ⟨r, settled, -⟩ := Option.map_eq_some_iff.mp h
    dsimp only at read₂ read₃ settled
    obtain ⟨long, low⟩ := settleSegment_some settled
    obtain ⟨drop₁, length₁, -⟩ := optionWord_some read₁
    obtain ⟨-, length₂, word₂⟩ := optionWord_some read₂
    obtain ⟨-, length₃, -⟩ := optionWord_some read₃
    refine ⟨Nat.lt_of_not_le small, long, by omega, fun present lo hi more drop => ?_⟩
    obtain ⟨lo', hi', rfl, bytes⟩ := word₂ present
    rw [← drop₁, bytes] at drop
    obtain ⟨rfl, e⟩ := List.cons.inj drop
    obtain ⟨rfl, -⟩ := List.cons.inj e
    exact low _ rfl

theorem readSegment_encoded (tag : Byte) {n : Nat} {k0 : Int} {k1 : Option Int} {c : Option Nat} {trim : Option Int}
    (relEnd : Bool) (rest : List Byte) (long : 10 ≤ n) (short : n < 65536) (k0Low : -32768 ≤ k0) (k0High : k0 < 32768)
    (k1Fits : ∀ k ∈ k1, -32768 ≤ k ∧ k < 32768) (ceilingLow : ∀ x ∈ c, x ≤ 2500)
    (trimFits : ∀ x ∈ trim, -32768 ≤ x ∧ x < 32768) :
    readSegment (byteOf (k1.isSome.toNat + 2 * c.isSome.toNat + 4 * trim.isSome.toNat + 8 * relEnd.toNat) :: tag ::
        low16 n :: high16 n :: low16 k0 :: high16 k0 :: (k1.elim [] (fun x => le16 (id x)) ++
          (c.elim [] (fun x => le16 x) ++ (trim.elim [] (fun x => le16 (id x)) ++ rest)))) =
      some ({ seg := { tag := tag, length := n, k0 := clampSym 500 k0, k1 := clampSym 500 (k1.getD k0), ceiling := c,
                       trim := trim.map (clampSym 300), endRelease := relEnd },
              clamped := clampSym 500 k0 != k0 || k1.any (fun k => clampSym 500 k != k) ||
                trim.any (fun x => clampSym 300 x != x) }, rest) := by
  obtain ⟨small, bit0, bit1, bit2, bit3⟩ := optionByte_bits k1.isSome c.isSome trim.isSome relEnd
  generalize byteOf (k1.isSome.toNat + 2 * c.isSome.toNat + 4 * trim.isSome.toNat + 8 * relEnd.toNat) = options at *
  have word : ∀ o : Option Int, (∀ k ∈ o, -32768 ≤ k ∧ k < 32768) →
      (o.map (fun x => (low16 (id x), high16 (id x)))).map (fun b => signed16 b.1 b.2) = o := by
    intro o fits
    cases o with
    | none => rfl
    | some k => exact congrArg some (signed16_of_bounds (fits k rfl).1 (fits k rfl).2)
  have ceiling : (c.map (fun x : Nat => (low16 x, high16 x))).map (fun b => unsigned16 b.1 b.2) = c := by
    cases c with
    | none => rfl
    | some x =>
      have := ceilingLow x rfl
      exact congrArg some (unsigned16_of_lt (by omega))
  simp only [readSegment, if_neg small.not_ge, bit0, bit1, bit2, bit3, optionWord_elim, Option.bind_some,
    unsigned16_of_lt short, signed16_of_bounds k0Low k0High, word k1 k1Fits, ceiling, word trim trimFits,
    settleSegment_of_valid long ceilingLow, Option.map_some]

/-! ## The list of segments -/

theorem readSegmentsN_iff {n : Nat} {bytes : List Byte} {segs : List ReadSegment} :
    readSegmentsN n bytes = some segs ↔ segs.length ≤ n ∧ SegmentsRead bytes segs := by
  induction segs generalizing n bytes with
  | nil =>
    cases bytes with
    | nil => simp [readSegmentsN, SegmentsRead]
    | cons b bs =>
      refine ⟨fun h => ?_, fun h => nomatch h.2⟩
      cases n with
      | zero => cases h
      | succ n =>
        rw [readSegmentsN] at h
        split at h
        next => cases h
        next => simp at h
  | cons g gs ih =>
    cases bytes with
    | nil =>
      refine ⟨fun h => ?_, fun ⟨_, rest, h, _⟩ => nomatch h⟩
      rw [readSegmentsN] at h
      cases h
    | cons b bs =>
      cases n with
      | zero => exact ⟨fun h => (nomatch h), fun h => (nomatch h.1)⟩
      | succ n =>
        rw [readSegmentsN, SegmentsRead]
        cases read : readSegment (b :: bs) with
        | none => simp
        | some q =>
          obtain ⟨r, rest⟩ := q
          simp only [Option.map_eq_some_iff, List.cons.injEq, Option.some.injEq, Prod.mk.injEq, List.length_cons,
            Nat.add_le_add_iff_right]
          constructor
          · rintro ⟨_, more, rfl, rfl⟩
            obtain ⟨few, list⟩ := ih.mp more
            exact ⟨few, rest, ⟨rfl, rfl⟩, list⟩
          · rintro ⟨few, _, ⟨rfl, rfl⟩, list⟩
            exact ⟨gs, ih.mpr ⟨few, list⟩, rfl, rfl⟩

/-- Settles O22. -/
theorem segmentBytesReadAsLaidOut : Obligations.SegmentBytesReadAsLaidOut := by
  refine ⟨fun tag n k0 k1 c trim relEnd rest long short k0Low k0High k1Fits ceilingLow trimFits => ?encoded,
    fun bytes short => ?tooShort, fun options tag l0 l1 a b rest bad => ?malformed, fun bytes segs => readSegmentsN_iff⟩
  case encoded =>
    rw [← readSegment_encoded tag relEnd rest long short k0Low k0High k1Fits ceilingLow trimFits, List.append_assoc,
      List.append_assoc, List.append_assoc, List.append_assoc]
    rfl
  case tooShort =>
    match bytes, short with
    | [], _ | [_], _ | [_, _], _ | [_, _, _], _ | [_, _, _, _], _ | [_, _, _, _, _], _ => rfl
    | _ :: _ :: _ :: _ :: _ :: _ :: _, short => simp at short; omega
  case malformed =>
    refine Option.eq_none_iff_forall_ne_some.mpr fun q read => ?_
    obtain ⟨small, long, room, low⟩ := readSegment_some read
    rcases bad with big | short | cut | ⟨present, lo, hi, more, drop, high⟩
    · omega
    · exact absurd long (Nat.not_le.mpr short)
    · omega
    · exact absurd (low present lo hi more drop) (Nat.not_le.mpr high)

end Sys2Proof.Machine
end

section
/-! PROOFS. The values of the parameters: what their bytes are, and what a write and a load make of them (R136, R138, R140,
R163, R164, R166). -/

namespace Sys2Proof.Machine

/-! ## Codes read back -/

theorem Cond.number_eq (c : Cond) : c.number = [Cond.stand, .seat, .brake, .parkbtn, .lift, .key, .still, .slow, .suspect, .locked,
    .holdStands, .leanHigh, .c0, .c1, .c2, .true_].idxOf c := by cases c <;> rfl
theorem CombinerFn.code_eq (f : CombinerFn) :
    f.code = [CombinerFn.never, .all, .any, .odd, .majority, .aOnly, .latch].idxOf f := by cases f <;> rfl
theorem CombinerAction.code_eq (a : CombinerAction) : a.code = [CombinerAction.none, .event, .lockHold].idxOf a := by
  cases a <;> rfl
theorem TripTime.code_eq (t : TripTime) :
    t.code = [TripTime.ms0, .ms20, .ms50, .ms100, .ms200, .ms500, .ms1000, .ms2000].idxOf t := by cases t <;> rfl

theorem Cond.number_lt (c : Cond) : c.number < 16 := by cases c <;> decide
theorem CombinerFn.code_lt (f : CombinerFn) : f.code < 8 := by cases f <;> decide
theorem CombinerAction.code_lt (a : CombinerAction) : a.code < 4 := by cases a <;> decide
theorem TripTime.code_lt (t : TripTime) : t.code < 8 := by cases t <;> decide

theorem Cond.ofNumber_eq_iff {n : Nat} {c : Cond} (small : n < 16) : Cond.ofNumber n = c ↔ n = c.number := by
  constructor
  · rintro rfl
    interval_cases n <;> rfl
  · rintro rfl
    cases c <;> rfl

theorem CombinerFn.ofCode_eq_iff {n : Nat} {f : CombinerFn} : CombinerFn.ofCode n = some f ↔ n = f.code := by
  constructor
  · intro h
    unfold CombinerFn.ofCode at h
    split at h <;> cases h <;> rfl
  · rintro rfl
    cases f <;> rfl

theorem CombinerAction.ofCode_eq_iff {n : Nat} {a : CombinerAction} : CombinerAction.ofCode n = some a ↔ n = a.code := by
  constructor
  · intro h
    unfold CombinerAction.ofCode at h
    split at h <;> cases h <;> rfl
  · rintro rfl
    cases a <;> rfl

theorem TripTime.ofCode_eq_iff {n : Nat} {t : TripTime} (small : n < 8) : TripTime.ofCode n = t ↔ n = t.code := by
  constructor
  · rintro rfl
    interval_cases n <;> rfl
  · rintro rfl
    cases t <;> rfl

theorem CombinerId.maySelect_iff {i : CombinerId} {c : Cond} : i.maySelect c = true ↔ c ∉ i.barred := by
  cases i <;> cases c <;> decide

/-! ## Bytes as numbers -/

theorem byteOf_self (b : Byte) : byteOf b.toNat = b := by simp [byteOf]

theorem eq_byteOf_iff {b : Byte} {n : Nat} (small : n < 256) : b = byteOf n ↔ b.toNat = n := by
  constructor
  · rintro rfl
    exact byteOf_toNat small
  · rintro rfl
    exact (byteOf_self b).symm

theorem getLsbD_eq_iff {b : Byte} {i : Nat} {v : Bool} : b.getLsbD i = v ↔ b.toNat / 2 ^ i % 2 = v.toNat := by
  rw [← Nat.toNat_testBit]
  change b.toNat.testBit i = v ↔ _
  cases b.toNat.testBit i <;> cases v <;> decide

theorem Selection.ofByte_eq_iff {b : Byte} {y : Selection} : Selection.ofByte b = some y ↔ b = y.layout := by
  obtain ⟨c, inverted⟩ := y
  have bound := c.number_lt
  have flag := Bool.toNat_le inverted
  rw [Selection.layout, ← Cond.number_eq, eq_byteOf_iff (by dsimp only; omega), Selection.ofByte]
  dsimp only
  split
  next big => exact ⟨fun h => (nomatch h), fun h => by omega⟩
  next small =>
    rw [Option.some.injEq, Selection.mk.injEq, Cond.ofNumber_eq_iff (Nat.mod_lt _ (by decide)), getLsbD_eq_iff]
    omega

/-! ## Configuration items -/

/-- The fourth byte of a combiner item. -/
theorem combinerByte_iff {b : Byte} {fn : CombinerFn} {inverted : Bool} {action : CombinerAction} :
    b = byteOf (fn.code + 8 * inverted.toNat + 16 * action.code) ↔
      b.toNat < 64 ∧ CombinerFn.ofCode (b.toNat % 8) = some fn ∧ b.getLsbD 3 = inverted ∧
        CombinerAction.ofCode (b.toNat / 16 % 4) = some action := by
  have function := fn.code_lt
  have flag := Bool.toNat_le inverted
  have act := action.code_lt
  rw [eq_byteOf_iff (by omega), CombinerFn.ofCode_eq_iff, getLsbD_eq_iff, CombinerAction.ofCode_eq_iff]
  omega

/-- The fourth byte of a trip unit item. -/
theorem tripByte_iff {b : Byte} {enabled : Bool} {time : TripTime} {severity : Severity} :
    b = byteOf (enabled.toNat + 2 * time.code + 16 * [Severity.degrade, .lockdown].idxOf severity) ↔
      b.toNat < 32 ∧ b.getLsbD 0 = enabled ∧ TripTime.ofCode (b.toNat / 2 % 8) = time ∧
        (if b.getLsbD 4 then Severity.lockdown else .degrade) = severity := by
  have flag := Bool.toNat_le enabled
  have code := time.code_lt
  have severe : (if b.getLsbD 4 then Severity.lockdown else .degrade) = severity ↔
      b.toNat / 16 % 2 = [Severity.degrade, .lockdown].idxOf severity := by
    have e := getLsbD_eq_iff (b := b) (i := 4) (v := b.getLsbD 4)
    rw [show b.toNat / 16 % 2 = (b.getLsbD 4).toNat from e.mp rfl]
    cases b.getLsbD 4 <;> cases severity <;> decide
  have index : [Severity.degrade, .lockdown].idxOf severity < 2 := by cases severity <;> decide
  rw [severe, eq_byteOf_iff (by omega), getLsbD_eq_iff, TripTime.ofCode_eq_iff (Nat.mod_lt _ (by decide))]
  omega

theorem CombinerCfg.layout_eq (x : CombinerCfg) :
    x.layout = [x.a.layout, x.b.layout, x.c.layout, byteOf (x.fn.code + 8 * x.inverted.toNat + 16 * x.action.code)] := by
  rw [CombinerCfg.layout, CombinerFn.code_eq, CombinerAction.code_eq]

theorem TripCfg.layout_eq (x : TripCfg) (third : Byte) :
    x.layout third = [x.a.layout, x.b.layout, third,
      byteOf (x.enabled.toNat + 2 * x.time.code + 16 * [Severity.degrade, .lockdown].idxOf x.severity)] := by
  rw [TripCfg.layout, TripTime.code_eq]

theorem CombinerCfg.ofBytes_eq_iff {i : CombinerId} {bytes : List Byte} {x : CombinerCfg} :
    CombinerCfg.ofBytes i bytes = some x ↔
      bytes = x.layout ∧ x.a.cond ∉ i.barred ∧ x.b.cond ∉ i.barred ∧ x.c.cond ∉ i.barred := by
  rw [CombinerCfg.layout_eq]
  constructor
  · intro h
    unfold CombinerCfg.ofBytes at h
    split at h
    next ba bb bc bf =>
      split at h
      next a b c fn action readA readB readC readFn readAction =>
        split at h
        next ok =>
          obtain rfl := Option.some.inj h
          obtain ⟨⟨⟨small, mayA⟩, mayB⟩, mayC⟩ : ((bf.toNat < 64 ∧ i.maySelect a.cond = true) ∧ i.maySelect b.cond = true) ∧
              i.maySelect c.cond = true := by simpa using ok
          refine ⟨?_, CombinerId.maySelect_iff.mp mayA, CombinerId.maySelect_iff.mp mayB, CombinerId.maySelect_iff.mp mayC⟩
          dsimp only
          rw [← Selection.ofByte_eq_iff.mp readA, ← Selection.ofByte_eq_iff.mp readB, ← Selection.ofByte_eq_iff.mp readC,
            ← combinerByte_iff.mpr ⟨small, readFn, rfl, readAction⟩]
        next => cases h
      next => cases h
    next => cases h
  · rintro ⟨rfl, mayA, mayB, mayC⟩
    obtain ⟨small, readFn, inverted, readAction⟩ := combinerByte_iff.mp (rfl : byteOf _ = byteOf (x.fn.code +
      8 * x.inverted.toNat + 16 * x.action.code))
    simp only [CombinerCfg.ofBytes, Selection.ofByte_eq_iff.mpr (rfl : x.a.layout = _),
      Selection.ofByte_eq_iff.mpr (rfl : x.b.layout = _), Selection.ofByte_eq_iff.mpr (rfl : x.c.layout = _), readFn, readAction,
      small, inverted, CombinerId.maySelect_iff.mpr mayA, CombinerId.maySelect_iff.mpr mayB, CombinerId.maySelect_iff.mpr mayC,
      decide_true, Bool.and_self, if_true]

theorem TripCfg.ofBytes_eq_iff {u : TripUnit} {bytes : List Byte} {x : TripCfg} :
    TripCfg.ofBytes u bytes = some x ↔ ∃ third, bytes = x.layout third ∧ TripCfg.thirdOf u third = some x.c := by
  constructor
  · intro h
    unfold TripCfg.ofBytes at h
    split at h
    next ba bb bc bf =>
      split at h
      next a b c readA readB readC =>
        split at h
        next small =>
          obtain rfl := Option.some.inj h
          refine ⟨bc, ?_, readC⟩
          rw [TripCfg.layout_eq]
          dsimp only
          rw [← Selection.ofByte_eq_iff.mp readA, ← Selection.ofByte_eq_iff.mp readB, ← tripByte_iff.mpr ⟨small, rfl, rfl, rfl⟩]
        next => cases h
      next => cases h
    next => cases h
  · rintro ⟨third, rfl, readC⟩
    obtain ⟨small, enabled, time, severity⟩ := tripByte_iff.mp (rfl : byteOf _ = byteOf (x.enabled.toNat + 2 * x.time.code +
      16 * [Severity.degrade, .lockdown].idxOf x.severity))
    rw [TripCfg.layout_eq]
    simp only [TripCfg.ofBytes, Selection.ofByte_eq_iff.mpr (rfl : x.a.layout = _),
      Selection.ofByte_eq_iff.mpr (rfl : x.b.layout = _), readC, small, enabled, time, severity, if_true]

/-! ## Writes of masks and items -/

theorem Params.write_mask_iff {p q : Params} {m : MaskParam} {value : List Byte} : p.write (.mask m) value = some q ↔
    ∃ n, value = [byteOf (n % 256), byteOf (n / 256)] ∧ n < 2 ^ m.width ∧ q = p.putMask m n := by
  have narrow : m.width ≤ 8 := by cases m <;> decide
  constructor
  · intro h
    obtain ⟨lo, hi, rfl, small, rfl⟩ := Params.write_mask h
    refine ⟨unsigned16 lo hi, ?_, small, rfl⟩
    have low := lo.isLt
    rw [unsigned16, show (lo.toNat + 256 * hi.toNat) % 256 = lo.toNat by omega,
      show (lo.toNat + 256 * hi.toNat) / 256 = hi.toNat by omega, byteOf_self, byteOf_self]
  · rintro ⟨n, rfl, small, rfl⟩
    have bound : n < 256 := lt_of_lt_of_le small (Nat.pow_le_pow_right (by decide) narrow)
    have read : unsigned16 (byteOf (n % 256)) (byteOf (n / 256)) = n := by
      rw [unsigned16, byteOf_toNat (by omega), byteOf_toNat (by omega)]
      omega
    rw [Params.write, read, if_pos small]

theorem Params.write_num_eq (p : Params) (x : Param) (lo hi : Byte) :
    p.write (.num x) [lo, hi] = some (p.store x (p.stored x (signed16 lo hi))) := rfl

theorem Params.write_num_of_length {p : Params} {x : Param} {value : List Byte} (h : value.length ≠ 2) :
    p.write (.num x) value = none := by
  refine Option.eq_none_iff_forall_ne_some.mpr fun q written => ?_
  obtain ⟨lo, hi, rfl, -⟩ := Params.write_num written
  exact h rfl

/-- What is stored, parameter by parameter (R164). -/
theorem Params.Valid.stored_cases {p : Params} (h : p.Valid) (x : Param) (w : Int) :
    let v := max x.range.1 (min x.range.2 w)
    (x = .vEng → p.stored x w = min v (p.vRel - 30)) ∧ (x = .vRel → p.stored x w = max v (p.vEng + 30)) ∧
    (x = .aSafe → p.stored x w = max 300 (min p.aMax v)) ∧
    (x = .lean1 → p.stored x w = max 0 (min p.lean2 v)) ∧ (x = .lean2 → p.stored x w = max p.lean1 (min p.lean3 v)) ∧
    (x = .lean3 → p.stored x w = max p.lean2 (min p.lean4 v)) ∧ (x = .lean4 → p.stored x w = max p.lean3 (min p.lean5 v)) ∧
    (x = .lean5 → p.stored x w = max p.lean4 (min p.lean6 v)) ∧ (x = .lean6 → p.stored x w = max p.lean5 (min p.lean7 v)) ∧
    (x = .lean7 → p.stored x w = max p.lean6 (min p.lean8 v)) ∧ (x = .lean8 → p.stored x w = max p.lean7 (min 4500 v)) ∧
    (x ∉ [.vEng, .vRel, .aSafe, .lean1, .lean2, .lean3, .lean4, .lean5, .lean6, .lean7, .lean8] → p.stored x w = v) := by
  intro v
  have aMax : 500 ≤ p.aMax := (h.ranges .aMax).1
  have table := h.table
  have own : x.clampOwn w = v := x.clampOwn_eq w
  rw [Params.stored, own]
  clear_value v
  refine ⟨?_, ?_, ?_, ?_, ?_, ?_, ?_, ?_, ?_, ?_, ?_, ?uncoupled⟩
  case uncoupled =>
    intro out
    cases x
    case vEng | vRel | aSafe | lean1 | lean2 | lean3 | lean4 | lean5 | lean6 | lean7 | lean8 => exact absurd (by decide) out
    all_goals rfl
  · rintro rfl; rfl
  · rintro rfl; rfl
  all_goals
    rintro rfl
    exact clamp_eq (by omega) v

/-- Settles O57. -/
theorem writesAndLoadsAreClampedAndCoupled : Obligations.WritesAndLoadsAreClampedAndCoupled := by
  refine ⟨fun p x value length => Params.write_num_of_length length, fun p q m value => ?mask, fun p q i value => ?combiner,
    fun p q u value => ?tripUnit, fun p x lo hi valid => ?numeric, fun p => ?loaded⟩
  case mask =>
    rw [Params.write_mask_iff]
    cases m <;> simp [MaskParam.width, Params.putMask]
  case combiner =>
    rw [Params.write_combiner]
    simp only [CombinerCfg.ofBytes_eq_iff, and_assoc]
    cases i <;> simp [Params.putCombiner, eq_comm]
  case tripUnit =>
    rw [Params.write_tripUnit]
    simp only [TripCfg.ofBytes_eq_iff]
    cases u
    case t1 =>
      constructor
      · rintro ⟨x, ⟨third, bytes, read⟩, rfl⟩
        exact ⟨x, third, bytes, .inl ⟨rfl, Selection.ofByte_eq_iff.mp read, rfl⟩⟩
      · rintro ⟨x, third, bytes, ⟨-, read, rfl⟩ | ⟨unit, -, -⟩⟩
        · exact ⟨x, ⟨third, bytes, Selection.ofByte_eq_iff.mpr read⟩, rfl⟩
        · cases unit
    case t2 =>
      constructor
      · rintro ⟨x, ⟨third, bytes, read⟩, rfl⟩
        exact ⟨x, third, bytes, .inr ⟨rfl, (Option.some.inj read).symm, rfl⟩⟩
      · rintro ⟨x, third, bytes, ⟨unit, -, -⟩ | ⟨-, unused, rfl⟩⟩
        · cases unit
        · exact ⟨x, ⟨third, bytes, congrArg some unused.symm⟩, rfl⟩
  case numeric =>
    refine ⟨_, p.write_num_eq x lo hi, valid.store x _, fun y other => ⟨fun lowers => ?_, fun stands => ?_⟩, ?_, ?_⟩
    · rw [Params.get_store_other p _ other, if_pos lowers, Params.get_store_same]
    · rw [Params.get_store_other p _ other, if_neg stands]
    · rw [Params.get_store_same]
      exact valid.stored_cases x _
    · obtain ⟨inputEvent, attnA, attnB, wake, combiner, tripUnit⟩ := p.store_items x (p.stored x (signed16 lo hi))
      exact ⟨inputEvent, attnA, attnB, wake, combiner, tripUnit⟩
  case loaded =>
    obtain ⟨vEng, aSafe, lean1, lean2, lean3, lean4, lean5, lean6, lean7, lean8⟩ := p.loaded_coupled
    obtain ⟨inputEvent, attnA, attnB, wake, combiner, tripUnit⟩ := p.loaded_items
    exact ⟨p.loaded_valid, p.loaded_vRel, vEng, p.loaded_aMax, aSafe, lean1, lean2, lean3, lean4, lean5, lean6, lean7, lean8,
      fun x free => p.get_loaded free, inputEvent, attnA, attnB, wake, combiner, tripUnit, by decide⟩

end Sys2Proof.Machine
end

section
/-! PROOFS. The frame of a request whose owner changes the settings or the store, and RESTORE_CAL (R166, R168). -/

namespace Sys2Proof.Machine

/-! ## The frame -/

/-- What no request's owner changes beside what its own rule names: the time, the pins, the ports, the solve's targets, the
measurements, the debounced inputs, the latch controller's clocks and the rider's side of the authority unit; the log only
grows. -/
structure Framed (s t : State) : Prop where
  now : t.now = s.now
  pending : t.pending = s.pending
  pins : t.pins = s.pins
  portA : t.portA = s.portA
  portB : t.portB = s.portB
  targets : SameTargets s t
  angles : SameAngles s t
  switches : SameSwitches s t
  latchClock : SameLatchClock s t
  records : s.log.records <+: t.log.records
  rider : { t.auth with hold := none } = { s.auth with hold := none }

theorem Framed.of {s t : State} (now : t.now = s.now := by rfl) (pending : t.pending = s.pending := by rfl)
    (pins : t.pins = s.pins := by rfl) (portA : t.portA = s.portA := by rfl) (portB : t.portB = s.portB := by rfl)
    (targets : SameTargets s t := by exact rfl) (angles : SameAngles s t := by exact ⟨rfl, rfl, rfl, rfl⟩)
    (switches : SameSwitches s t := by exact fun _ => rfl)
    (latchClock : SameLatchClock s t := by exact ⟨rfl, rfl, rfl, rfl, rfl, rfl⟩)
    (records : s.log.records <+: t.log.records := by exact List.prefix_refl _)
    (rider : { t.auth with hold := none } = { s.auth with hold := none } := by rfl) : Framed s t :=
  ⟨now, pending, pins, portA, portB, targets, angles, switches, latchClock, records, rider⟩

theorem Framed.refl (s : State) : Framed s s := .of

theorem Framed.trans {s t u : State} (h : Framed s t) (k : Framed t u) : Framed s u where
  now := k.now.trans h.now
  pending := k.pending.trans h.pending
  pins := k.pins.trans h.pins
  portA := k.portA.trans h.portA
  portB := k.portB.trans h.portB
  targets := k.targets.trans h.targets
  angles := by
    obtain ⟨a, b, c, d⟩ := h.angles
    obtain ⟨a', b', c', d'⟩ := k.angles
    exact ⟨a'.trans a, b'.trans b, c'.trans c, d'.trans d⟩
  switches i := (k.switches i).trans (h.switches i)
  latchClock := by
    obtain ⟨a, b, c, d, e, f⟩ := h.latchClock
    obtain ⟨a', b', c', d', e', f'⟩ := k.latchClock
    exact ⟨a'.trans a, b'.trans b, c'.trans c, d'.trans d, e'.trans e, f'.trans f⟩
  records := h.records.trans k.records
  rider := k.rider.trans h.rider

theorem Consequence.framed {s t : State} (c : Consequence s t) : Framed s t :=
  ⟨c.now, c.outside.pending, c.outside.pins, c.outside.portA, c.outside.portB, c.targets, c.angles, c.switches, c.latchClock,
    c.grows.1, c.rider.ended⟩

theorem Framed.requestFrame {dt : Nat} {p : Port} {s t : State} (c : Framed (s.delivered dt p) t)
    (kind ref : Byte) (status : Status) (payload : List Byte) :
    RequestFrame dt p s (t.answered p kind ref status payload) := by
  have rider := c.rider
  rw [State.delivered_eq] at c rider
  cases p
  case a => exact ⟨c.now, c.pending, c.pins, c.portB, c.targets, c.angles, c.switches, c.latchClock, c.records, rider⟩
  case b => exact ⟨c.now, c.pending, c.pins, c.portA, c.targets, c.angles, c.switches, c.latchClock, c.records, rider⟩

/-! ## Writes and settling -/

theorem Calm.settle {s t : State} (h : Calm s t) (n : s.params.noInstantTrip) (waits : s.NotWaiting) :
    Quiet s t.settle ∧ Seated s t.settle := by
  obtain ⟨quiet, seated⟩ := h n
  have n' := quiet.settings.noInstantTrip n
  exact ⟨quiet.trans (t.settle_quiet n'), seated.trans (t.settle_seated n' (waits.of_slot seated.slot))⟩

theorem State.clearStored_calm (i : CombinerId) (s : State) : Calm s (s.clearStored i) :=
  .of (.of (trips := InputUnit.setCombiner_trips ..)) .of

theorem State.clearTripUnit_calm (u : TripUnit) (s : State) : Calm s (s.clearTripUnit u) :=
  .of (.of (trips := InputUnit.setTripUnit_trips ..)) .of

theorem State.evaluateLine_calm (p : Port) (s : State) : Calm s (s.evaluateLine p) := .of

theorem State.evaluateLine_consequence (p : Port) (s : State) : Consequence s (s.evaluateLine p) :=
  .of (records := by cases p <;> exact List.prefix_refl _)

theorem notWaiting_of_free {s : State} (free : s.slot = .free) : s.NotWaiting := fun r e => by
  rw [free] at e
  cases e

/-- The set enters the working set, with its travel counted afresh. -/
def State.entered (p : Params) (s : State) : State := (s.setParams p.loaded).zeroTravel

theorem State.entered_framed (p : Params) (s : State) : Framed s (s.entered p) := .of

theorem State.load_after_entered (p : Params) (s : State) :
    Calm (s.entered p) (s.load p) ∧ Consequence (s.entered p) (s.load p) := by
  set v := s.entered p
  refine ⟨((((((((v.clearStored_calm .c0).trans (State.clearStored_calm .c1 _)).trans
      (State.clearStored_calm .c2 _)).trans (State.clearTripUnit_calm .t1 _)).trans (State.clearTripUnit_calm .t2 _)).trans
      (State.evaluateInputs_calm false s.combined _)).trans (State.evaluateLine_calm .a _)).trans
      (State.evaluateLine_calm .b _)), ?_⟩
  exact ((((((((v.clearStored_sound .c0).trans (State.clearStored_sound .c1 _)).trans
      (State.clearStored_sound .c2 _)).trans (State.clearTripUnit_sound .t1 _)).trans (State.clearTripUnit_sound .t2 _)).trans
      (State.evaluateInputs_sound false s.combined _)).consequence.trans (State.evaluateLine_consequence .a _)).trans
      (State.evaluateLine_consequence .b _))

/-! ## RESTORE_CAL (R168) -/

theorem State.holderCode_of_other {s : State} {p : Port} (other : s.heldByOther p = true) :
    s.holderCode = portCode (otherPort p) := by
  rw [State.heldByOther] at other
  rw [State.holderCode]
  cases hold : s.auth.hold with
  | none =>
    rw [hold] at other
    cases other
  | some h =>
    have ne : h.port ≠ p := by simpa [hold] using other
    cases p <;> cases port : h.port <;> simp_all [otherPort]

theorem handleRestoreCal_of_taken {p : Port} {s : State} (taken : s.slot ≠ .free) :
    handleRestoreCal p [] s = refuse s .busy [byteOf s.slot.code] := by
  have busy : s.slot.isFree = false := Bool.eq_false_iff.mpr fun free => taken (Slot.isFree_iff.mp free)
  simp [handleRestoreCal, busy, refuseBusy]

theorem handleRestoreCal_of_held {p : Port} {s : State} (free : s.slot = .free) (other : s.heldByOther p = true) :
    handleRestoreCal p [] s = refuse s .held [byteOf (portCode (otherPort p))] := by
  simp [handleRestoreCal, Slot.isFree_iff.mpr free, other, State.holderCode_of_other other]

theorem handleRestoreCal_of_notNow {p : Port} {s : State} (free : s.slot = .free) (unheld : s.heldByOther p = false)
    (cause : s.still = false ∨ s.store.factory.passes = false) : handleRestoreCal p [] s = refuse s .notNow [] := by
  rcases cause with moves | fails
  · simp [handleRestoreCal, Slot.isFree_iff.mpr free, unheld, moves]
  · simp [handleRestoreCal, Slot.isFree_iff.mpr free, unheld, fails]

theorem handleRestoreCal_of_checked {p : Port} {s : State} (free : s.slot = .free) (unheld : s.heldByOther p = false)
    (still : s.still = true) (passes : s.store.factory.passes = true) :
    handleRestoreCal p [] s = (s.restore, okAnswer []) := by
  simp [handleRestoreCal, Slot.isFree_iff.mpr free, unheld, still, passes]

/-- Settles O60. -/
theorem restoreLoadsFactory : Obligations.RestoreLoadsFactory := by
  intro dt p r s ready
  refine ⟨fun taken => ?taken, fun free other => ?held, fun free unheld cause => ?notNow,
    fun free unheld still passes instant => ?restores⟩
  case taken =>
    have e := exec_refused (c := .restoreCal dt { port := p, ref := r, payload := [] }) rfl rfl ready
      (handleRestoreCal_of_taken (by rw [State.delivered_slot]; exact taken))
    rw [State.delivered_slot] at e
    exact e
  case held =>
    exact exec_refused (c := .restoreCal dt { port := p, ref := r, payload := [] }) rfl rfl ready
      (handleRestoreCal_of_held (by rw [State.delivered_slot]; exact free) (by rw [State.delivered_heldByOther]; exact other))
  case notNow =>
    exact exec_refused (c := .restoreCal dt { port := p, ref := r, payload := [] }) rfl rfl ready
      (handleRestoreCal_of_notNow (by rw [State.delivered_slot]; exact free) (by rw [State.delivered_heldByOther]; exact unheld)
        (by rw [State.delivered_still, State.delivered_store]; exact cause))
  case restores =>
    set v := s.delivered dt p
    have store : v.store = s.store := s.delivered_store dt p
    set w := (v.setStore { v.store with source := .factory }).entered v.store.factory.set
    obtain ⟨calm, consequence⟩ := State.load_after_entered v.store.factory.set (v.setStore { v.store with source := .factory })
    have loaded : w.params = s.store.factory.set.loaded := congrArg (fun x : CalStore => x.factory.set.loaded) store
    have slot : w.slot = .free := (s.delivered_slot dt p).trans free
    obtain ⟨quiet, seated⟩ := calm.settle (by rw [loaded]; exact instant) (notWaiting_of_free slot)
    have settled : Consequence w v.restore := consequence.trans (State.settle_consequence _)
    have framed : Framed v v.restore := (Framed.trans (.of) (State.entered_framed _ _)).trans settled.framed
    refine ⟨_, exec_answered (c := .restoreCal dt { port := p, ref := r, payload := [] }) rfl rfl ready
      (handleRestoreCal_of_checked (by rw [State.delivered_slot]; exact free) (by rw [State.delivered_heldByOther]; exact unheld)
        (by rw [State.delivered_still]; exact still) (by rw [State.delivered_store]; exact passes))
      (framed.now.trans (s.delivered_now dt p)), ?_, ?_, ?_, ?_, ?_, ?_, State.answered_replied .., framed.requestFrame ..⟩
    · rw [State.answered_params]
      exact seated.params.trans loaded
    · rw [State.answered_store]
      exact settled.outside.store.trans (congrArg (fun x : CalStore => { x with source := .factory }) store)
    · rw [State.answered_speed]
      exact quiet.speed.trans (congrArg (fun x : SpeedUnit => { x with accumulator := 0 }) (s.delivered_speed dt p))
    · rw [State.answered_path]
      exact quiet.path.trans (s.delivered_path dt p)
    · rw [State.answered_slot]
      exact seated.slot.trans slot
    · rw [State.answered_inputs]
      exact quiet.trips.trans (congrArg InputUnit.trips (s.delivered_inputs dt p))

end Sys2Proof.Machine
end

section
/-! PROOFS. LOCK_DEMAND and CLEAR_TRIP (R124, R144). -/

namespace Sys2Proof.Machine

/-! ## From the owner's state to the reply's -/

/-- What is logged after the delivery is logged first since before it, and the reply logs nothing. -/
theorem LoggedFirst.answered {dt : Nat} {p : Port} {s t : State} {es : List Event} (h : LoggedFirst (s.delivered dt p) es t)
    (kind ref : Byte) (status : Status) (payload : List Byte) : LoggedFirst s es (t.answered p kind ref status payload) := by
  rw [LoggedFirst, State.delivered_log] at h
  rw [LoggedFirst, State.answered_now, State.answered_log]
  exact h

/-! ## LOCK_DEMAND (R124) -/

theorem State.answered_demandBytes (p : Port) (kind ref : Byte) (status : Status) (payload : List Byte) (s : State) :
    (s.answered p kind ref status payload).demandBytes = s.demandBytes := by
  simp [State.demandBytes, State.combined]

theorem State.demandBytes_eq (s : State) : s.demandBytes =
    [byteOf ([DemandItem.none, .lock, .permit].idxOf s.latch.itemA), byteOf ([DemandItem.none, .lock, .permit].idxOf s.latch.itemB),
      if s.combined then 1 else 0, byteOf s.latch.state.number] := by
  rw [State.demandBytes, DemandItem.code_eq, DemandItem.code_eq, LatchState.code_eq]
  cases s.combined <;> rfl

theorem LatchUnit.setItem_other (l : LatchUnit) (p : Port) (i : DemandItem) :
    (l.setItem p i).item (otherPort p) = l.item (otherPort p) := by
  cases p <;> rfl

theorem State.endPermit_item (p : Port) (s : State) :
    (s.endPermit p).latch.item p = if s.latch.item p = .permit then .none else s.latch.item p := by
  unfold State.endPermit
  split
  · exact LatchUnit.setItem_item ..
  · rfl

theorem State.endPermit_other (p : Port) (s : State) :
    (s.endPermit (otherPort p)).latch.item p = s.latch.item p := by
  unfold State.endPermit
  split
  · cases p <;> rfl
  · rfl

theorem State.demandItem_item (p : Port) (i : DemandItem) (s : State) : (s.demandItem p i).latch.item p = i := by
  unfold State.demandItem
  dsimp only
  split
  · exact (State.endPermit_other p _).trans (LatchUnit.setItem_item ..)
  · exact LatchUnit.setItem_item ..

theorem State.demandItem_other {p : Port} {i : DemandItem} {s : State} (weak : i ≠ .lock) :
    (s.demandItem p i).latch.item (otherPort p) = s.latch.item (otherPort p) := by
  rw [State.demandItem, if_neg weak]
  exact LatchUnit.setItem_other ..

theorem State.demandItem_lock_other (p : Port) (s : State) :
    (s.demandItem p .lock).latch.item (otherPort p) =
      if s.latch.item (otherPort p) = .permit then .none else s.latch.item (otherPort p) := by
  rw [State.demandItem, if_pos rfl, State.endPermit_item]
  exact congrArg (fun i : DemandItem => if i = .permit then .none else i) (LatchUnit.setItem_other s.latch p .lock)

theorem State.demandItem_eq (p : Port) (i : DemandItem) (s : State) : ∃ l, s.demandItem p i = s.setLatchUnit l := by
  unfold State.demandItem State.endPermit
  dsimp only
  split
  · split
    · exact ⟨_, rfl⟩
    · exact ⟨_, rfl⟩
  · exact ⟨_, rfl⟩

theorem State.lockRequest_calm (s : State) : Calm s s.lockRequest := .ite _ (State.beginEngage_calm .own s) (.refl s)

theorem Quiet.item {s t : State} (h : Quiet s t) (p : Port) : t.latch.item p = s.latch.item p := by
  cases p
  · exact h.itemA
  · exact h.itemB

/-- A demand that is carried out leaves the items as it sets them, and beside them the request's frame. -/
theorem exec_demand {c : Instr} {dt : Nat} {p : Port} {r : Byte} {i : DemandItem} {s u : State}
    {act : Port → State → State × Answer} (frame : c.frame? = some { port := p, ref := r, payload := [] }) (wf : c.wf = true)
    (delay : c.delay = dt) (service : requestService c = (0x14, true, demandRow act)) (ready : Ready s p)
    (instant : s.params.noInstantTrip) (handled : act p (s.delivered dt p) = demandAnswer u.settle)
    (sound : Sound ((s.delivered dt p).demandItem p i) u) (calm : Calm ((s.delivered dt p).demandItem p i) u) :
    ∃ t, exec c s = .next t ∧ t.latch.item p = i ∧
      t.latch.item (otherPort p) = ((s.delivered dt p).demandItem p i).latch.item (otherPort p) ∧
      Replied t p 0x14 r .ok t.demandBytes ∧ RequestFrame dt p s t ∧ t.path = s.path ∧ t.speed = s.speed := by
  subst delay
  set v := s.delivered c.delay p
  have asked := State.demandItem_sound p i v
  have settled : Consequence v u.settle := (asked.trans sound).consequence.trans (State.settle_consequence u)
  obtain ⟨l, item⟩ := State.demandItem_eq p i v
  have n : (v.demandItem p i).params.noInstantTrip := asked.consequence.settings.noInstantTrip
    (by rw [State.delivered_params]; exact instant)
  have quiet : Quiet (v.demandItem p i) u.settle :=
    (calm n).1.trans (u.settle_quiet ((calm n).1.settings.noInstantTrip n))
  have answered := exec_answered (t := u.settle) (a := okAnswer u.settle.demandBytes) frame wf ready
    (by rw [service]; exact handled) (settled.now.trans (s.delivered_now c.delay p))
  rw [service] at answered
  refine ⟨_, answered, ?_, ?_, ?_, settled.requestFrame .., ?_, ?_⟩
  · rw [State.answered_latch, quiet.item]
    exact State.demandItem_item p i v
  · rw [State.answered_latch, quiet.item]
  · rw [State.answered_demandBytes]
    exact State.answered_replied ..
  · rw [State.answered_path, quiet.path, item]
    exact s.delivered_path c.delay p
  · rw [State.answered_speed, quiet.speed, item]
    exact s.delivered_speed c.delay p

theorem State.permitReady_iff {s : State} {p : Port} : s.permitReady p = true ↔
    s.inputs.lift.active = true ∧ s.still = true ∧ s.grade = .none ∧ s.latch.item (otherPort p) ≠ .lock := by
  simp [State.permitReady, and_assoc]

theorem State.delivered_permitReady (dt : Nat) (p : Port) (s : State) : (s.delivered dt p).permitReady p = s.permitReady p := by
  rw [State.permitReady, State.permitReady, State.delivered_inputs, State.delivered_still, State.delivered_grade,
    State.delivered_latch]

/-- Settles O48. -/
theorem lockDemandSetsTheItem : Obligations.LockDemandSetsTheItem := by
  refine ⟨State.demandBytes_eq, fun dt p r s ready instant => ⟨?none, ?lock, fun holder lift still grade other => ?permit,
    fun holder cause => ?refused⟩⟩
  case none =>
    obtain ⟨t, e, item, other, replied, frame, path, speed⟩ := exec_demand (c := .lockDemandNone dt _) rfl rfl rfl rfl ready
      instant rfl (Sound.refl _) (Calm.refl _)
    exact ⟨t, e, item, by rw [other, State.demandItem_other (by decide), State.delivered_latch], replied, frame, path, speed⟩
  case lock =>
    obtain ⟨t, e, item, other, replied, frame, path, speed⟩ := exec_demand (c := .lockDemandLock dt _) rfl rfl rfl rfl ready
      instant rfl (State.lockRequest_sound _) (State.lockRequest_calm _)
    exact ⟨t, e, item, by rw [other, State.demandItem_lock_other, State.delivered_latch], replied, frame, path, speed⟩
  case permit =>
    have handled : demandPermit p (s.delivered dt p) = demandAnswer ((s.delivered dt p).demandItem p .permit).settle := by
      simp [demandPermit, holder, State.delivered_permitReady, State.permitReady_iff.mpr ⟨lift, still, grade, other⟩]
    obtain ⟨t, e, item, other, replied, frame, path, speed⟩ := exec_demand (c := .lockDemandPermit dt _) rfl rfl rfl rfl ready
      instant handled (Sound.refl _) (Calm.refl _)
    exact ⟨t, e, item, by rw [other, State.demandItem_other (by decide), State.delivered_latch], replied, frame, path, speed⟩
  case refused =>
    have unready : s.permitReady p = false := by
      refine Bool.eq_false_iff.mpr fun h => ?_
      obtain ⟨lift, still, grade, other⟩ := State.permitReady_iff.mp h
      simp_all
    exact exec_refused (c := .lockDemandPermit dt { port := p, ref := r, payload := [] }) rfl rfl ready
      (by simp [requestService, Instr.delay, demandRow, demandPermit, holder, State.delivered_permitReady, unready])

/-! ## CLEAR_TRIP (R144) -/

theorem State.delivered_causePresent (dt : Nat) (p : Port) (s : State) (x : TripId) :
    (s.delivered dt p).causePresent x = s.causePresent x := by
  have handlebar : (s.delivered dt p).auth.valid = s.auth.valid := by rw [State.delivered_eq, State.setAuth_auth]
  cases x <;> simp only [State.causePresent, State.suspect, State.delivered_params, State.delivered_solve, State.delivered_tilt,
    State.delivered_steer, State.delivered_speed, State.delivered_inputs, handlebar]

theorem State.delivered_presentCauses (dt : Nat) (p : Port) (s : State) :
    (s.delivered dt p).presentCauses = s.inputs.trips.filter (fun x => s.causePresent x.id) := by
  simp only [State.presentCauses, State.delivered_inputs, State.delivered_causePresent]

theorem State.presentCauses_of_absent {s : State} (absent : ∀ x ∈ s.inputs.trips, s.causePresent x.id = false) :
    s.inputs.trips.filter (fun x => s.causePresent x.id) = [] :=
  List.filter_eq_nil_iff.mpr fun x hx => Bool.eq_false_iff.mp (absent x hx)

theorem handleClearTrip_of_absent {dt : Nat} {p : Port} {s : State} (still : s.still = true)
    (absent : ∀ x ∈ s.inputs.trips, s.causePresent x.id = false) :
    handleClearTrip p [] (s.delivered dt p) = ((s.delivered dt p).clearTrips, okAnswer []) := by
  simp [handleClearTrip, still, State.delivered_presentCauses, State.presentCauses_of_absent absent]

theorem handleClearTrip_of_present {dt : Nat} {p : Port} {s : State}
    (cause : s.still = false ∨ ∃ x ∈ s.inputs.trips, s.causePresent x.id = true) :
    handleClearTrip p [] (s.delivered dt p) = refuse (s.delivered dt p) .notNow
      (byteOf (s.inputs.trips.filter (fun x => s.causePresent x.id)).length ::
        (s.inputs.trips.filter (fun x => s.causePresent x.id)).map (fun x => byteOf x.id.code)) := by
  rw [handleClearTrip, State.delivered_presentCauses, State.delivered_still, if_neg (by decide), if_neg]
  intro h
  obtain ⟨still, none⟩ := Bool.and_eq_true .. ▸ h
  rcases cause with moves | ⟨x, mem, present⟩
  · rw [moves] at still
    cases still
  · rw [List.isEmpty_iff, List.filter_eq_nil_iff] at none
    exact none x mem present

/-- Settles O34. -/
theorem clearTripEmptiesTheSet : Obligations.ClearTripEmptiesTheSet := by
  intro dt p r s ready
  refine ⟨fun still some absent instant => ?clears, fun still none => ?empty, fun cause => ?refused⟩
  case clears =>
    set v := s.delivered dt p
    set w := v.setInputs { v.inputs with trips := [] }
    have cleared : v.clearTrips = (w.logEvent .tripClear).settle :=
      if_neg (by rw [State.delivered_inputs, List.isEmpty_iff]; exact some)
    have after : Consequence w v.clearTrips := by
      rw [cleared]
      exact (State.logEvent_consequence .tripClear w).trans (State.settle_consequence _)
    have quiet : Quiet w v.clearTrips := by
      rw [cleared]
      exact Quiet.trans (t := w.logEvent .tripClear) .of (State.settle_quiet _ (by
        show v.params.noInstantTrip
        rw [State.delivered_params]
        exact instant))
    have framed : Framed v v.clearTrips := Framed.trans (t := w) .of after.framed
    have logged : LoggedFirst v [.tripClear] v.clearTrips := by
      refine .of_logEvents framed.now ?_
      rw [cleared]
      exact (State.settle_consequence (w.logEvent .tripClear)).grows.1
    have trips : v.clearTrips.inputs.trips = [] := quiet.trips
    refine ⟨v.clearTrips.answered p 0x13 r .ok [], exec_answered (c := .clearTrip dt { port := p, ref := r, payload := [] }) rfl rfl ready (handleClearTrip_of_absent still absent)
      (framed.now.trans (s.delivered_now dt p)), ?_, ?_, logged.answered .., State.answered_replied .., framed.requestFrame ..,
      ?_, ?_, ?_, ?_⟩
    · rw [State.answered_inputs]
      exact trips
    · rw [State.grade, State.answered_inputs]
      exact congrArg gradeOf trips
    · rw [SameSettings, State.answered_params, after.settings]
      exact congrArg Params.unlearned (s.delivered_params dt p)
    · rw [State.answered_store, after.outside.store]
      exact s.delivered_store dt p
    · rw [State.answered_speed, quiet.speed]
      exact s.delivered_speed dt p
    · rw [State.answered_path, quiet.path]
      exact s.delivered_path dt p
  case empty =>
    have handled := handleClearTrip_of_absent (dt := dt) (p := p) still (by rw [none]; simp)
    rw [show (s.delivered dt p).clearTrips = s.delivered dt p from
      if_pos (by rw [State.delivered_inputs, none]; rfl)] at handled
    exact exec_answered (c := .clearTrip dt { port := p, ref := r, payload := [] }) rfl rfl ready handled (s.delivered_now dt p)
  case refused =>
    exact exec_refused (c := .clearTrip dt { port := p, ref := r, payload := [] }) rfl rfl ready (handleClearTrip_of_present cause)

end Sys2Proof.Machine
end

section
/-! PROOFS. Travel credited to the path unit (R48 to R53, R56). -/

namespace Sys2Proof.Machine

/-! ## Records one after the other -/

/-- What is logged first after some events is, behind them, logged first since before them. -/
theorem LoggedFirst.behind {s u t : State} {es fs : List Event} (h : LoggedFirst u fs t) (log : u.log = (s.logEvents es).log)
    (now : t.now = s.now) : LoggedFirst s (es ++ fs) t := by
  have front : u.log.records.take 16 = (s.log.records ++ recordsAt s.now es).take 16 := log ▸ s.logEvents_take es
  have split : recordsAt s.now (es ++ fs) = recordsAt s.now es ++ recordsAt s.now fs := List.map_append
  rw [LoggedFirst, now] at h
  change (u.log.records ++ recordsAt s.now fs).take 16 <+: _ at h
  rw [LoggedFirst, now]
  change (s.log.records ++ recordsAt s.now (es ++ fs)).take 16 <+: _
  rwa [split, ← List.append_assoc, ← take_append_of_take, ← front, take_append_of_take]

/-- The front of what is logged first is logged first. -/
theorem LoggedFirst.front {s t : State} {es fs : List Event} (h : LoggedFirst s (es ++ fs) t) : LoggedFirst s es t := by
  rw [LoggedFirst, List.map_append, ← List.append_assoc, List.take_append] at h
  exact (List.prefix_append _ _).trans h

/-! ## The credit -/

theorem State.credit_zero (s : State) : s.credit 0 = s := if_pos rfl

theorem State.credit_of_dry {n : Nat} {s : State} (hold : s.auth.hold ≠ none) (queue : s.path.queue = []) (some : 0 < n) :
    s.credit n = (s.setPath { s.path with dryCount := s.path.dryCount + n }).checkDry := by
  obtain ⟨h, hold⟩ := Option.ne_none_iff_exists'.mp hold
  rw [State.credit, if_neg (by omega), hold, queue]

theorem State.credit_of_queue {n : Nat} {g : Segment} {rest : List Segment} {s : State} (hold : s.auth.hold ≠ none)
    (queue : s.path.queue = g :: rest) (some : 0 < n) : s.credit n = s.consumeCredit n := by
  obtain ⟨h, hold⟩ := Option.ne_none_iff_exists'.mp hold
  rw [State.credit, if_neg (by omega), hold, queue]

theorem State.checkDry_of_below {s : State} (below : (s.path.dryCount : Int) < s.params.dryDistance) : s.checkDry = s :=
  if_neg below.not_ge

/-- What an end of the hold leaves, in the words of R53 and R51. -/
theorem State.endHold_parts (reason : EndReason) {s : State} (hold : s.auth.hold ≠ none) :
    (s.endHold reason).auth = { s.auth with hold := none } ∧ (s.endHold reason).path = .empty ∧
      LoggedFirst s [.holdEnd reason] (s.endHold reason) := by
  obtain ⟨h, hold⟩ := Option.ne_none_iff_exists'.mp hold
  have ended := State.endHold_ended reason hold
  exact ⟨ended.auth, ended.path, ended.logged⟩

theorem State.checkDry_of_reached {s : State} (reached : s.params.dryDistance ≤ (s.path.dryCount : Int)) :
    s.checkDry = s.endHold .dry := if_pos reached

/-! ## Inside and behind the current segment -/

theorem consume_short {pos n : Nat} {g : Segment} {rest : List Segment} (short : n < g.length - pos) :
    consume pos (g :: rest) n = { done := [], queue := g :: rest, pos := pos + n, left := 0 } := if_pos short

theorem consume_long {pos n : Nat} {g : Segment} {rest : List Segment} (long : g.length - pos ≤ n) :
    consume pos (g :: rest) n =
      { consume 0 rest (n - (g.length - pos)) with done := g :: (consume 0 rest (n - (g.length - pos))).done } :=
  if_neg long.not_gt

theorem State.consumeCredit_of_short {n : Nat} {g : Segment} {rest : List Segment} {s : State}
    (queue : s.path.queue = g :: rest) (short : n < g.length - s.path.pos) :
    s.consumeCredit n = s.setPath { s.path with pos := s.path.pos + n } := by
  rw [State.consumeCredit, queue, consume_short short, ← queue]
  rfl

/-- The credit ends inside the segment behind the current one. -/
theorem State.consumeCredit_of_next {n : Nat} {g g' : Segment} {rest : List Segment} {s : State}
    (queue : s.path.queue = g :: g' :: rest) (long : g.length - s.path.pos ≤ n)
    (short : n - (g.length - s.path.pos) < g'.length) :
    s.consumeCredit n = ((s.setPath { s.path with queue := g' :: rest, pos := n - (g.length - s.path.pos) }).logEvent
      (.pathDone g.tag)).restartCeiling := by
  have next : consume 0 (g' :: rest) (n - (g.length - s.path.pos)) =
      { done := [], queue := g' :: rest, pos := n - (g.length - s.path.pos), left := 0 } := by
    rw [consume_short (by omega), Nat.zero_add]
  rw [State.consumeCredit, queue, consume_long long, next]
  rfl

/-- The credit goes on behind the segment after the current one. -/
theorem State.consumeCredit_of_longer {n : Nat} {g g' : Segment} {rest : List Segment} {s : State}
    (queue : s.path.queue = g :: g' :: rest) (long : g.length - s.path.pos ≤ n)
    (longer : g'.length ≤ n - (g.length - s.path.pos)) :
    s.consumeCredit n = ((s.setPath { s.path with queue := g' :: rest, pos := 0 }).logEvent (.pathDone g.tag)).consumeCredit
      (n - (g.length - s.path.pos)) := by
  have done : (consume 0 (g' :: rest) (n - (g.length - s.path.pos))).done ≠ [] := by
    rw [consume_long (by omega)]
    exact List.cons_ne_nil _ _
  have inner : ((s.setPath { s.path with queue := g' :: rest, pos := 0 }).logEvent (.pathDone g.tag)).path =
      { s.path with queue := g' :: rest, pos := 0 } := rfl
  rw [State.consumeCredit, State.consumeCredit, queue, consume_long long, inner]
  dsimp only
  generalize consume 0 (g' :: rest) (n - (g.length - s.path.pos)) = r at done ⊢
  obtain ⟨x, xs, cons⟩ := List.exists_cons_of_ne_nil done
  rw [cons, List.getLast?_cons_cons]
  rfl

/-- The credit reaches the end of the queue. -/
theorem State.consumeCredit_of_last {n : Nat} {g : Segment} {s : State} (queue : s.path.queue = [g])
    (long : g.length - s.path.pos ≤ n) :
    s.consumeCredit n = ((s.setPath { s.path with queue := [], pos := 0 }).logEvent (.pathDone g.tag)).ranOut g
      (n - (g.length - s.path.pos)) := by
  rw [State.consumeCredit, queue, consume_long long]
  rfl

theorem State.ranOut_of_release {g : Segment} {left : Nat} {s : State} (release : g.endRelease = true) :
    s.ranOut g left = s.endHold .done := if_pos release

theorem State.ranOut_of_dry {g : Segment} {left : Nat} {s : State} (stays : g.endRelease = false) :
    s.ranOut g left = ((s.setPath { s.path with held := some g.k1, dryCount := left, ceilingSince := none }).logEvent
      (.pathDry false)).checkDry := if_neg (ne_true_of_eq_false stays)

/-- Settles O27. -/
theorem creditConsumesTheQueue : Obligations.CreditConsumesTheQueue := by
  refine ⟨fun n s hold queue some => ?dry, fun n s g rest hold queue some => ?consumes⟩
  case dry =>
    rw [State.credit_of_dry hold queue some]
    refine ⟨fun below => State.checkDry_of_below (by exact below), fun reached => ?_⟩
    rw [State.checkDry_of_reached (by exact reached)]
    exact State.endHold_parts .dry (s := s.setPath { s.path with dryCount := s.path.dryCount + n }) hold
  case consumes =>
    rw [State.credit_of_queue hold queue some]
    refine ⟨State.consumeCredit_of_short queue, fun g' rest' next long short => ?next, fun g' rest' next long room longer => ?longer,
      fun last long stays reached => ?ends, fun last long release => ?releases, fun last long stays below => ?dries⟩
    case next =>
      subst next
      rw [State.consumeCredit_of_next queue long short]
      have fast : ((s.setPath { s.path with queue := g' :: rest', pos := n - (g.length - s.path.pos) }).logEvent
          (.pathDone g.tag)).tooFast = true ↔ ∃ c, g'.ceiling = .some c ∧ (c : Int) + s.params.overspeedMargin < s.speed.v :=
        (State.tooFast_iff _).trans (State.aboveCeiling_iff rfl)
      exact ⟨rfl, rfl, fun above => if_pos (fast.mpr above), fun below => if_neg (fun h => below (fast.mp h)), rfl, rfl⟩
    case longer =>
      subst next
      rw [State.consumeCredit_of_longer queue long longer]
      exact (State.credit_of_queue (s := (s.setPath { s.path with queue := g' :: rest', pos := 0 }).logEvent (.pathDone g.tag))
        hold rfl (by omega)).symm
    case ends =>
      subst last
      rw [State.consumeCredit_of_last queue long, State.ranOut_of_dry stays, State.checkDry_of_reached reached]
      set u := ((((s.setPath { s.path with queue := [], pos := 0 }).logEvent (.pathDone g.tag)).setPath _).logEvent
        (.pathDry false)) with hu
      obtain ⟨auth, path, logged⟩ := State.endHold_parts .dry (s := u) hold
      exact ⟨auth, path, logged.behind (es := [.pathDone g.tag, .pathDry false]) rfl (State.endHold_consequence .dry u).now⟩
    case releases =>
      subst last
      rw [State.consumeCredit_of_last queue long, State.ranOut_of_release release]
      set u := (s.setPath { s.path with queue := [], pos := 0 }).logEvent (.pathDone g.tag) with hu
      obtain ⟨auth, path, logged⟩ := State.endHold_parts .done (s := u) hold
      exact ⟨auth, path, logged.behind (es := [.pathDone g.tag]) rfl (State.endHold_consequence .done u).now⟩
    case dries =>
      subst last
      rw [State.consumeCredit_of_last queue long, State.ranOut_of_dry stays, State.checkDry_of_below below]
      exact ⟨rfl, rfl, rfl⟩

end Sys2Proof.Machine
end

section
/-! PROOFS. TAKE_HOLD: the grant of a free hold, the preemption of port B's, and the refusals (R16, R53, R54, R73 to R75). -/

namespace Sys2Proof.Machine

/-! ## The handler -/

theorem takeFlags_of_lt {b : Byte} (h : b.toNat < 2) : takeFlags [b] = some (decide (b.toNat = 1)) := if_pos h

theorem handleTakeHold_of_holder {p : Port} {b : Byte} {s : State} (flag : b.toNat < 2) (holder : s.holds p = true) :
    handleTakeHold p [b] s = (s, okAnswer [byteOf (portCode p)]) := by
  simp [handleTakeHold, takeFlags_of_lt flag, holder]

theorem handleTakeHold_of_notNow {p : Port} {b : Byte} {s : State} (flag : b.toNat < 2) (unheld : s.holds p = false)
    (cause : s.grade ≠ .none ∨ s.store.source = .defaults) : handleTakeHold p [b] s = refuse s .notNow [] := by
  simp [handleTakeHold, takeFlags_of_lt flag, unheld, cause]

theorem State.holds_of_heldByOther {p : Port} {s : State} (other : s.heldByOther p = true) :
    s.holds p = false ∧ s.auth.hold.isNone = false := by
  rw [State.heldByOther] at other
  cases hold : s.auth.hold with
  | none =>
    rw [hold] at other
    cases other
  | some h =>
    rw [hold] at other
    exact ⟨by simpa [State.holds, hold] using other, rfl⟩

theorem handleTakeHold_of_held {p : Port} {b : Byte} {s : State} (flag : b.toNat < 2) (other : s.heldByOther p = true)
    (grade : s.grade = .none) (source : s.store.source ≠ .defaults) (yields : p = .b ∨ b = 0) :
    handleTakeHold p [b] s = refuse s .held [byteOf (portCode (otherPort p))] := by
  obtain ⟨unheld, taken⟩ := State.holds_of_heldByOther other
  have stays : ¬(p = .a ∧ b.toNat = 1) := by
    rintro ⟨rfl, one⟩
    rcases yields with e | rfl
    · cases e
    · cases one
  simp only [handleTakeHold, takeFlags_of_lt flag, unheld, grade, source, taken, State.holderCode_of_other other]
  simp [stays]

theorem handleTakeHold_of_free {p : Port} {b : Byte} {s : State} (flag : b.toNat < 2) (free : s.auth.hold = none)
    (grade : s.grade = .none) (source : s.store.source ≠ .defaults) :
    handleTakeHold p [b] s = (s.grantFree p, okAnswer [byteOf (portCode p)]) := by
  have unheld : s.holds p = false := by rw [State.holds, free]; rfl
  simp [handleTakeHold, takeFlags_of_lt flag, unheld, grade, source, free]

theorem handleTakeHold_of_preempted {s : State} (other : s.heldByOther .a = true) (grade : s.grade = .none)
    (source : s.store.source ≠ .defaults) : handleTakeHold .a [1] s = (s.preempt .a, okAnswer [1]) := by
  obtain ⟨unheld, taken⟩ := State.holds_of_heldByOther other
  simp only [handleTakeHold, takeFlags_of_lt (b := 1) (by decide), unheld, grade, source, taken]
  simp [portCode, byteOf]

/-! ## The grant -/

theorem State.grant_framed (p : Port) (s : State) : Framed s (s.grant p) := .of (records := EventLog.append_prefix ..)

/-- Where nothing is withheld, no consequence moves the speed unit. -/
theorem Consequence.speed_of_settled {s t : State} (c : Consequence s t) (none : s.speed.withheld = 0) : t.speed = s.speed := by
  rcases c.speed with e | e
  · exact e
  · rw [e, ← none]

theorem State.credit_of_below {n : Nat} {s : State} (hold : s.auth.hold ≠ none) (queue : s.path.queue = [])
    (count : s.path.dryCount = 0) (below : n = 0 ∨ (n : Int) < s.params.dryDistance) :
    s.credit n = s.setPath { s.path with dryCount := n } := by
  by_cases zero : n = 0
  · rw [zero, State.credit_zero, ← count]
    rfl
  · rw [State.credit_of_dry hold queue (by omega), count, Nat.zero_add]
    exact State.checkDry_of_below (below.resolve_left zero)

theorem State.credit_of_reached {n : Nat} {s : State} (hold : s.auth.hold ≠ none) (queue : s.path.queue = [])
    (count : s.path.dryCount = 0) (some : 0 < n) (reached : s.params.dryDistance ≤ (n : Int)) :
    s.credit n = (s.setPath { s.path with dryCount := n }).endHold .dry := by
  rw [State.credit_of_dry hold queue some, count, Nat.zero_add]
  exact State.checkDry_of_reached reached

theorem State.checkDry_consequence (s : State) : Consequence s s.checkDry := (State.checkDry_sound s).consequence

theorem State.credit_consequence_of_dry {n : Nat} {s : State} (hold : s.auth.hold ≠ none) (queue : s.path.queue = []) :
    Consequence s (s.credit n) := by
  by_cases zero : n = 0
  · rw [zero, State.credit_zero]
    exact .refl s
  · rw [State.credit_of_dry hold queue (by omega)]
    exact (State.setPath_consequence _ s).trans (State.checkDry_consequence _)

/-- After the grant of a free hold nothing but consequences follow. -/
theorem State.grantFree_after (p : Port) (s : State) : Consequence (s.grant p) (s.grantFree p) :=
  ((State.announce_consequence _).trans
    (State.credit_consequence_of_dry (s := (s.grant p).announce) (Option.some_ne_none _) rfl)).trans (State.settle_consequence _)

theorem State.grantFree_framed (p : Port) (s : State) : Framed s (s.grantFree p) :=
  (State.grant_framed p s).trans (State.grantFree_after p s).framed

theorem State.grantFree_logged (p : Port) (s : State) : LoggedFirst s [.holdBegin p] (s.grantFree p) :=
  .of_logEvents (State.grantFree_framed p s).now (State.grantFree_after p s).grows.1

/-- The dry distance of the new hold is short of its limit (R16, R53). -/
theorem State.grantFree_quiet {p : Port} {s : State} (instant : s.params.noInstantTrip)
    (below : s.speed.passedAt s.now = 0 ∨ (s.speed.passedAt s.now : Int) < s.params.dryDistance) :
    Quiet ((s.grant p).setPath { PathUnit.empty with held := some s.solve.kc, dryCount := s.speed.passedAt s.now })
      (s.grantFree p) := by
  rw [State.grantFree, State.credit_of_below (s := (s.grant p).announce) (Option.some_ne_none _) rfl rfl below]
  exact Quiet.trans (t := (s.grant p).announce.setPath
    { PathUnit.empty with held := some s.solve.kc, dryCount := s.speed.passedAt s.now }) .of (State.settle_quiet _ instant)

/-- The dry distance of the new hold ends it at once (R16, R53). -/
theorem State.grantFree_ended {p : Port} {s : State} (some : 0 < s.speed.passedAt s.now)
    (reached : s.params.dryDistance ≤ (s.speed.passedAt s.now : Int)) :
    ∃ h, HoldEnded .dry h ((s.grant p).announce.setPath
      { PathUnit.empty with held := .some s.solve.kc, dryCount := s.speed.passedAt s.now }) (s.grantFree p) := by
  rw [State.grantFree, State.credit_of_reached (s := (s.grant p).announce) (Option.some_ne_none _) rfl rfl some reached]
  exact ⟨_, State.endHold_settle_ended .dry rfl⟩

theorem State.endHold_trips {reason : EndReason} {s : State} (instant : s.params.noInstantTrip) :
    (s.endHold reason).inputs.trips = s.inputs.trips := by
  unfold State.endHold
  split
  · have n := (State.dropHold_consequence reason s).settings.noInstantTrip instant
    exact ((State.handOn_calm _) n).1.trips.trans (State.dropHold_trips reason s)
  · rfl

theorem State.grantFree_trips {p : Port} {s : State} (instant : s.params.noInstantTrip) :
    (s.grantFree p).inputs.trips = s.inputs.trips := by
  by_cases below : s.speed.passedAt s.now = 0 ∨ (s.speed.passedAt s.now : Int) < s.params.dryDistance
  · exact (State.grantFree_quiet instant below).trips
  · obtain ⟨some, reached⟩ := not_or.mp below
    rw [State.grantFree, State.credit_of_reached (s := (s.grant p).announce) (Option.some_ne_none _) rfl rfl
      (Nat.pos_of_ne_zero some) (Int.not_lt.mp reached)]
    have n := (State.endHold_consequence .dry ((s.grant p).announce.setPath
      { (s.grant p).announce.path with dryCount := s.speed.passedAt s.now })).settings.noInstantTrip instant
    exact (State.settle_quiet _ n).trips.trans (State.endHold_trips instant)

theorem State.delivered_auth_of_free {dt : Nat} {p : Port} {s : State} (free : s.auth.hold = none) :
    (s.delivered dt p).auth = s.auth := by
  rw [State.delivered_eq, State.setAuth_auth, free]
  exact congrArg (fun h => { s.auth with hold := h }) free.symm

@[simp] theorem State.answered_source (p : Port) (kind ref : Byte) (status : Status) (payload : List Byte) (s : State) :
    (s.answered p kind ref status payload).source = s.source := by
  rw [State.source, State.source, State.answered_auth, State.answered_path]

@[simp] theorem State.answered_demand (p : Port) (kind ref : Byte) (status : Status) (payload : List Byte) (s : State) :
    (s.answered p kind ref status payload).demand = s.demand := by
  rw [State.demand, State.demand, State.answered_source, State.answered_auth, State.answered_path]

theorem State.source_of_dry {s : State} {h : Hold} (hold : s.auth.hold = some h) (queue : s.path.queue = []) :
    s.source = .dry := by
  rw [State.source, hold, queue]

/-- Settles O28. -/
theorem takeHoldGrantsTheHold : Obligations.TakeHoldGrantsTheHold := by
  intro dt p r b s flag ready
  refine ⟨fun holder => ?again, fun unheld cause => ?notNow, fun other grade source yields => ?held,
    fun free grade source instant => ?granted⟩
  case again =>
    exact exec_answered (c := .takeHold dt { port := p, ref := r, payload := [b] }) rfl rfl ready
      (handleTakeHold_of_holder flag ((s.delivered_holds dt p p).trans holder)) (s.delivered_now dt p)
  case notNow =>
    exact exec_refused (c := .takeHold dt { port := p, ref := r, payload := [b] }) rfl rfl ready
      (handleTakeHold_of_notNow flag ((s.delivered_holds dt p p).trans unheld)
        (by rw [State.delivered_grade, State.delivered_store]; exact cause))
  case held =>
    exact exec_refused (c := .takeHold dt { port := p, ref := r, payload := [b] }) rfl rfl ready
      (handleTakeHold_of_held flag ((s.delivered_heldByOther dt p p).trans other) ((s.delivered_grade dt p).trans grade)
        (by rw [State.delivered_store]; exact source) yields)
  case granted =>
    set v := s.delivered dt p with delivered
    have auth : v.auth = s.auth := State.delivered_auth_of_free free
    have passed : v.speed.passedAt v.now = s.speed.passedAt (s.now + dt) := by
      rw [delivered, State.delivered_speed, State.delivered_now]
    have params : v.params = s.params := s.delivered_params dt p
    have n : v.params.noInstantTrip := by rw [params]; exact instant
    have after := State.grantFree_after p v
    have framed := State.grantFree_framed p v
    have begun : (v.grant p).auth = { s.auth with
        hold := some { port := p, thetaRef := s.auth.theta, lastContact := s.now + dt, takeoverSince := none } } := by
      rw [← auth, ← s.delivered_now dt p]
      rfl
    have kc : v.solve.kc = s.solve.kc := congrArg SolveUnit.kc (s.delivered_solve dt p)
    refine ⟨(v.grantFree p).answered p 0x20 r .ok [byteOf (portCode p)],
      exec_answered (c := .takeHold dt { port := p, ref := r, payload := [b] }) rfl rfl ready
        (handleTakeHold_of_free flag (auth ▸ free) ((s.delivered_grade dt p).trans grade)
          (by rw [State.delivered_store]; exact source)) (framed.now.trans (s.delivered_now dt p)),
      fun below => ?below, fun some reached => ?reached, ?speed, (State.grantFree_logged p v).answered ..,
      State.answered_replied .., framed.requestFrame .., ?settings, ?store, ?trips⟩
    case below =>
      have quiet := State.grantFree_quiet (p := p) n (by rw [passed, params]; exact below)
      have hold := quiet.auth.trans begun
      have path : (v.grantFree p).path =
          { PathUnit.empty with held := some s.solve.kc, dryCount := s.speed.passedAt (s.now + dt) } := by
        rw [quiet.path, passed, kc]
        rfl
      have dry : (v.grantFree p).source = .dry := State.source_of_dry (congrArg AuthorityUnit.hold hold) (by rw [path]; rfl)
      refine ⟨by rw [State.answered_auth, hold], by rw [State.answered_path, path], by rw [State.answered_source, dry], ?_⟩
      rw [State.answered_demand, State.demand, dry, path]
      rfl
    case reached =>
      obtain ⟨h, ended⟩ := State.grantFree_ended (p := p) (s := v) (by rw [passed]; exact some) (by rw [passed, params]; exact reached)
      refine ⟨?_, by rw [State.answered_path, ended.path], by rw [State.answered_source, ended.source], ?_⟩
      · rw [State.answered_auth, ended.auth]
        exact congrArg (fun u : AuthorityUnit => { u with hold := none }) auth
      · exact LoggedFirst.answered (ended.logged.behind (s := v) (es := [.holdBegin p]) rfl framed.now) ..
    case speed =>
      rw [State.answered_speed, after.speed_of_settled rfl]
      exact congrArg (fun u : SpeedUnit => { u with withheld := 0, passed := none }) (s.delivered_speed dt p)
    case settings =>
      rw [SameSettings, State.answered_params, after.settings]
      exact congrArg Params.unlearned params
    case store =>
      rw [State.answered_store, after.outside.store]
      exact s.delivered_store dt p
    case trips =>
      rw [State.answered_inputs, State.grantFree_trips n]
      exact congrArg InputUnit.trips (s.delivered_inputs dt p)

/-! ## Preemption (R75) -/

theorem State.abortSession_log_of_noRoutine {s : State} (none : s.noRoutine) : s.abortSession.log = s.log := by
  unfold State.abortSession
  split
  next r e =>
    rw [State.noRoutine, e] at none
    cases none
  next x d _ => cases x <;> rfl
  next => rfl
  next => rfl

theorem State.endHoldCore_log_of_noRoutine {s : State} (h : Hold) (reason : EndReason) (none : s.noRoutine) :
    (s.endHoldCore h reason).log = (s.logEvent (.holdEnd reason)).log := by
  obtain ⟨l, -, core⟩ := State.endHoldCore_eq h reason s
  rw [core]
  exact State.abortSession_log_of_noRoutine (s := (s.logEvent (.holdEnd reason)).setPath .empty) none

/-- After the grant that preempts only consequences follow. -/
theorem State.preempt_after (p : Port) (s : State) :
    Consequence ((s.dropHold .preempted).announce.grant p) (s.preempt p) :=
  (State.announce_consequence _).trans (State.settle_consequence _)

theorem State.preempt_framed (p : Port) (s : State) : Framed s (s.preempt p) :=
  (((State.dropHold_consequence .preempted s).trans (State.announce_consequence _)).framed.trans (State.grant_framed p _)).trans
    (State.preempt_after p s).framed

theorem State.grant_auth (p : Port) (s : State) : (s.grant p).auth = { s.auth with
    hold := some { port := p, thetaRef := s.auth.theta, lastContact := s.now, takeoverSince := none } } := rfl

theorem State.grant_path (p : Port) (s : State) : (s.grant p).path = { PathUnit.empty with held := some s.solve.kc } := rfl

theorem State.grant_speed (p : Port) (s : State) : (s.grant p).speed = { s.speed with withheld := 0, passed := none } := rfl

theorem State.grant_logged {p : Port} {s t : State} (c : Consequence (s.grant p) t) : LoggedFirst s [.holdBegin p] t :=
  .of_logEvents ((State.grant_framed p s).trans c.framed).now c.grows.1

/-- What a preemption leaves (R75). -/
structure Preempted (p : Port) (s t : State) : Prop where
  framed : Framed s t
  settings : SameSettings s t
  store : t.store = s.store
  auth : t.auth = { s.auth with
    hold := some { port := p, thetaRef := s.auth.theta, lastContact := s.now, takeoverSince := none } }
  path : t.path = { PathUnit.empty with held := some s.solve.kc }
  speed : t.speed = { s.speed with withheld := 0, passed := none }
  logged : s.noRoutine → LoggedFirst s [.holdEnd .preempted, .holdBegin p] t
  permit : ∀ h, s.auth.hold = some h → t.latch.item h.port ≠ .permit

theorem Preempted.of {p : Port} {h : Hold} {s d t : State} (hold : s.auth.hold = some h) (ended : HoldEnded .preempted h s d)
    (dropped : Consequence s d) (log : s.noRoutine → d.log = (s.logEvents [.holdEnd .preempted]).log)
    (after : Consequence (d.announce.grant p) t) (quiet : Quiet (d.announce.grant p) t) : Preempted p s t := by
  have framed : Framed s t :=
    ((dropped.trans (State.announce_consequence d)).framed.trans (State.grant_framed p d.announce)).trans after.framed
  have begun : LoggedFirst d [.holdBegin p] t := State.grant_logged (s := d.announce) after
  constructor
  case framed => exact framed
  case settings => exact after.settings.trans dropped.settings
  case store => exact after.outside.store.trans dropped.outside.store
  case auth =>
    rw [quiet.auth, State.grant_auth]
    show { d.auth with hold := some { port := p, thetaRef := d.auth.theta, lastContact := d.now, takeoverSince := none } } = _
    rw [ended.auth, dropped.now]
  case path =>
    rw [quiet.path, State.grant_path]
    exact congrArg (fun k => { PathUnit.empty with held := some k }) (congrArg SolveUnit.kc dropped.targets :)
  case speed =>
    rw [quiet.speed, State.grant_speed]
    exact congrArg (fun u : SpeedUnit => { u with withheld := 0, passed := none }) ended.speed
  case logged => exact fun none => begun.behind (log none) framed.now
  case permit =>
    intro x e
    obtain rfl := Option.some.inj (hold.symm.trans e)
    rw [quiet.item]
    exact ended.permit

theorem State.grant_params (p : Port) (s : State) : (s.grant p).params = s.params := rfl

theorem State.announce_params (s : State) : s.announce.params = s.params := rfl

theorem State.announce_settle_quiet {s : State} (instant : s.params.noInstantTrip) : Quiet s s.announce.settle :=
  Quiet.trans (t := s.announce) .of (State.settle_quiet _ instant)

theorem State.preempt_preempted (p : Port) {h : Hold} {s : State} (hold : s.auth.hold = some h) (instant : s.params.noInstantTrip) :
    Preempted p s (s.preempt p) := by
  have core : s.dropHold .preempted = s.endHoldCore h .preempted := by rw [State.dropHold, hold]
  have dropped := State.dropHold_consequence .preempted s
  refine Preempted.of hold (core ▸ State.endHoldCore_ended h .preempted s) dropped
    (fun none => core ▸ State.endHoldCore_log_of_noRoutine h .preempted none) (State.preempt_after p s) ?_
  exact State.announce_settle_quiet (by
    rw [State.grant_params, State.announce_params]
    exact dropped.settings.noInstantTrip instant)

/-- Settles O29. -/
theorem portAPreemptsPortB : Obligations.PortAPreemptsPortB := by
  intro dt r h s hold port ready grade source instant noRoutine
  have holds : (s.delivered dt .a).auth.hold = some (h.refreshed .a (s.now + dt)) := State.delivered_hold hold
  have rider : { (s.delivered dt .a).auth with hold := none } = { s.auth with hold := none } := by
    rw [State.delivered_eq, State.setAuth_auth]
  have other : (s.delivered dt .a).heldByOther .a = true := by
    rw [State.delivered_heldByOther, State.heldByOther, hold]
    simp [port]
  have handled := handleTakeHold_of_preempted other ((s.delivered_grade dt .a).trans grade)
    (by rw [State.delivered_store]; exact source)
  have preempted := State.preempt_preempted .a holds (by rw [State.delivered_params]; exact instant)
  generalize (s.delivered dt .a).preempt .a = t at handled preempted
  have theta : (s.delivered dt .a).auth.theta = s.auth.theta := (congrArg AuthorityUnit.theta rider :)
  refine ⟨t.answered .a 0x20 r .ok [1],
    exec_answered (c := .takeHold dt { port := .a, ref := r, payload := [1] }) rfl rfl ready handled
      (preempted.framed.now.trans (s.delivered_now dt .a)), ?auth, ?path, ?speed, ?logged, ?permit,
    State.answered_replied .., preempted.framed.requestFrame .., ?settings, ?store⟩
  case auth =>
    rw [State.answered_auth, preempted.auth, theta, State.delivered_now]
    exact congrArg (fun u : AuthorityUnit => { u with
      hold := some { port := .a, thetaRef := s.auth.theta, lastContact := s.now + dt, takeoverSince := none } }) rider
  case path => rw [State.answered_path, preempted.path, State.delivered_solve]
  case speed => rw [State.answered_speed, preempted.speed, State.delivered_speed]
  case logged =>
    exact (preempted.logged (by rw [State.noRoutine, State.delivered_slot]; exact noRoutine)).answered ..
  case permit =>
    have permit := preempted.permit _ holds
    rw [Hold.refreshed_port, port] at permit
    rw [State.answered_latch]
    exact permit
  case settings =>
    rw [SameSettings, State.answered_params, preempted.settings, State.delivered_params]
  case store => rw [State.answered_store, preempted.store, State.delivered_store]

end Sys2Proof.Machine
end

section
/-! PROOFS. The expiries that fire their trips (R10, R85, R92, R139, R142, R143). -/

namespace Sys2Proof.Machine

/-! ## What the latch controller makes of LOCKDOWN -/

theorem State.weighUncommanded_eq (s : State) : ∃ b, s.weighUncommanded = s.setLatchUnit { s.latch with uncommanded := b } := by
  unfold State.weighUncommanded
  split
  · exact ⟨false, rfl⟩
  · exact ⟨s.latch.uncommanded, rfl⟩

theorem gradeOf_append_lockdown (trips : List Trip) (id : TripId) :
    gradeOf (trips ++ [{ id := id, severity := .lockdown }]) = .lockdown := by
  have some : (trips ++ [({ id := id, severity := .lockdown } : Trip)]).isEmpty = false := by simp
  simp [gradeOf, some]

theorem gradeOf_append_degrade {trips : List Trip} (id : TripId) (calm : gradeOf trips = .none) :
    gradeOf (trips ++ [{ id := id, severity := .degrade }]) = .degrade := by
  have empty : trips = [] := by
    rw [gradeOf] at calm
    by_contra some
    rw [if_neg (by rwa [List.isEmpty_iff])] at calm
    split at calm <;> cases calm
  subst empty
  rfl

/-- Under LOCKDOWN the latch controller has a decision to make only in the states of R117, R119 and R121. -/
theorem State.decideLatch_of_lockdown {s : State} (grave : s.grade = .lockdown)
    (other : s.latch.state ≠ .releasePreload ∧ s.latch.state ≠ .released ∧ s.latch.state ≠ .jammed) : s.decideLatch = none := by
  obtain ⟨preload, released, jammed⟩ := other
  have permit : s.permitReleases = false := by simp [State.permitReleases, grave]
  have lean : s.mayLean = false := by simp [State.mayLean, grave]
  unfold State.decideLatch
  split
  · rfl
  · split <;> simp_all

theorem State.decideLatch_of_preload {s : State} (grave : s.grade = .lockdown) (preload : s.latch.state = .releasePreload)
    (first : s.latch.first = none) : s.decideLatch = some s.abandonPreload := by
  have off : s.preloadOff = true := by simp [State.preloadOff, grave]
  simp [State.decideLatch, first, preload, off]

theorem State.hearLatch_of_silent {s : State} (silent : s.weighUncommanded.decideLatch = none) :
    s.hearLatch.log = s.log ∧ s.hearLatch.now = s.now ∧ s.hearLatch.auth = s.auth := by
  obtain ⟨b, weighed⟩ := s.weighUncommanded_eq
  have e : s.hearLatch = s.weighUncommanded.announce := by rw [State.hearLatch, silent]; rfl
  rw [e, weighed]
  exact ⟨rfl, rfl, rfl⟩

/-- A LOCKDOWN that is heard in none of those states moves nothing. -/
theorem State.hearLatch_of_lockdown {s : State} (grave : s.grade = .lockdown)
    (other : s.latch.state ≠ .releasePreload ∧ s.latch.state ≠ .released ∧ s.latch.state ≠ .jammed) :
    s.hearLatch.log = s.log ∧ s.hearLatch.now = s.now ∧ s.hearLatch.auth = s.auth := by
  refine State.hearLatch_of_silent (State.decideLatch_of_lockdown ?_ ?_)
  · obtain ⟨b, weighed⟩ := s.weighUncommanded_eq
    rw [weighed]
    exact grave
  · obtain ⟨b, weighed⟩ := s.weighUncommanded_eq
    rw [weighed]
    exact other

theorem State.takeLatch_log (l : LatchState) (s : State) : (s.takeLatch l).log = s.log := by
  unfold State.takeLatch
  dsimp only
  split <;> rfl

theorem State.takeLatch_auth (l : LatchState) (s : State) : (s.takeLatch l).auth = s.auth := by
  unfold State.takeLatch
  dsimp only
  split <;> rfl

theorem State.setLatch_log (l : LatchState) (s : State) : (s.setLatch l).log = (s.logEvent (.lockState l)).log :=
  State.takeLatch_log l _

theorem State.abandonPreload_log (s : State) : s.abandonPreload.log = (s.logEvent (.lockState .engaged)).log :=
  State.setLatch_log .engaged _

theorem State.abandonPreload_auth (s : State) : s.abandonPreload.auth = s.auth := State.takeLatch_auth .engaged _

/-- A LOCKDOWN that is heard in a preload abandons it (R117). -/
theorem State.hearLatch_of_preload {s : State} (grave : s.grade = .lockdown) (preload : s.latch.state = .releasePreload)
    (first : s.latch.first = none) :
    s.hearLatch.log = (s.logEvent (.lockState .engaged)).log ∧ s.hearLatch.now = s.now ∧ s.hearLatch.auth = s.auth := by
  obtain ⟨b, weighed⟩ := s.weighUncommanded_eq
  have decided : s.weighUncommanded.decideLatch = some s.weighUncommanded.abandonPreload := by
    rw [weighed]
    exact State.decideLatch_of_preload grave preload first
  have e : s.hearLatch = s.weighUncommanded.abandonPreload.announce := by rw [State.hearLatch, decided]; rfl
  have announced : s.hearLatch.log = s.weighUncommanded.abandonPreload.log ∧
      s.hearLatch.auth = s.weighUncommanded.abandonPreload.auth := by
    rw [e]
    exact ⟨rfl, rfl⟩
  rw [weighed] at announced
  exact ⟨announced.1.trans (State.abandonPreload_log _), (State.hearLatch_consequence s).now,
    announced.2.trans (State.abandonPreload_auth _)⟩

/-! ## A trip that fires (R142, R143) -/

/-- SAFE entry as the authority unit hears of it. -/
def State.enterSafe (s : State) : State := (s.dropHold .safe).abortSession.announce

theorem State.enterSafe_consequence (s : State) : Consequence s s.enterSafe :=
  ((State.dropHold_consequence .safe s).trans (State.abortSession_consequence _)).trans (State.announce_consequence _)

theorem State.enterSafe_unheld (s : State) : s.enterSafe.auth.hold = none :=
  ((State.abortSession_consequence _).trans (State.announce_consequence _)).unheld (State.dropHold_hold .safe s)

theorem State.enterSafe_logged {s t : State} (hold : s.auth.hold ≠ none) (c : Consequence s.enterSafe t) :
    LoggedFirst s [.holdEnd .safe] t := by
  obtain ⟨h, hold⟩ := Option.ne_none_iff_exists'.mp hold
  have core : s.dropHold .safe = s.endHoldCore h .safe := by rw [State.dropHold, hold]
  have ended : LoggedFirst s [.holdEnd .safe] (s.dropHold .safe) := by
    rw [core]
    exact (State.endHoldCore_ended h .safe s).logged
  exact ended.grows (((State.abortSession_consequence _).trans (State.announce_consequence _)).trans c)

theorem State.handGrade_of_calm {s : State} : s.handGrade .none =
    (if s.grade = .lockdown then s.hearLatch else s).enterSafe := by
  simp [State.handGrade, State.enterSafe]

theorem State.handGrade_of_safe {old : Grade} {s : State} (safe : old ≠ .none) :
    s.handGrade old = if old ≠ .lockdown && s.grade = .lockdown then s.hearLatch else s := if_neg safe

theorem State.addTrip_logged {id : TripId} {sev : Severity} {s t : State} (c : Consequence (s.addTrip id sev) t) :
    LoggedFirst s [.trip id] t :=
  .of_logEvents (c.now.trans (State.addTrip_consequence id sev s).now) c.grows.1

theorem State.addTrip_grade_lockdown (id : TripId) (s : State) : (s.addTrip id .lockdown).grade = .lockdown :=
  gradeOf_append_lockdown s.inputs.trips id

theorem State.addTrip_grade_degrade (id : TripId) {s : State} (calm : s.grade = .none) :
    (s.addTrip id .degrade).grade = .degrade := gradeOf_append_degrade id calm

theorem State.fireTrip_of_fresh {id : TripId} {sev : Severity} {s : State} (fresh : ∀ x ∈ s.inputs.trips, x.id ≠ id) :
    s.fireTrip id sev = (s.addTrip id sev).handGrade s.grade :=
  if_neg (by simpa using fresh)

/-- At SAFE entry, where the latch controller has nothing to do first, the hold ends right behind the trip (R143). -/
theorem State.fireTrip_ended {id : TripId} {sev : Severity} {s t : State} (fresh : ∀ x ∈ s.inputs.trips, x.id ≠ id)
    (calm : s.grade = .none) (hold : s.auth.hold ≠ none) (c : Consequence (s.fireTrip id sev) t)
    (deaf : sev = .degrade ∨ (s.latch.state ≠ .releasePreload ∧ s.latch.state ≠ .released ∧ s.latch.state ≠ .jammed)) :
    LoggedFirst s [.trip id, .holdEnd .safe] t := by
  rw [State.fireTrip_of_fresh fresh, calm, State.handGrade_of_calm] at c
  have heard : ∃ w, Consequence (State.enterSafe w) t ∧ w.log = (s.logEvent (.trip id)).log ∧ w.now = s.now ∧ w.auth = s.auth := by
    cases sev with
    | degrade =>
      rw [State.addTrip_grade_degrade id calm, if_neg (by decide)] at c
      exact ⟨_, c, rfl, rfl, rfl⟩
    | lockdown =>
      rw [State.addTrip_grade_lockdown, if_pos rfl] at c
      obtain ⟨log, now, auth⟩ := State.hearLatch_of_lockdown (State.addTrip_grade_lockdown id s)
        (deaf.resolve_left (by decide))
      exact ⟨_, c, log, now, auth⟩
  obtain ⟨w, c, log, now, auth⟩ := heard
  exact (State.enterSafe_logged (auth ▸ hold) c).behind (es := [.trip id]) log
    ((c.now.trans (State.enterSafe_consequence w).now).trans now)

/-- A new LOCKDOWN abandons a preload before anything else (R117, R143). -/
theorem State.fireTrip_abandoned {id : TripId} {s t : State} (fresh : ∀ x ∈ s.inputs.trips, x.id ≠ id)
    (new : s.grade ≠ .lockdown) (preload : s.latch.state = .releasePreload) (first : s.latch.first = none)
    (c : Consequence (s.fireTrip id .lockdown) t) :
    LoggedFirst s (.trip id :: .lockState .engaged :: if s.grade = .none ∧ s.auth.hold.isSome then [.holdEnd .safe] else []) t := by
  rw [State.fireTrip_of_fresh fresh] at c
  obtain ⟨log, now, auth⟩ := State.hearLatch_of_preload (State.addTrip_grade_lockdown id s) (s := s.addTrip id .lockdown) preload first
  have front : (s.addTrip id .lockdown).hearLatch.log = (s.logEvents [.trip id, .lockState .engaged]).log := log
  by_cases calm : s.grade = .none
  · rw [calm, State.handGrade_of_calm, State.addTrip_grade_lockdown, if_pos rfl] at c
    have time : t.now = s.now := (c.now.trans (State.enterSafe_consequence _).now).trans now
    by_cases hold : s.auth.hold.isSome = true
    · rw [if_pos ⟨calm, hold⟩]
      refine (State.enterSafe_logged (s := (s.addTrip id .lockdown).hearLatch) ?_ c).behind
        (es := [.trip id, .lockState .engaged]) front time
      rw [auth]
      exact Option.isSome_iff_ne_none.mp hold
    · rw [if_neg (fun h => hold h.2)]
      refine .of_logEvents time ?_
      rw [← front]
      exact ((State.enterSafe_consequence _).trans c).grows.1
  · rw [State.handGrade_of_safe calm, State.addTrip_grade_lockdown, if_pos (by simp [new])] at c
    rw [if_neg (fun h => calm h.1)]
    refine .of_logEvents (c.now.trans now) ?_
    rw [← front]
    exact c.grows.1

/-- A trip that was not in the set has fired, and what else the command does are consequences. -/
theorem State.fireTrip_fired {id : TripId} {sev : Severity} {s t : State} (fresh : ∀ x ∈ s.inputs.trips, x.id ≠ id)
    (c : Consequence (s.fireTrip id sev) t) : TripFired id sev s t where
  trips := by
    refine List.IsPrefix.trans ?_ c.grows.2
    rw [State.fireTrip_of_fresh fresh]
    exact (State.handGrade_consequence s.grade (s.addTrip id sev)).grows.2
  logged := by
    rw [State.fireTrip_of_fresh fresh] at c
    exact State.addTrip_logged ((State.handGrade_consequence _ _).trans c)
  entry calm := by
    rw [State.fireTrip_of_fresh fresh, calm, State.handGrade_of_calm] at c
    exact c.unheld (State.enterSafe_unheld _)
  ended calm hold deaf := State.fireTrip_ended fresh calm hold c deaf
  abandoned new lockdown preload first := by
    subst lockdown
    exact State.fireTrip_abandoned fresh new preload first c

/-- The trips, the log, the hold and the latch are all that the firing of a trip reads. -/
theorem TripFired.of_same {id : TripId} {sev : Severity} {s u t : State} (h : TripFired id sev u t)
    (trips : u.inputs.trips = s.inputs.trips) (log : u.log = s.log) (hold : u.auth.hold = s.auth.hold)
    (latch : u.latch = s.latch) : TripFired id sev s t := by
  have grade : u.grade = s.grade := congrArg gradeOf trips
  constructor
  · rw [← trips]
    exact h.trips
  · have e := h.logged
    rwa [LoggedFirst, log] at e
  · rw [← grade]
    exact h.entry
  · have e := h.ended
    rw [grade, hold, latch] at e
    simp only [LoggedFirst, log] at e
    exact e
  · have e := h.abandoned
    rw [grade, hold, latch] at e
    simp only [LoggedFirst, log] at e
    exact e

/-! ## The expiries -/

theorem reached_of_le {e limit now : Nat} (due : e + limit ≤ now) : reached (some e) limit now = true := reached_some.mpr due

/-- A trip that fires in the settling of a command. -/
theorem State.fireTrip_settled {id : TripId} {sev : Severity} {s : State} (fresh : ∀ x ∈ s.inputs.trips, x.id ≠ id) :
    TripFired id sev s (s.fireTrip id sev).settle ∧ Consequence s (s.fireTrip id sev).settle :=
  ⟨State.fireTrip_fired fresh (State.settle_consequence _), (State.fireTrip_consequence id sev s).trans (State.settle_consequence _)⟩

theorem State.trackFires_of_due {x : Axis} {e : Nat} {s : State} (mode : (s.axis x).mode = .track)
    (drive : x = .tilt → s.latch.state ≠ .engaged ∧ s.latch.state ≠ .jammed) (valid : (s.axis x).valid = true)
    (unfired : (s.axis x).trackFired = false) (since : (s.axis x).trackSince = some e) (due : e + 300000 ≤ s.now) :
    s.trackFires x = true := by
  have on : s.driveOn x = true := by
    cases x with
    | steer => rfl
    | tilt =>
      obtain ⟨engaged, jammed⟩ := drive rfl
      simp [State.driveOn, LatchUnit.tiltDriveOn, engaged, jammed]
  have timed : reached (s.axis x).trackSince trackLimit s.now = true := by
    rw [since]
    exact reached_of_le due
  simp [State.trackFires, mode, on, valid, unfired, timed]

theorem State.setAxis_inputs (x : Axis) (a : AxisCtl) (s : State) : (s.setAxis x a).inputs = s.inputs := by cases x <;> rfl
theorem State.setAxis_auth (x : Axis) (a : AxisCtl) (s : State) : (s.setAxis x a).auth = s.auth := by cases x <;> rfl

/-- Settles O33. -/
theorem expiriesFireTheirTrips : Obligations.ExpiriesFireTheirTrips := by
  intro dt e s come
  refine ⟨fun suspect since due fresh => ?speed, fun since due fresh => ?handlebar,
    fun x mode drive valid unfired since due fresh => ?track, fun u unfired since due fresh => ?unit, rfl, rfl⟩
  case speed =>
    set u := (s.advance dt).setSpeed { s.speed with suspectSince := none }
    obtain ⟨fired, c⟩ := State.fireTrip_settled (sev := .degrade) (s := u) fresh
    have due' : ((s.advance dt).suspect && reached s.speed.suspectSince suspectLimit (s.now + dt)) = true := by
      rw [since, show reached (some e) suspectLimit (s.now + dt) = true from reached_of_le due, Bool.and_true]
      exact decide_eq_true suspect
    refine ⟨(u.fireTrip .speed .degrade).settle, if_pos due', fired.of_same rfl rfl rfl rfl, ?_,
      ⟨c.outside.pending, c.outside.pins, c.outside.portA, c.outside.portB, c.outside.store⟩, c.targets, c.angles, c.switches,
      c.settings⟩
    rcases c.speed with same | same <;> rw [same] <;> rfl
  case handlebar =>
    set u := (s.advance dt).setAuth { s.auth with riderDemand := 0, dropoutSince := none, dropoutFired := true }
    obtain ⟨fired, c⟩ := State.fireTrip_settled (sev := .degrade) (s := u) fresh
    have due' : reached s.auth.dropoutSince dropoutLimit (s.now + dt) = true := by
      rw [since]
      exact reached_of_le due
    refine ⟨(u.fireTrip .handlebar .degrade).settle, if_pos due', fired.of_same rfl rfl rfl rfl, ?_, ?_, ?_,
      ⟨c.outside.pending, c.outside.pins, c.outside.portA, c.outside.portB, c.outside.store⟩, c.speed, c.targets, c.angles,
      c.switches, c.settings⟩
    all_goals rcases c.rider with same | same <;> rw [same] <;> rfl
  case track =>
    set u := (s.advance dt).setAxis x { s.axis x with trackFired := true }
    have inputs : u.inputs = s.inputs := State.setAxis_inputs ..
    obtain ⟨fired, c⟩ := State.fireTrip_settled (sev := (trackTrip x).2) (s := u) (inputs ▸ fresh)
    have due' := State.trackFires_of_due (s := s.advance dt) mode drive valid unfired since due
    exact ⟨_, if_pos due', fired.of_same (congrArg InputUnit.trips inputs) (State.setAxis_log ..)
      (congrArg AuthorityUnit.hold (State.setAxis_auth ..)) (State.setAxis_latch ..),
      (State.setAxis_consequence x { s.axis x with trackFired := true } (s.advance dt) rfl rfl).trans c⟩
  case unit =>
    set u' := (s.advance dt).setInputs (s.inputs.setTripUnit u { s.inputs.tripUnit u with fired := true })
    have trips : u'.inputs.trips = s.inputs.trips := InputUnit.setTripUnit_trips ..
    obtain ⟨fired, c⟩ := State.fireTrip_settled (sev := (s.params.tripUnit u).severity) (s := u') (trips ▸ fresh)
    have due' : (s.advance dt).tripUnitFires u = true := by
      show (!(s.inputs.tripUnit u).fired && reached (s.inputs.tripUnit u).since _ (s.now + dt)) = true
      rw [unfired, since]
      exact reached_of_le due
    exact ⟨_, if_pos due', fired.of_same trips rfl rfl rfl, (State.setTripUnit_consequence u _ (s.advance dt)).trans c⟩

end Sys2Proof.Machine
end

section
/-! PROOFS. What stands while nothing is held or under way, what a hand-on changes where no combiner acts, and SOFT_RESTART
(R161). -/

namespace Sys2Proof.Machine

/-! ## A vacant part -/

/-- From a vacant state, the working set and the tilt mode stand, and the state stays vacant. -/
def Rests (s t : State) : Prop := s.Vacant → t.Vacant ∧ t.params = s.params ∧ t.tilt.mode = s.tilt.mode

theorem Rests.refl (s : State) : Rests s s := fun v => ⟨v, rfl, rfl⟩

theorem Rests.trans {s t u : State} (h : Rests s t) (k : Rests t u) : Rests s u := fun v => by
  obtain ⟨vacant, params, mode⟩ := h v
  obtain ⟨vacant', params', mode'⟩ := k vacant
  exact ⟨vacant', params'.trans params, mode'.trans mode⟩

theorem Rests.ite {s a b : State} (c : Prop) [Decidable c] (h : Rests s a) (k : Rests s b) :
    Rests s (if c then a else b) := by split <;> assumption

/-- An update of the input unit. -/
theorem State.setInputs_rests (u : InputUnit) (s : State) : Rests s (s.setInputs u) := fun v => ⟨⟨v.hold, v.slot⟩, rfl, rfl⟩

theorem LatchMove.rests {s t : State} (h : LatchMove s t) : Rests s t := fun v =>
  ⟨⟨h.auth ▸ v.hold, h.slot ▸ v.slot⟩, h.params, h.tilt_mode⟩

theorem State.handGrade_rests (old : Grade) (s : State) : Rests s (s.handGrade old) := by
  unfold State.handGrade
  refine .trans (t := if old ≠ .lockdown && s.grade = .lockdown then s.hearLatch else s)
    (.ite _ (State.hearLatch_latchMove s).rests (.refl s)) (.ite _ (fun v => ?_) (.refl _))
  rw [v.dropHold, v.abortSession]
  exact (State.announce_latchMove _).rests v

theorem State.fireTrip_rests (id : TripId) (sev : Severity) (s : State) : Rests s (s.fireTrip id sev) :=
  .ite _ (.refl s) (.trans (t := s.addTrip id sev) (fun v => ⟨⟨v.hold, v.slot⟩, rfl, rfl⟩) (State.handGrade_rests _ _))

theorem State.evaluateCombiner_rests (q : Bool) (i : CombinerId) (s : State) : Rests s (s.evaluateCombiner q i) := by
  unfold State.evaluateCombiner
  exact .trans (State.setInputs_rests (s.inputs.setCombiner i _) s) (.ite _ (State.logEvent_latchMove _ _).rests (.refl _))

theorem State.evaluateTripUnit_rests (x : TripUnit) (s : State) : Rests s (s.evaluateTripUnit x) := by
  unfold State.evaluateTripUnit
  refine .trans (State.setInputs_rests (s.inputs.setTripUnit x _) s) (.ite _ ?_ (.refl _))
  unfold State.fireTripUnit
  exact .trans (State.setInputs_rests _ _) (State.fireTrip_rests _ _ _)

theorem State.evaluateInputs_rests (q old : Bool) (s : State) : Rests s (s.evaluateInputs q old) := by
  have combiners : Rests s (s.evaluateCombiners q old) := by
    have h := ((State.evaluateCombiner_rests q .c0 s).trans (State.evaluateCombiner_rests q .c1 _)).trans
      (State.evaluateCombiner_rests q .c2 _)
    exact .ite _ (h.trans (State.hearLatch_latchMove _).rests) h
  exact (combiners.trans (State.evaluateTripUnit_rests .t1 _)).trans (State.evaluateTripUnit_rests .t2 _)

theorem State.handOnN_rests (k : Nat) (s : State) : Rests s (s.handOnN k) := by
  induction k generalizing s with
  | zero => exact .refl s
  | succ k ih =>
    unfold State.handOnN
    split
    · exact .refl s
    · next x rest _ =>
      refine .trans (.trans (State.setInputs_rests { s.inputs with changes := rest } s) ?_) (ih _)
      exact .trans (State.setInputs_rests _ _) (State.evaluateInputs_rests _ _ _)

theorem State.settleN_rests (k : Nat) (s : State) : Rests s (s.settleN k) := by
  induction k generalizing s with
  | zero => exact (State.handOnN_rests 32 s).trans (State.restPreload_latchMove _).rests
  | succ k ih =>
    have heard : Rests s s.handOn.weighUncommanded :=
      (State.handOnN_rests 32 s).trans (State.weighUncommanded_latchMove _).rests
    unfold State.settleN
    dsimp only
    split
    · next h => exact (heard.trans (State.decideLatch_latchMove h).rests).trans (ih _)
    · intro v
      rw [(heard v).1.routineReady]
      exact heard v

/-- Settling a vacant part moves neither the working set nor the tilt mode. -/
theorem State.settle_rests (s : State) : Rests s s.settle := State.settleN_rests 8 s

/-! ## The ends of sessions and of the hold -/

@[simp] theorem State.leaveSession_params (x : Axis) (s : State) : (s.leaveSession x).params = s.params := by cases x <;> rfl

theorem State.abortSession_params (s : State) : s.abortSession.params = s.params := by
  unfold State.abortSession
  split
  next r _ => simp [State.finishRoutine_aborted, State.logEvent, State.setResult, State.setDrive]
  next x _ _ => simp [State.finishService, State.setDrive]
  next => rfl
  next => rfl

theorem State.dropHold_params (reason : EndReason) (s : State) : (s.dropHold reason).params = s.params := by
  unfold State.dropHold
  split
  next => rfl
  next h _ =>
    rw [State.endHoldCore, State.endPermit_params]
    exact State.abortSession_params _

theorem State.dropHold_vacant {reason : EndReason} {s : State} (hold : s.auth.hold ≠ none) : (s.dropHold reason).Vacant := by
  obtain ⟨h, hold⟩ := Option.ne_none_iff_exists'.mp hold
  rw [State.dropHold, hold]
  exact State.endHoldCore_vacant h reason s

theorem State.endHold_of_some {reason : EndReason} {s : State} (hold : s.auth.hold ≠ none) :
    s.endHold reason = (s.dropHold reason).handOn := if_pos (Option.isSome_iff_ne_none.mpr hold)

theorem State.endHold_params (reason : EndReason) (s : State) : (s.endHold reason).params = s.params := by
  by_cases hold : s.auth.hold = none
  · rw [State.endHold_of_none hold]
  · rw [State.endHold_of_some hold]
    obtain ⟨-, params, -⟩ := State.handOnN_rests 32 _ (State.dropHold_vacant (reason := reason) hold)
    exact params.trans (State.dropHold_params reason s)

/-- An abort leaves the slot free unless store programming has it (R96). -/
theorem State.abortSession_free {s : State} (idle : s.slot.programming = false) : s.abortSession.slot = .free := by
  unfold State.abortSession
  split
  next => rfl
  next => rfl
  next e => exact e
  next n e =>
    rw [e] at idle
    cases idle

theorem State.endHoldCore_free {h : Hold} {reason : EndReason} {s : State} (idle : s.slot.programming = false) :
    (s.endHoldCore h reason).slot = .free := by
  obtain ⟨l, -, core⟩ := State.endHoldCore_eq h reason s
  rw [core]
  exact State.abortSession_free (s := (s.logEvent (.holdEnd reason)).setPath .empty) idle

theorem State.endHold_idle {reason : EndReason} {s : State} (idle : s.slot.programming = false) :
    (s.endHold reason).slot.programming = false := by
  cases hold : s.auth.hold with
  | none => rwa [State.endHold_of_none hold]
  | some h =>
    rw [State.endHold_of_hold hold, (State.handOn_inert _ (State.endHoldCore_vacant h reason s)).slot,
      State.endHoldCore_free idle]
    rfl

/-! ## Where no combiner acts -/

/-- No combiner has an action (R137). -/
def Params.noActions (p : Params) : Prop := ∀ i, (p.combiner i).action = .none

theorem State.combined_of_noActions {s : State} (none : s.params.noActions) : s.combined = false := by
  have a : s.params.c0.action = .none := none .c0
  have b : s.params.c1.action = .none := none .c1
  have c : s.params.c2.action = .none := none .c2
  simp [State.combined, a, b, c]

theorem State.evaluateCombiner_of_noActions {i : CombinerId} {u : InputUnit} {s : State} (q : Bool) (none : s.params.noActions) :
    (s.setInputs u).evaluateCombiner q i =
      s.setInputs (u.setCombiner i (u.evaluate (s.params.combiner i) (u.combiner i))) := by
  unfold State.evaluateCombiner
  exact if_neg (by simp [none i])

theorem State.evaluateTripUnit_of_noInstantTrip {x : TripUnit} {u : InputUnit} {s : State}
    (instant : s.params.noInstantTrip) :
    (s.setInputs u).evaluateTripUnit x =
      s.setInputs (u.setTripUnit x (u.readTripUnit x (s.params.tripUnit x) s.now)) := by
  unfold State.evaluateTripUnit
  refine if_neg fun fires => ?_
  simp only [Bool.and_eq_true, decide_eq_true_eq] at fires
  exact absurd fires.2 (instant x (InputUnit.readTripUnit_enabled _ _ _ _ fires.1.1))

/-- An evaluation where nothing acts and no trip fires at once changes the input unit alone. -/
theorem State.evaluateInputs_of_noActions {s : State} (q : Bool) (none : s.params.noActions)
    (instant : s.params.noInstantTrip) :
    ∃ u : InputUnit, s.evaluateInputs q s.combined = s.setInputs u ∧ u.trips = s.inputs.trips := by
  have evaluated : ((s.evaluateCombiner q .c0).evaluateCombiner q .c1).evaluateCombiner q .c2 =
      s.setInputs (s.inputs.evaluated s.params) := by
    rw [show s.evaluateCombiner q .c0 = (s.setInputs s.inputs).evaluateCombiner q .c0 from rfl,
      State.evaluateCombiner_of_noActions q none, State.evaluateCombiner_of_noActions q none,
      State.evaluateCombiner_of_noActions q none]
    rfl
  have combiners : s.evaluateCombiners q s.combined = s.setInputs (s.inputs.evaluated s.params) := by
    rw [State.evaluateCombiners, evaluated, State.combined_of_noActions none,
      State.combined_of_noActions (s := s.setInputs (s.inputs.evaluated s.params)) none]
    rfl
  rw [State.evaluateInputs, combiners, State.evaluateTripUnit_of_noInstantTrip instant,
    State.evaluateTripUnit_of_noInstantTrip instant]
  exact ⟨_, rfl, (InputUnit.setTripUnit_trips ..).trans (InputUnit.setTripUnit_trips ..)⟩

/-- Where nothing acts and no trip fires at once, handing conditions on changes the input unit alone. -/
theorem State.handOnN_of_noActions (k : Nat) {s : State} (none : s.params.noActions) (instant : s.params.noInstantTrip) :
    ∃ u : InputUnit, s.handOnN k = s.setInputs u ∧ u.trips = s.inputs.trips := by
  induction k generalizing s with
  | zero => exact ⟨s.inputs, rfl, rfl⟩
  | succ k ih =>
    unfold State.handOnN
    split
    · exact ⟨s.inputs, rfl, rfl⟩
    · next x rest _ =>
      set w := (s.setChanges rest).setInputs { (s.setChanges rest).inputs with conds := s.inputs.conds.put x.1 x.2 } with taken
      have combined : (s.setChanges rest).combined = w.combined := rfl
      obtain ⟨u, e, trips⟩ := State.evaluateInputs_of_noActions (s := w) false none instant
      have took : (s.setChanges rest).takeCond x.1 x.2 = s.setInputs u := by
        show w.evaluateInputs false (s.setChanges rest).combined = _
        rw [combined, e]
        rfl
      rw [took]
      obtain ⟨u', e', trips'⟩ := ih (s := s.setInputs u) none instant
      exact ⟨u', e', trips'.trans trips⟩

theorem State.handOn_log_of_noActions {s : State} (none : s.params.noActions) (instant : s.params.noInstantTrip) :
    s.handOn.log = s.log := by
  obtain ⟨u, e, -⟩ := State.handOnN_of_noActions 32 none instant
  rw [State.handOn, e]
  rfl

/-- The end of a hold outside routines logs HOLD_END alone, where no combiner acts and no trip fires at once. -/
theorem State.endHold_log {reason : EndReason} {s : State} (hold : s.auth.hold ≠ none) (noRoutine : s.noRoutine)
    (none : s.params.noActions) (instant : s.params.noInstantTrip) :
    (s.endHold reason).log = (s.logEvent (.holdEnd reason)).log := by
  have params := State.dropHold_params reason s
  rw [State.endHold_of_some hold, State.handOn_log_of_noActions (params ▸ none) (params ▸ instant)]
  obtain ⟨h, hold⟩ := Option.ne_none_iff_exists'.mp hold
  rw [State.dropHold, hold]
  exact State.endHoldCore_log_of_noRoutine h reason noRoutine

/-! ## SOFT_RESTART (R161) -/

/-- The part as SOFT_RESTART leaves it before START is logged and the command settles. -/
def State.restarted (s : State) : State := ((s.endHold .restart).abortSession).axesOff.seedAll

theorem State.softRestart_eq (s : State) : s.softRestart = (s.restarted.logEvent .startSoft).settle := rfl

theorem State.restarted_ended (s : State) : Consequence s (s.endHold .restart).abortSession :=
  (State.endHold_consequence .restart s).trans (State.abortSession_consequence _)

theorem State.axesOff_seedAll_framed (s : State) : Framed s s.axesOff.seedAll := .of

theorem State.restarted_framed (s : State) : Framed s s.restarted :=
  s.restarted_ended.framed.trans (State.axesOff_seedAll_framed _)

theorem State.restarted_store (s : State) : s.restarted.store = s.store := s.restarted_ended.outside.store

theorem State.restarted_params (s : State) : s.restarted.params = s.params :=
  (State.abortSession_params (s.endHold .restart)).trans (State.endHold_params .restart s)

theorem State.restarted_hold (s : State) : s.restarted.auth.hold = none :=
  (State.abortSession_consequence (s.endHold .restart)).unheld (State.endHold_hold .restart s)

theorem State.restarted_slot {s : State} (idle : s.slot.programming = false) : s.restarted.slot = .free :=
  State.abortSession_free (State.endHold_idle idle)

theorem State.restarted_vacant {s : State} (idle : s.slot.programming = false) : (s.restarted.logEvent .startSoft).Vacant :=
  ⟨s.restarted_hold, .inl (State.restarted_slot idle)⟩

theorem State.restarted_path {s : State} (hold : s.auth.hold ≠ none) : s.restarted.path = .empty :=
  (State.abortSession_path _).trans (State.endHold_parts .restart hold).2.1

theorem State.softRestart_logged {s : State} : LoggedFirst s.restarted [.startSoft] s.softRestart :=
  .of_logEvents (State.settle_consequence _).now (State.settle_consequence (s.restarted.logEvent .startSoft)).grows.1

theorem State.softRestart_framed (s : State) : Framed s s.softRestart :=
  s.restarted_framed.trans ((State.logEvent_consequence _ _).trans (State.settle_consequence _)).framed

theorem LoggedFirst.framed {s t u : State} {es : List Event} (h : LoggedFirst s es t) (c : Framed t u) : LoggedFirst s es u := by
  rw [LoggedFirst, c.now]
  exact h.trans c.records

theorem State.softRestart_logged_end {s : State} (hold : s.auth.hold ≠ none) : LoggedFirst s [.holdEnd .restart] s.softRestart :=
  (State.endHold_parts .restart hold).2.2.framed
    (((State.abortSession_consequence _).framed.trans (State.axesOff_seedAll_framed _)).trans
      ((State.logEvent_consequence _ _).trans (State.settle_consequence _)).framed)

/-- With no hold and a free slot nothing ends, and START is logged first. -/
theorem State.softRestart_logged_start {s : State} (unheld : s.auth.hold = none) (free : s.slot = .free) :
    LoggedFirst s [.startSoft] s.softRestart := by
  have log : s.restarted.log = s.log := by
    show (s.endHold .restart).abortSession.log = _
    rw [State.endHold_of_none unheld, (⟨unheld, .inl free⟩ : s.Vacant).abortSession]
  exact LoggedFirst.behind (es := []) State.softRestart_logged log s.softRestart_framed.now

theorem noRoutine_of_free {s : State} (free : s.slot = .free) : s.noRoutine := by
  rw [State.noRoutine, free]
  rfl

/-- Where only the hold ends and no combiner acts, START follows HOLD_END. -/
theorem State.softRestart_logged_both {s : State} (hold : s.auth.hold ≠ none) (free : s.slot = .free)
    (instant : s.params.noInstantTrip) (none : s.params.noActions) :
    LoggedFirst s [.holdEnd .restart, .startSoft] s.softRestart := by
  have slot : (s.endHold .restart).slot = .free := by
    obtain ⟨h, held⟩ := Option.ne_none_iff_exists'.mp hold
    rw [State.endHold_of_hold held, (State.handOn_inert _ (State.endHoldCore_vacant h .restart s)).slot,
      State.endHoldCore_free (by rw [free]; rfl)]
  have log : s.restarted.log = (s.logEvents [.holdEnd .restart]).log := by
    show (s.endHold .restart).abortSession.log = _
    rw [State.abortSession_log_of_noRoutine (noRoutine_of_free slot), State.endHold_log hold (noRoutine_of_free free) none instant]
    rfl
  exact State.softRestart_logged.behind log s.softRestart_framed.now

theorem State.restarted_tilt (s : State) : s.restarted.tilt.meas = s.tilt.meas := s.restarted_framed.angles.1

theorem State.restarted_phiS (s : State) : s.restarted.solve.phiS = s.tilt.meas := s.restarted_tilt

theorem State.restarted_captured (s : State) : s.restarted.solve.captured = s.tilt.meas := s.restarted_tilt

theorem State.restarted_deltaS (s : State) : s.restarted.solve.deltaS = s.steer.meas := s.restarted_framed.angles.2.2.1

theorem handleSoftRestart_of_programming {n : Nat} {p : Port} {s : State} (programs : s.slot = .storeProgramming n) :
    handleSoftRestart p [] s = refuse s .busy [5] := by
  simp [handleSoftRestart, programs, Slot.programming, refuseBusy, Slot.code, byteOf]

theorem handleSoftRestart_of_idle {p : Port} {s : State} (idle : s.slot.programming = false) :
    handleSoftRestart p [] s = (s.softRestart, okAnswer []) := by
  simp [handleSoftRestart, idle]

/-- Settles O58. -/
theorem softRestartClearsTheSessions : Obligations.SoftRestartClearsTheSessions := by
  intro dt p r s ready
  refine ⟨fun n programs => ?busy, fun idle => ?restarts⟩
  case busy =>
    exact exec_refused (c := .softRestart dt { port := p, ref := r, payload := [] }) rfl rfl ready
      (handleSoftRestart_of_programming (p := p) ((s.delivered_slot dt p).trans programs))
  case restarts =>
    have slot := s.delivered_slot dt p
    have log := s.delivered_log dt p
    have params := s.delivered_params dt p
    have store := s.delivered_store dt p
    have tilt := s.delivered_tilt dt p
    have steer := s.delivered_steer dt p
    have holds := s.delivered_hold_isSome dt p
    have framedRequest (t : State) (h : Framed (s.delivered dt p) t) := h.requestFrame (dt := dt) (p := p) 0x11 r .ok []
    have answers (t : State) (es : List Event) (h : LoggedFirst (s.delivered dt p) es t) := h.answered 0x11 r .ok []
    have handled := handleSoftRestart_of_idle (p := p) (s := s.delivered dt p) (by rw [slot]; exact idle)
    have now := s.delivered_now dt p
    have answered (t : State) (h : handleSoftRestart p [] (s.delivered dt p) = (t, okAnswer [])) (n : t.now = s.now + dt) :=
      exec_answered (c := .softRestart dt { port := p, ref := r, payload := [] }) rfl rfl ready h n
    generalize s.delivered dt p = v at *
    have idle' : v.slot.programming = false := by rw [slot]; exact idle
    have hold {P : Prop} (h : v.auth.hold ≠ none → P) (some : s.auth.hold ≠ none) : P :=
      h (Option.isSome_iff_ne_none.mp (holds.trans (Option.isSome_iff_ne_none.mpr some)))
    have unheld (free : s.auth.hold = none) : v.auth.hold = none := by
      rwa [← Option.not_isSome_iff_eq_none, holds, Option.not_isSome_iff_eq_none]
    have vacant := State.restarted_vacant idle'
    have framed := v.softRestart_framed
    obtain ⟨-, kept, mode⟩ := State.settle_rests _ vacant
    have stands := State.settle_inert _ vacant
    have sound := State.settle_sound (v.restarted.logEvent .startSoft)
    refine ⟨v.softRestart.answered p 0x11 r .ok [], answered _ handled (framed.now.trans now),
      ?_, ?_, ?_, ?_, ?_, ?_, ?_, fun some => ⟨?_, answers _ _ ?_⟩, fun none free => answers _ _ ?_,
      fun some free instant none => answers _ _ ?_, State.answered_replied .., framedRequest _ framed, ?_, ?_⟩
    · rw [State.answered_auth]
      exact (stands.auth ▸ vacant.hold :)
    · rw [State.answered_tilt]
      exact mode
    · rw [State.answered_steer]
      exact (congrArg AxisCtl.mode stands.steer).trans rfl
    · rw [State.answered_slot]
      exact stands.slot.trans (State.restarted_slot idle')
    · rw [State.answered_solve, ← tilt]
      exact (sound.phiS.elim (fun e => e.trans v.restarted_phiS) (fun e => e.trans v.restarted_tilt))
    · rw [State.answered_solve, ← steer]
      exact stands.deltaS.trans v.restarted_deltaS
    · rw [State.answered_solve, ← tilt]
      exact (sound.captured.elim (fun e => e.trans v.restarted_captured) (fun e => e.trans v.restarted_tilt))
    · rw [State.answered_path]
      exact stands.path.trans (hold State.restarted_path some)
    · exact hold State.softRestart_logged_end some
    · exact State.softRestart_logged_start (unheld none) (slot.trans free)
    · exact hold State.softRestart_logged_both some (slot.trans free) (by rw [params]; exact instant) (by rw [params]; exact none)
    · rw [State.answered_params]
      exact kept.trans ((State.restarted_params v).trans params)
    · rw [State.answered_store]
      exact sound.consequence.outside.store.trans ((State.restarted_store v).trans store)

end Sys2Proof.Machine
end

section
/-! PROOFS. FULL_RESET (R138, R140, R152, R169). -/

namespace Sys2Proof.Machine

/-! ## The first evaluation -/

/-- Before the first debounce is over, with no hold and a free slot, neither the latch controller nor the authority unit has
anything to do. -/
structure State.Booting (s : State) : Prop where
  first : s.latch.first.isSome = true
  commanded : s.latch.uncommanded = false
  hold : s.auth.hold = none
  slot : s.slot = .free

/-- The debounced inputs, the conditions and the combiners of two input units are the same. -/
structure InputUnit.SameReadings (u v : InputUnit) : Prop where
  switch : ∀ i, v.switch i = u.switch i
  conds : v.conds = u.conds
  c0 : v.c0 = u.c0
  c1 : v.c1 = u.c1
  c2 : v.c2 = u.c2

theorem InputUnit.SameReadings.refl (u : InputUnit) : u.SameReadings u := ⟨fun _ => rfl, rfl, rfl, rfl, rfl⟩

theorem InputUnit.SameReadings.trans {u v w : InputUnit} (h : u.SameReadings v) (k : v.SameReadings w) : u.SameReadings w :=
  ⟨fun i => (k.switch i).trans (h.switch i), k.conds.trans h.conds, k.c0.trans h.c0, k.c1.trans h.c1, k.c2.trans h.c2⟩

theorem InputUnit.changes_sameReadings (u : InputUnit) (x : List (Cond × Bool)) : u.SameReadings { u with changes := x } :=
  ⟨fun i => by cases i <;> rfl, rfl, rfl, rfl, rfl⟩

theorem InputUnit.trips_sameReadings (u : InputUnit) (x : List Trip) : u.SameReadings { u with trips := x } :=
  ⟨fun i => by cases i <;> rfl, rfl, rfl, rfl, rfl⟩

theorem InputUnit.setTripUnit_sameReadings (u : InputUnit) (x : TripUnit) (r : TripUnitRec) : u.SameReadings (u.setTripUnit x r) := by
  cases x <;> exact ⟨fun i => by cases i <;> rfl, rfl, rfl, rfl, rfl⟩

/-- An operation that changes what waits and what has fired in the input unit, and logs these events, alone. -/
def State.Noted (es : List Event) (s t : State) : Prop :=
  ∃ u : InputUnit, t = (s.setInputs u).logEvents es ∧ s.inputs.SameReadings u

theorem State.logEvents_append (es fs : List Event) (s : State) : s.logEvents (es ++ fs) = (s.logEvents es).logEvents fs :=
  List.foldl_append

theorem State.setInputs_logEvents (u : InputUnit) (es : List Event) (s : State) :
    (s.setInputs u).logEvents es = (s.logEvents es).setInputs u := by
  induction es generalizing s with
  | nil => rfl
  | cons e es ih => exact ih (s.logEvent e)

theorem State.logEvents_inputs (es : List Event) (s : State) : (s.logEvents es).inputs = s.inputs := by
  induction es generalizing s with
  | nil => rfl
  | cons e es ih => exact ih (s.logEvent e)

theorem State.Noted.refl (s : State) : State.Noted [] s s := ⟨s.inputs, rfl, .refl _⟩

theorem State.Noted.trans {es fs : List Event} {s t w : State} (h : State.Noted es s t) (k : State.Noted fs t w) :
    State.Noted (es ++ fs) s w := by
  obtain ⟨u, rfl, same⟩ := h
  obtain ⟨v, rfl, same'⟩ := k
  rw [State.logEvents_inputs] at same'
  refine ⟨v, ?_, same.trans same'⟩
  rw [← State.setInputs_logEvents, State.logEvents_append]
  rfl

theorem State.logEvents_booting {es : List Event} {s : State} (h : s.Booting) : (s.logEvents es).Booting := by
  induction es generalizing s with
  | nil => exact h
  | cons e es ih => exact ih (s := s.logEvent e) ⟨h.first, h.commanded, h.hold, h.slot⟩

theorem State.Noted.booting {es : List Event} {s t : State} (h : State.Noted es s t) (boot : s.Booting) : t.Booting := by
  obtain ⟨u, rfl, -⟩ := h
  exact State.logEvents_booting ⟨boot.first, boot.commanded, boot.hold, boot.slot⟩

theorem State.announce_noted (s : State) : State.Noted [] s s.announce :=
  ⟨_, rfl, InputUnit.changes_sameReadings s.inputs s.waitingChanges⟩

theorem State.Booting.hearLatch {s : State} (h : s.Booting) : State.Noted [] s s.hearLatch := by
  have weighed : s.weighUncommanded = s := if_neg (by simp [h.commanded])
  have undecided : s.decideLatch = none := if_pos h.first
  have e : s.hearLatch = s.announce := by rw [State.hearLatch, weighed, undecided]; rfl
  rw [e]
  exact s.announce_noted

theorem State.Booting.handGrade {s : State} (h : s.Booting) (old : Grade) : State.Noted [] s (s.handGrade old) := by
  have heard : State.Noted [] s (if old ≠ .lockdown && s.grade = .lockdown then s.hearLatch else s) := by
    split
    · exact h.hearLatch
    · exact .refl s
  unfold State.handGrade
  dsimp only
  generalize (if old ≠ .lockdown && s.grade = .lockdown then s.hearLatch else s) = t at heard ⊢
  have boot := heard.booting h
  have vacant : t.Vacant := ⟨boot.hold, .inl boot.slot⟩
  split
  · rw [vacant.dropHold, vacant.abortSession]
    exact heard.trans t.announce_noted
  · exact heard

theorem State.Booting.fireTrip {s : State} (h : s.Booting) (id : TripId) (sev : Severity) :
    ∃ es, es.length ≤ 1 ∧ State.Noted es s (s.fireTrip id sev) := by
  unfold State.fireTrip
  split
  · exact ⟨[], Nat.zero_le 1, .refl s⟩
  · have added : State.Noted [.trip id] s (s.addTrip id sev) := ⟨_, rfl, InputUnit.trips_sameReadings ..⟩
    exact ⟨[.trip id], le_refl 1, added.trans ((added.booting h).handGrade s.grade)⟩

theorem State.Booting.evaluateTripUnit {s : State} (h : s.Booting) (x : TripUnit) :
    ∃ es, es.length ≤ 1 ∧ State.Noted es s (s.evaluateTripUnit x) := by
  have read (r : TripUnitRec) (t : State) : State.Noted [] t (t.setInputs (t.inputs.setTripUnit x r)) :=
    ⟨_, rfl, InputUnit.setTripUnit_sameReadings ..⟩
  unfold State.evaluateTripUnit
  dsimp only
  split
  · unfold State.fireTripUnit
    set w := s.setInputs (s.inputs.setTripUnit x (s.inputs.readTripUnit x (s.params.tripUnit x) s.now))
    have fired := (read (s.inputs.readTripUnit x (s.params.tripUnit x) s.now) s).trans
      (read { w.inputs.tripUnit x with fired := true } w)
    obtain ⟨es, few, noted⟩ := (fired.booting h).fireTrip (tripIdOf x) (s.params.tripUnit x).severity
    exact ⟨es, few, fired.trans noted⟩
  · exact ⟨[], Nat.zero_le 1, read _ s⟩

/-! ## The log -/

theorem State.logEvents_overflow {es : List Event} {s : State} (room : s.log.records.length + es.length ≤ 16) :
    (s.logEvents es).log.overflow = s.log.overflow ∧
      (s.logEvents es).log.records.length = s.log.records.length + es.length := by
  induction es generalizing s with
  | nil => exact ⟨rfl, rfl⟩
  | cons e es ih =>
    rw [List.length_cons] at room
    have fits : s.log.records.length < 16 := by omega
    have appended : (s.logEvent e).log.records.length = s.log.records.length + 1 ∧ (s.logEvent e).log.overflow = s.log.overflow := by
      rw [State.logEvent, State.setLog_log, EventLog.append, if_pos fits]
      exact ⟨List.length_append, rfl⟩
    obtain ⟨overflow, length⟩ := ih (s := s.logEvent e) (by omega)
    exact ⟨overflow.trans appended.2, length.trans (by rw [appended.1, List.length_cons]; omega)⟩

/-! ## The evaluation of the combiners -/

/-- A quiet evaluation logs nothing (R138). -/
theorem State.evaluateCombiner_quiet (i : CombinerId) (s : State) : s.evaluateCombiner true i =
    s.setInputs (s.inputs.setCombiner i (s.inputs.evaluate (s.params.combiner i) (s.inputs.combiner i))) := rfl

theorem State.evaluateCombiners_quiet {old : Bool} {s : State} (boot : s.Booting) :
    State.Noted [] (s.setInputs (s.inputs.evaluated s.params)) (s.evaluateCombiners true old) := by
  have evaluated : ((s.evaluateCombiner true .c0).evaluateCombiner true .c1).evaluateCombiner true .c2 =
      s.setInputs (s.inputs.evaluated s.params) := rfl
  rw [State.evaluateCombiners, evaluated]
  split
  · exact State.Booting.hearLatch ⟨boot.first, boot.commanded, boot.hold, boot.slot⟩
  · exact .refl _

/-- The part as FULL_RESET finds it with START logged. -/
def State.booted (l : Switches) (closed : Bool) (s : State) : State :=
  (s.cleared l closed).logEvent (.startFull s.store.startSource)

theorem State.booted_booting (l : Switches) (closed : Bool) (s : State) : (s.booted l closed).Booting := ⟨rfl, rfl, rfl, rfl⟩

theorem State.started_noted (l : Switches) (closed : Bool) (s : State) : ∃ es, es.length ≤ 2 ∧
    State.Noted es ((s.booted l closed).setInputs ((InputUnit.reset l).evaluated s.store.startSet.loaded)) (s.started l closed) := by
  set b := s.booted l closed with hb
  have boot := s.booted_booting l closed
  have combiners := State.evaluateCombiners_quiet (old := b.combined) boot
  have boot1 := combiners.booting ⟨boot.first, boot.commanded, boot.hold, boot.slot⟩
  obtain ⟨es, few, first⟩ := boot1.evaluateTripUnit .t1
  obtain ⟨fs, few', second⟩ := (first.booting boot1).evaluateTripUnit .t2
  exact ⟨[] ++ es ++ fs, by simp; omega, (combiners.trans first).trans second⟩

/-- With no instant trip the first evaluation logs nothing and fires nothing. -/
theorem State.started_calm {l : Switches} {closed : Bool} {s : State} (instant : s.store.startSet.loaded.noInstantTrip) :
    (s.started l closed).log = (s.booted l closed).log ∧ (s.started l closed).inputs.trips = [] := by
  have combiners := State.evaluateCombiners_quiet (old := (s.booted l closed).combined) (s.booted_booting l closed)
  have calm := State.evaluateInputs_calm true (s.booted l closed).combined (s.booted l closed) instant
  refine ⟨?_, calm.1.trips⟩
  obtain ⟨u, e, -⟩ := combiners
  show (State.evaluateInputs true (s.booted l closed).combined (s.booted l closed)).log = _
  rw [State.evaluateInputs, e]
  rw [show (((s.booted l closed).setInputs ((s.booted l closed).inputs.evaluated (s.booted l closed).params)).setInputs u).logEvents [] =
    (s.booted l closed).setInputs u from rfl, State.evaluateTripUnit_of_noInstantTrip (by exact instant),
    State.evaluateTripUnit_of_noInstantTrip (by exact instant)]
  rfl

theorem onAppend_released (want : Bool) : AttnLine.released.onAppend want = { asserted := want, gapEnd := none } := by
  cases want <;> rfl

theorem State.logEvents_eq (es : List Event) (s : State) : ∃ l, s.logEvents es = s.setLog l := by
  induction es generalizing s with
  | nil => exact ⟨s.log, rfl⟩
  | cons e es ih =>
    obtain ⟨l, eq⟩ := ih (s.logEvent e)
    exact ⟨l, eq⟩

theorem State.booted_log (l : Switches) (closed : Bool) (s : State) : (s.booted l closed).log =
    { records := [{ event := .startFull s.store.startSource, stamp := 0 }], overflow := false,
      attnA := { asserted := s.store.startSet.loaded.attnMaskA.getLsbD (Event.startFull s.store.startSource).category,
                 gapEnd := none },
      attnB := { asserted := s.store.startSet.loaded.attnMaskB.getLsbD (Event.startFull s.store.startSource).category,
                 gapEnd := none } } := by
  show EventLog.empty.append _ _ _ = _
  rw [EventLog.append_of_room _ _ _ (by decide)]
  have want (mask : Byte) (r : EventRec) : (EventLog.empty.records ++ [r]).any (fun x => mask.getLsbD x.event.category) =
      mask.getLsbD r.event.category := by simp [EventLog.empty]
  rw [want, want]
  show EventLog.mk _ _ (AttnLine.released.onAppend _) (AttnLine.released.onAppend _) = _
  rw [onAppend_released, onAppend_released, show (s.cleared l closed).now = 0 from rfl, show stampOf 0 = 0 by decide]
  rfl

theorem CalStore.startSource_cases (c : CalStore) :
    (c.user.passes = true → c.startSource = .user ∧ c.startSet = c.user.set) ∧
    (c.user.passes = false → c.factory.passes = true → c.startSource = .factory ∧ c.startSet = c.factory.set) ∧
    (c.user.passes = false → c.factory.passes = false → c.startSource = .defaults ∧ c.startSet = .builtin) := by
  refine ⟨fun user => ?_, fun user factory => ?_, fun user factory => ?_⟩
  · simp [CalStore.startSource, CalStore.startSet, user]
  · simp [CalStore.startSource, CalStore.startSet, user, factory]
  · simp [CalStore.startSource, CalStore.startSet, user, factory]

/-- Settles O12. -/
theorem fullResetStartsThePart : Obligations.FullResetStartsThePart := by
  intro l closed s
  have consequence : Consequence (s.booted l closed) (s.started l closed) := State.evaluateInputs_consequence ..
  have calm := State.started_calm (l := l) (closed := closed) (s := s)
  obtain ⟨es, few, u, e, same⟩ := s.started_noted l closed
  have quiet : (s.started l closed).log.overflow = false := by
    rw [e]
    exact (State.logEvents_overflow (s := (s.booted l closed).setInputs u) (by show 1 + es.length ≤ 16; omega)).1
  obtain ⟨log, parts⟩ := State.logEvents_eq es ((s.booted l closed).setInputs u)
  have whole : s.started l closed = ((s.booted l closed).setInputs u).setLog log := e.trans parts
  obtain ⟨user, factory, defaults⟩ := s.store.startSource_cases
  refine ⟨s.started l closed, rfl, ?_⟩
  generalize s.started l closed = t at *
  have params : t.params = s.store.startSet.loaded := by rw [whole]; rfl
  have source : t.store = { s.store with source := s.store.startSource } := by rw [whole]; rfl
  have inputs : t.inputs = u := by rw [whole]; rfl
  obtain ⟨switch, conds, c0, c1, c2⟩ := same
  have level (i : Input) : t.inputs.switch i = (InputUnit.reset l).switch i := by
    rw [inputs, switch]
    cases i <;> rfl
  have field {α : Type} (f : State → α) : f t = f (((s.booted l closed).setInputs u).setLog log) := congrArg f whole
  obtain ⟨rest, records⟩ := consequence.grows.1
  rw [State.booted_log] at records
  rw [params, source]
  refine ⟨fun h => ⟨(user h).1, congrArg Params.loaded (user h).2⟩,
    fun h k => ⟨(factory h k).1, congrArg Params.loaded (factory h k).2⟩,
    fun h k => ⟨(defaults h k).1, congrArg Params.loaded (defaults h k).2⟩, rfl, rfl, field State.now, field State.speed,
    field State.solve, field State.path, field State.auth, field State.tilt, field State.steer, field State.slot,
    field State.latch, field State.portA, field State.portB, fun i => ?_, congrArg SwitchRec.active (level .stand),
    congrArg SwitchRec.active (level .seat), congrArg SwitchRec.active (level .brake),
    congrArg SwitchRec.active (level .parkbtn), congrArg SwitchRec.active (level .lift),
    congrArg SwitchRec.active (level .key), ?_, ⟨?_, ?_, ?_⟩, ?_, quiet, fun instant => ?_⟩
  · rw [level]
    cases i <;> rfl
  · rw [inputs]
    exact conds
  · rw [inputs]
    exact c0
  · rw [inputs]
    exact c1
  · rw [inputs]
    exact c2
  · rw [← records]
    rfl
  · obtain ⟨same, trips⟩ := calm instant
    rw [same, State.booted_log]
    exact ⟨rfl, trips, rfl, rfl⟩

end Sys2Proof.Machine
end

section
/-! PROOFS. The combiners and the trip units, and a debounced change of an input (R133 to R139). -/

namespace Sys2Proof.Machine

/-! ## The functions of the combiners (R134, R135) -/

theorem CombinerFn.nextStored_of_ne_latch {fn : CombinerFn} (other : fn ≠ .latch) (stored a b : Bool) :
    fn.nextStored stored a b = stored := by
  cases fn
  case latch => exact absurd rfl other
  all_goals rfl

theorem InputUnit.evaluate_output_inverted (u : InputUnit) (cfg : CombinerCfg) (r : CombinerRec) :
    ((u.evaluate cfg r).output != cfg.inverted) =
      cfg.fn.apply (u.evaluate cfg r).stored (u.select cfg.a) (u.select cfg.b) (u.select cfg.c) := by
  unfold InputUnit.evaluate
  dsimp only
  rw [Bool.bne_assoc, bne_self_eq_false, Bool.bne_false]

theorem CombinerFn.odd_iff (stored a b c : Bool) :
    CombinerFn.odd.apply stored a b c = true ↔ (a.toNat + b.toNat + c.toNat) % 2 = 1 := by
  revert a b c
  decide +revert

theorem CombinerFn.majority_iff (stored a b c : Bool) :
    CombinerFn.majority.apply stored a b c = true ↔ 2 ≤ a.toNat + b.toNat + c.toNat := by
  decide +revert

/-! ## The evaluation of the combiners (R136, R137) -/

/-- A combiner's evaluation puts its new record in place and logs its change by its action. -/
theorem State.evaluateCombiner_logs (i : CombinerId) (v : InputUnit) (es : List Event) (s : State) :
    ((s.setInputs v).logEvents es).evaluateCombiner false i =
      (s.setInputs (v.setCombiner i (v.evaluate (s.params.combiner i) (v.combiner i)))).logEvents
        (es ++ if (v.evaluate (s.params.combiner i) (v.combiner i)).output != (v.combiner i).output &&
          (s.params.combiner i).action ≠ .none then
          [.combiner i (v.evaluate (s.params.combiner i) (v.combiner i)).output] else []) := by
  have params : ((s.setInputs v).logEvents es).params = s.params := by
    obtain ⟨l, e⟩ := State.logEvents_eq es (s.setInputs v)
    rw [e]
    rfl
  have inputs : ((s.setInputs v).logEvents es).inputs = v := State.logEvents_inputs es _
  unfold State.evaluateCombiner
  dsimp only
  rw [params, inputs, ← State.setInputs_logEvents, State.logEvents_append]
  cases ((v.evaluate (s.params.combiner i) (v.combiner i)).output != (v.combiner i).output) <;>
    by_cases act : (s.params.combiner i).action = .none <;> simp [act] <;> rfl

/-- The three combiners in their order take the input unit to its evaluation, with the records of R137. -/
theorem State.evaluateCombiner_thrice (s : State) :
    ((s.evaluateCombiner false .c0).evaluateCombiner false .c1).evaluateCombiner false .c2 =
      (s.setInputs (s.inputs.evaluated s.params)).logEvents
        (combinerEvents s.params s.inputs (s.inputs.evaluated s.params)) := by
  rw [show s.evaluateCombiner false .c0 = ((s.setInputs s.inputs).logEvents []).evaluateCombiner false .c0 from rfl,
    State.evaluateCombiner_logs, State.evaluateCombiner_logs, State.evaluateCombiner_logs]
  unfold combinerEvents
  rw [List.filter_cons, List.filter_cons, List.filter_cons, List.filter_nil, List.nil_append]
  rw [bne_comm (a := (s.inputs.combiner .c0).output), bne_comm (a := (s.inputs.combiner .c1).output),
    bne_comm (a := (s.inputs.combiner .c2).output)]
  congr 1
  set u0 := s.inputs.setCombiner .c0 (s.inputs.evaluate (s.params.combiner .c0) (s.inputs.combiner .c0)) with h0
  set u1 := u0.setCombiner .c1 (u0.evaluate (s.params.combiner .c1) (u0.combiner .c1)) with h1
  have c0 : ((s.inputs.evaluated s.params).combiner .c0) = s.inputs.evaluate (s.params.combiner .c0) (s.inputs.combiner .c0) := rfl
  have c1 : ((s.inputs.evaluated s.params).combiner .c1) = u0.evaluate (s.params.combiner .c1) (u0.combiner .c1) := rfl
  have c2 : ((s.inputs.evaluated s.params).combiner .c2) = u1.evaluate (s.params.combiner .c2) (u1.combiner .c2) := rfl
  have e1 : s.inputs.combiner .c1 = u0.combiner .c1 := rfl
  have e2 : s.inputs.combiner .c2 = u1.combiner .c2 := rfl
  rw [c0, c1, c2, e1, e2]
  split_ifs <;> simp_all

/-- The part when its combiners have been evaluated and their records logged. -/
def State.combinersTaken (s : State) : State :=
  (s.setInputs (s.inputs.evaluated s.params)).logEvents (combinerEvents s.params s.inputs (s.inputs.evaluated s.params))

theorem State.evaluateCombiners_eq (old : Bool) (s : State) : s.evaluateCombiners false old =
    if s.combinersTaken.combined != old then s.combinersTaken.hearLatch else s.combinersTaken := by
  rw [State.evaluateCombiners, State.evaluateCombiner_thrice]
  rfl

theorem State.combinersTaken_inputs (s : State) : s.combinersTaken.inputs = s.inputs.evaluated s.params :=
  State.logEvents_inputs _ _

theorem State.combinersTaken_eq (s : State) :
    ∃ l, s.combinersTaken = (s.setInputs (s.inputs.evaluated s.params)).setLog l := State.logEvents_eq _ _

theorem State.combinersTaken_logged (s : State) :
    LoggedFirst s (combinerEvents s.params s.inputs (s.inputs.evaluated s.params)) s.combinersTaken := by
  obtain ⟨l, e⟩ := s.combinersTaken_eq
  exact LoggedFirst.of_logEvents (s := s.setInputs (s.inputs.evaluated s.params)) ((congrArg State.now e).trans rfl)
    (List.prefix_refl _)

theorem State.evaluateCombiners_latchMove (old : Bool) (s : State) :
    LatchMove s.combinersTaken (s.evaluateCombiners false old) := by
  rw [State.evaluateCombiners_eq]
  exact .ite _ (State.hearLatch_latchMove _) (.refl _)

/-! ## The trip units (R139) -/

theorem InputUnit.SameReadings.cond {u v : InputUnit} (h : u.SameReadings v) (c : Cond) : v.cond c = u.cond c := by
  have conds := h.conds
  cases c
  case c0 => exact congrArg CombinerRec.output h.c0
  case c1 => exact congrArg CombinerRec.output h.c1
  case c2 => exact congrArg CombinerRec.output h.c2
  case true_ => rfl
  all_goals
    unfold InputUnit.cond
    rw [conds]

theorem InputUnit.SameReadings.select {u v : InputUnit} (h : u.SameReadings v) (x : Selection) : v.select x = u.select x := by
  rw [InputUnit.select, InputUnit.select, h.cond]

theorem InputUnit.SameReadings.tripSelected {u v : InputUnit} (h : u.SameReadings v) (x : TripUnit) (cfg : TripCfg) :
    v.tripSelected x cfg = u.tripSelected x cfg := by
  cases x <;> simp [InputUnit.tripSelected, h.select]

theorem InputUnit.SameReadings.combiner {u v : InputUnit} (h : u.SameReadings v) (i : CombinerId) :
    v.combiner i = u.combiner i := by
  cases i
  · exact h.c0
  · exact h.c1
  · exact h.c2

theorem InputUnit.SameReadings.readTripUnit {u v : InputUnit} (h : u.SameReadings v) {x : TripUnit}
    (same : v.tripUnit x = u.tripUnit x) (cfg : TripCfg) (now : Nat) :
    v.readTripUnit x cfg now = u.readTripUnit x cfg now := by
  rw [InputUnit.readTripUnit, InputUnit.readTripUnit, h.tripSelected, same]

/-- A trip unit's reading (R139), in words: the timer runs while the selections are true, else it is absent and `fired` is
clear. -/
theorem InputUnit.readTripUnit_eq (u : InputUnit) (x : TripUnit) (cfg : TripCfg) (now : Nat) : u.readTripUnit x cfg now =
    if cfg.enabled = true ∧ u.tripSelected x cfg = true then
      { since := some ((u.tripUnit x).since.getD now), fired := (u.tripUnit x).fired }
    else { since := none, fired := false } := by
  rw [InputUnit.readTripUnit]
  simp only [Bool.and_eq_true]

/-- The trip units' evaluation, where none fires at once, changes their records alone. -/
theorem State.evaluateTripUnits_of_noInstantTrip {s : State} (instant : s.params.noInstantTrip) :
    ∃ u : InputUnit, (s.evaluateTripUnit .t1).evaluateTripUnit .t2 = s.setInputs u ∧ s.inputs.SameReadings u ∧
      u.changes = s.inputs.changes ∧ u.trips = s.inputs.trips ∧
      ∀ x, u.tripUnit x = s.inputs.readTripUnit x (s.params.tripUnit x) s.now := by
  rw [show s.evaluateTripUnit .t1 = (s.setInputs s.inputs).evaluateTripUnit .t1 from rfl,
    State.evaluateTripUnit_of_noInstantTrip instant, State.evaluateTripUnit_of_noInstantTrip instant]
  set v := s.inputs.setTripUnit .t1 (s.inputs.readTripUnit .t1 (s.params.tripUnit .t1) s.now)
  have first : s.inputs.SameReadings v := InputUnit.setTripUnit_sameReadings ..
  refine ⟨_, rfl, first.trans (InputUnit.setTripUnit_sameReadings ..), rfl,
    (InputUnit.setTripUnit_trips ..).trans (InputUnit.setTripUnit_trips ..), fun x => ?_⟩
  cases x
  case t1 => rfl
  case t2 => exact first.readTripUnit (x := .t2) rfl _ _

/-! ## A condition is taken (R133) -/

/-- A taken condition, where no trip fires at once: the input unit of R136, the records of R137, the latch controller's own move
where the combined demand changed, and the trip units' readings. -/
theorem State.takeCond_eq {s : State} (c : Cond) (b : Bool) (instant : s.params.noInstantTrip) :
    ∃ w u, w = (((s.setInputs { s.inputs with conds := s.inputs.conds.put c b }).evaluateCombiners false s.combined)) ∧
      s.takeCond c b = w.setInputs u ∧ w.inputs.SameReadings u ∧ u.changes = w.inputs.changes ∧ u.trips = w.inputs.trips ∧
      ∀ x, u.tripUnit x = w.inputs.readTripUnit x (w.params.tripUnit x) w.now := by
  set v := s.setInputs { s.inputs with conds := s.inputs.conds.put c b }
  have params : (v.evaluateCombiners false s.combined).params = s.params := by
    rw [(State.evaluateCombiners_latchMove s.combined v).params]
    obtain ⟨l, e⟩ := v.combinersTaken_eq
    rw [e]
    rfl
  obtain ⟨u, e, same⟩ := State.evaluateTripUnits_of_noInstantTrip (s := v.evaluateCombiners false s.combined) (by rw [params]; exact instant)
  exact ⟨_, u, rfl, e, same⟩

theorem combinerEvents_congr (p : Params) {u u' v : InputUnit} (same : ∀ i, u'.combiner i = u.combiner i) :
    combinerEvents p u' v = combinerEvents p u v := by
  simp only [combinerEvents, same]

/-- The part when condition `c` has been put at `b` and the combiners have been evaluated and logged. -/
def State.afterCond (c : Cond) (b : Bool) (s : State) : State :=
  (s.setInputs { s.inputs with conds := s.inputs.conds.put c b }).combinersTaken

theorem State.afterCond_eq (c : Cond) (b : Bool) (s : State) : s.afterCond c b =
    (s.setInputs (s.inputs.afterChange s.params c b)).logEvents
      (combinerEvents s.params s.inputs (s.inputs.afterChange s.params c b)) := by
  have same (i : CombinerId) :
      ({ s.inputs with conds := s.inputs.conds.put c b } : InputUnit).combiner i = s.inputs.combiner i := by
    cases i <;> rfl
  rw [State.afterCond, State.combinersTaken, ← combinerEvents_congr s.params same]
  rfl

theorem State.afterCond_inputs (c : Cond) (b : Bool) (s : State) :
    (s.afterCond c b).inputs = s.inputs.afterChange s.params c b := by
  rw [State.afterCond_eq, State.logEvents_inputs]
  rfl

theorem State.afterCond_log (c : Cond) (b : Bool) (s : State) :
    ∃ l, s.afterCond c b = (s.setInputs (s.inputs.afterChange s.params c b)).setLog l := by
  rw [State.afterCond_eq]
  exact State.logEvents_eq _ _

theorem InputUnit.afterChange_conds (p : Params) (c : Cond) (b : Bool) (u : InputUnit) :
    (u.afterChange p c b).conds = u.conds.put c b := rfl

theorem InputUnit.afterChange_changes (p : Params) (c : Cond) (b : Bool) (u : InputUnit) :
    (u.afterChange p c b).changes = u.changes := rfl

theorem InputUnit.afterChange_trips (p : Params) (c : Cond) (b : Bool) (u : InputUnit) :
    (u.afterChange p c b).trips = u.trips := rfl

theorem InputUnit.afterChange_tripUnit (p : Params) (c : Cond) (b : Bool) (u : InputUnit) (x : TripUnit) :
    (u.afterChange p c b).tripUnit x = u.tripUnit x := by cases x <;> rfl

theorem LatchMove.sameReadings {s t : State} (h : LatchMove s t) : s.inputs.SameReadings t.inputs where
  switch := h.switch
  conds := (congrArg InputUnit.conds h.inputs :)
  c0 := (congrArg InputUnit.c0 h.inputs :)
  c1 := (congrArg InputUnit.c1 h.inputs :)
  c2 := (congrArg InputUnit.c2 h.inputs :)

theorem LatchMove.tripUnit {s t : State} (h : LatchMove s t) (x : TripUnit) : t.inputs.tripUnit x = s.inputs.tripUnit x := by
  cases x
  · exact (congrArg InputUnit.t1 h.inputs :)
  · exact (congrArg InputUnit.t2 h.inputs :)

/-- What a taken condition leaves, where no trip fires at once: see R133, R136, R137 and R139. -/
theorem State.takeCond_taken {s : State} (c : Cond) (b : Bool) (instant : s.params.noInstantTrip) :
    ∃ u : InputUnit,
      s.takeCond c b = (if (s.afterCond c b).combined != s.combined then (s.afterCond c b).hearLatch
        else s.afterCond c b).setInputs u ∧
      (s.inputs.afterChange s.params c b).SameReadings u ∧
      u.changes = (if (s.afterCond c b).combined != s.combined then (s.afterCond c b).hearLatch
        else s.afterCond c b).inputs.changes ∧
      u.trips = s.inputs.trips ∧
      ∀ x, u.tripUnit x = (s.inputs.afterChange s.params c b).readTripUnit x (s.params.tripUnit x) s.now := by
  obtain ⟨w, u, rfl, took, same, changes, trips, units⟩ := State.takeCond_eq (s := s) c b instant
  have move : LatchMove (s.afterCond c b)
      ((s.setInputs { s.inputs with conds := s.inputs.conds.put c b }).evaluateCombiners false s.combined) :=
    State.evaluateCombiners_latchMove s.combined _
  obtain ⟨l, parts⟩ := s.afterCond_log c b
  have before := s.afterCond_inputs c b
  have readings := move.sameReadings
  have params : (s.afterCond c b).params = s.params := by rw [parts]; rfl
  have now : (s.afterCond c b).now = s.now := by rw [parts]; rfl
  have unit := move.tripUnit
  rw [before] at readings unit
  rw [State.evaluateCombiners_eq] at *
  refine ⟨u, took, readings.trans same, changes, trips.trans (move.trips.trans (by rw [before]; rfl)), fun x => ?_⟩
  rw [units, move.params, move.now, params, now, readings.readTripUnit (unit x)]

/-! ## Where the latch controller has nothing to decide -/

/-- Does the latch controller have a decision to make (R116, R117, R119, R120, R121, R124)? -/
def State.decides (s : State) : Bool :=
  s.latch.first.isNone &&
    match s.latch.state with
    | .engaged => s.ownRules && (s.permitReleases || (s.mayLean && !s.latch.uncommanded))
    | .releasePreload => s.preloadOff
    | .releasing => false
    | .released => s.ownRules && s.mayEngage
    | .engaging => false
    | .jammed => s.slow && s.latch.closed && !s.latch.pulsing .release
    | .unlatchedFault => s.ownRules && s.mayLean

theorem State.decideLatch_eq_none_iff (s : State) : s.decideLatch = none ↔ s.decides = false := by
  unfold State.decideLatch State.decides
  cases s.latch.first with
  | some _ => simp
  | none =>
    cases s.latch.state <;> simp
    case engaged =>
      cases s.ownRules <;> cases s.permitReleases <;> simp

/-- Two states in which the latch controller weighs the same. -/
structure WeighAlike (s t : State) : Prop where
  latch : t.latch = s.latch
  speed : t.speed = s.speed
  params : t.params = s.params
  tilt : t.tilt = s.tilt
  solve : t.solve = s.solve
  grade : t.grade = s.grade
  combined : t.combined = s.combined
  slot : t.slot = s.slot

theorem WeighAlike.decides {s t : State} (h : WeighAlike s t) : t.decides = s.decides := by
  obtain ⟨latch, speed, params, tilt, solve, grade, combined, slot⟩ := h
  have still : t.still = s.still := by rw [State.still, speed, ← State.still]
  have slow : t.slow = s.slow := by rw [State.slow, speed, params, ← State.slow]
  have fast : t.fast = s.fast := by rw [State.fast, speed, params, ← State.fast]
  have permit : t.permit = s.permit := by rw [State.permit, latch, ← State.permit]
  have demand : t.lockDemand = s.lockDemand := by rw [State.lockDemand, latch, combined, ← State.lockDemand]
  have own : t.ownRules = s.ownRules := by rw [State.ownRules, latch, slot, ← State.ownRules]
  have upright : t.uprightNow = s.uprightNow := by rw [State.uprightNow, tilt, solve, params, ← State.uprightNow]
  unfold State.decides State.permitReleases State.mayLean State.preloadOff State.mayEngage
  rw [still, slow, fast, permit, demand, own, upright, latch, tilt, grade]

theorem WeighAlike.undecided {s t : State} (h : WeighAlike s t) (undecided : s.decideLatch = none) : t.decideLatch = none := by
  rw [State.decideLatch_eq_none_iff] at *
  rw [h.decides, undecided]

/-- Weighing an uncommanded closing brings no decision about (R122). -/
theorem State.weighUncommanded_undecided {s : State} (undecided : s.decideLatch = none) :
    s.weighUncommanded.decideLatch = none := by
  rw [State.weighUncommanded]
  split
  next weighed =>
    rw [State.decideLatch_eq_none_iff] at *
    have lean : (s.ownRules && s.mayLean) = false := by
      simp only [Bool.and_eq_true, Bool.not_eq_true'] at weighed
      exact weighed.2
    have none (l : LatchState) : s.latch.state = l → (s.setLatchUnit { s.latch with uncommanded := false }).decides = false := by
      intro state
      unfold State.decides at undecided ⊢
      rw [show (s.setLatchUnit { s.latch with uncommanded := false }).latch.state = l from state]
      rw [state] at undecided
      cases l
      case engaged =>
        show (s.latch.first.isNone && (s.ownRules && (s.permitReleases || (s.mayLean && !false)))) = false
        cases own : s.ownRules
        · simp
        · rw [own, Bool.true_and] at lean
          rw [own, lean] at undecided
          rw [lean]
          simpa using undecided
      all_goals exact undecided
    exact none _ rfl
  next => exact undecided

/-- Settling where nothing waits, nothing is decided and no phase waits for the latch weighs an uncommanded closing, and does
nothing else. -/
theorem State.settle_of_rest {s : State} (waits : s.waitingChanges = []) (undecided : s.decideLatch = none)
    (phases : s.NotWaiting) : s.settle = s.weighUncommanded := by
  have ready : s.weighUncommanded.routineReady = none := NotWaiting.ready (phases.of_slot s.weighUncommanded_latchMove.slot)
  rw [State.settle, State.settleN, State.handOn_of_nothing_waits s waits,
    State.weighUncommanded_undecided undecided]
  dsimp only
  rw [ready]

/-! ## What waits to be taken (R133) -/

theorem State.condNow_congr {s t : State} (switches : SameSwitches s t) (speed : t.speed = s.speed)
    (params : t.params = s.params) {c : Cond} (latch : c = .locked → t.latch.state = s.latch.state)
    (hold : t.auth.hold.isSome = s.auth.hold.isSome) (tilt : t.tilt.meas = s.tilt.meas)
    (handed : c ∈ Cond.handedOn) : t.condNow c = s.condNow c := by
  cases c
  case stand => exact congrArg SwitchRec.active (switches .stand)
  case seat => exact congrArg SwitchRec.active (switches .seat)
  case brake => exact congrArg SwitchRec.active (switches .brake)
  case parkbtn => exact congrArg SwitchRec.active (switches .parkbtn)
  case lift => exact congrArg SwitchRec.active (switches .lift)
  case key => exact congrArg SwitchRec.active (switches .key)
  case still => rw [State.condNow, State.condNow, State.still, State.still, speed]
  case slow => rw [State.condNow, State.condNow, State.slow, State.slow, speed, params]
  case suspect => rw [State.condNow, State.condNow, State.suspect, State.suspect, speed]
  case locked => rw [State.condNow, State.condNow, latch rfl]
  case holdStands => exact hold
  case leanHigh => rw [State.condNow, State.condNow, State.leanHigh, State.leanHigh, params, tilt]
  all_goals exact absurd handed (by decide)

theorem InputUnit.cond_of_conds {u v : InputUnit} (conds : v.conds = u.conds) {c : Cond} (handed : c ∈ Cond.handedOn) :
    v.cond c = u.cond c := by
  cases c
  case c0 | c1 | c2 | true_ => exact absurd handed (by decide)
  all_goals rw [InputUnit.cond, InputUnit.cond, conds]

theorem InputUnit.announced_of_none {u : InputUnit} (none : u.changes = []) (c : Cond) : u.announced c = u.cond c := by
  rw [InputUnit.announced, none]
  rfl

/-- Nothing waits: what was announced has been taken, and every condition is as the list has it. -/
theorem State.waitingChanges_eq_nil_iff (s : State) : s.waitingChanges = [] ↔
    s.inputs.changes = [] ∧ ∀ c ∈ Cond.handedOn, s.condNow c = s.inputs.cond c := by
  rw [State.waitingChanges, List.append_eq_nil_iff, List.map_eq_nil_iff, List.filter_eq_nil_iff]
  refine and_congr_right fun none => forall₂_congr fun c _ => ?_
  rw [InputUnit.announced_of_none none]
  simp

theorem CondList.cond_put (u : InputUnit) (c d : Cond) (b : Bool) (handed : d ∈ Cond.handedOn) :
    ({ u with conds := u.conds.put d b } : InputUnit).cond c = if c = d then b else u.cond c := by
  cases d
  case c0 | c1 | c2 | true_ => exact absurd handed (by decide)
  all_goals cases c <;> rfl

theorem InputUnit.afterChange_cond (p : Params) (u : InputUnit) {c d : Cond} (b : Bool) (handed : c ∈ Cond.handedOn)
    (put : d ∈ Cond.handedOn) : (u.afterChange p d b).cond c = if c = d then b else u.cond c := by
  rw [← CondList.cond_put u c d b put]
  exact InputUnit.cond_of_conds (u := { u with conds := u.conds.put d b }) (v := u.afterChange p d b) rfl handed

theorem condOf_handedOn (i : Input) : condOf i ∈ Cond.handedOn := by cases i <;> decide

theorem State.handOnN_of_nothing_waits (n : Nat) {s : State} (waits : s.waitingChanges = []) : s.handOnN n = s := by
  cases n with
  | zero => rfl
  | succ n => rw [State.handOnN, waits]

theorem State.handOnN_succ {n : Nat} {c : Cond} {b : Bool} {rest : List (Cond × Bool)} {s : State}
    (waits : s.waitingChanges = (c, b) :: rest) : s.handOnN (n + 1) = ((s.setChanges rest).takeCond c b).handOnN n := by
  rw [State.handOnN, waits]

/-! ## A debounced change of an input (R131, R132) -/

theorem State.combined_of_noLockHold {s : State} (free : ∀ k, (s.params.combiner k).action ≠ .lockHold) : s.combined = false := by
  have c0 : s.params.c0.action ≠ .lockHold := free .c0
  have c1 : s.params.c1.action ≠ .lockHold := free .c1
  have c2 : s.params.c2.action ≠ .lockHold := free .c2
  simp [State.combined, c0, c1, c2]

/-- A change of a debounced input before it is handed on (R131, R132). -/
def State.switched (i : Input) (b : Bool) (s : State) : State :=
  let s := s.setInputs (s.inputs.setSwitch i { active := b, differSince := none })
  if s.params.inputEventMask.getLsbD (inputCode i) then s.logEvent (.inputChange i b) else s

theorem State.inputChanged_eq (i : Input) (b : Bool) (s : State) :
    s.inputChanged i b = ((s.switched i b).handOn.reportInput i b).settle := rfl

theorem State.switched_eq (i : Input) (b : Bool) (s : State) :
    s.switched i b = (s.setInputs (s.inputs.setSwitch i { active := b, differSince := none })).logEvents
      (if s.params.inputEventMask.getLsbD (inputCode i) then [.inputChange i b] else []) := by
  unfold State.switched
  show (if s.params.inputEventMask.getLsbD (inputCode i) = true then _ else _) = _
  split <;> rfl

theorem State.switched_parts (i : Input) (b : Bool) (s : State) :
    ∃ l, s.switched i b = (s.setInputs (s.inputs.setSwitch i { active := b, differSince := none })).setLog l := by
  rw [State.switched_eq]
  exact State.logEvents_eq _ _

theorem State.switched_condNow (i : Input) (b : Bool) (s : State) (c : Cond) :
    (s.switched i b).condNow c = if c = condOf i then b else s.condNow c := by
  obtain ⟨l, e⟩ := s.switched_parts i b
  rw [e]
  cases i <;> cases c <;> rfl

theorem InputUnit.setSwitch_conds (u : InputUnit) (i : Input) (r : SwitchRec) : (u.setSwitch i r).conds = u.conds := by
  cases i <;> rfl

theorem InputUnit.setSwitch_changes (u : InputUnit) (i : Input) (r : SwitchRec) : (u.setSwitch i r).changes = u.changes := by
  cases i <;> rfl

theorem InputUnit.setSwitch_trips (u : InputUnit) (i : Input) (r : SwitchRec) : (u.setSwitch i r).trips = u.trips := by
  cases i <;> rfl

theorem InputUnit.setSwitch_combiner (u : InputUnit) (i : Input) (r : SwitchRec) (k : CombinerId) :
    (u.setSwitch i r).combiner k = u.combiner k := by
  cases i <;> cases k <;> rfl

theorem InputUnit.setSwitch_tripUnit (u : InputUnit) (i : Input) (r : SwitchRec) (x : TripUnit) :
    (u.setSwitch i r).tripUnit x = u.tripUnit x := by
  cases i <;> cases x <;> rfl

theorem State.switched_inputs (i : Input) (b : Bool) (s : State) :
    (s.switched i b).inputs = s.inputs.setSwitch i { active := b, differSince := none } := by
  obtain ⟨l, e⟩ := s.switched_parts i b
  rw [e]
  rfl

/-- Behind a change of an input, where nothing waited before, that change alone waits. -/
theorem State.switched_waits {i : Input} {b : Bool} {s : State} (waits : s.waitingChanges = [])
    (differs : s.inputs.cond (condOf i) ≠ b) : (s.switched i b).waitingChanges = [(condOf i, b)] := by
  obtain ⟨none, listed⟩ := s.waitingChanges_eq_nil_iff.mp waits
  have changes : (s.switched i b).inputs.changes = [] := by
    rw [State.switched_inputs, InputUnit.setSwitch_changes, none]
  have differing : Cond.handedOn.filter (fun c => (s.switched i b).condNow c != (s.switched i b).inputs.announced c) =
      Cond.handedOn.filter (fun c => c = condOf i) := by
    refine List.filter_congr fun c handed => ?_
    rw [InputUnit.announced_of_none changes, State.switched_condNow, State.switched_inputs,
      InputUnit.cond_of_conds (InputUnit.setSwitch_conds ..) handed]
    split
    next e =>
      rw [e]
      simpa using fun h => differs h.symm
    next ne => simp [ne, listed c handed]
  rw [State.waitingChanges, changes, differing, List.nil_append]
  have only : Cond.handedOn.filter (fun c => c = condOf i) = [condOf i] := by cases i <;> rfl
  rw [only, List.map_singleton, State.switched_condNow, if_pos rfl]

theorem State.setChanges_same {x : List (Cond × Bool)} {s : State} (same : s.inputs.changes = x) : s.setChanges x = s := by
  subst same
  rfl

/-- The input unit after a combiner evaluation that nobody hears differs from the one before only in what R136 and R139 name. -/
theorem State.takeCond_of_noLockHold {s : State} (c : Cond) (b : Bool) (instant : s.params.noInstantTrip)
    (free : ∀ k, (s.params.combiner k).action ≠ .lockHold) :
    ∃ u : InputUnit, s.takeCond c b = (s.afterCond c b).setInputs u ∧ (s.inputs.afterChange s.params c b).SameReadings u ∧
      u.changes = s.inputs.changes ∧ u.trips = s.inputs.trips ∧
      ∀ x, u.tripUnit x = (s.inputs.afterChange s.params c b).readTripUnit x (s.params.tripUnit x) s.now := by
  obtain ⟨u, took, same, changes, trips, units⟩ := State.takeCond_taken (s := s) c b instant
  obtain ⟨l, parts⟩ := s.afterCond_log c b
  have combined : (s.afterCond c b).combined = s.combined := by
    rw [State.combined_of_noLockHold free, State.combined_of_noLockHold (s := s.afterCond c b) (by rw [parts]; exact free)]
  rw [combined, if_neg (by simp)] at took changes
  rw [s.afterCond_inputs] at changes
  exact ⟨u, took, same, changes, trips, units⟩

theorem InputUnit.afterChange_switch (p : Params) (c : Cond) (b : Bool) (u : InputUnit) (i : Input) :
    (u.afterChange p c b).switch i = u.switch i := by cases i <;> rfl

/-- A debounced change where the latch controller has nothing to decide is taken, and nothing follows. -/
theorem State.inputChanged_quiet {i : Input} {b : Bool} {s : State} (key : i ≠ .key) (lift : i ≠ .lift)
    (run : s.latch.run = .run) (instant : s.params.noInstantTrip) (phases : s.NotWaiting)
    (free : ∀ k, (s.params.combiner k).action ≠ .lockHold) (undecided : s.decideLatch = none)
    (waits : s.waitingChanges = []) (differs : s.inputs.cond (condOf i) ≠ b) :
    ∃ u : InputUnit, s.inputChanged i b = (((s.switched i b).afterCond (condOf i) b).setInputs u).weighUncommanded ∧
      ((s.switched i b).inputs.afterChange s.params (condOf i) b).SameReadings u ∧
      ∀ x, u.tripUnit x =
        ((s.switched i b).inputs.afterChange s.params (condOf i) b).readTripUnit x (s.params.tripUnit x) s.now := by
  obtain ⟨none, listed⟩ := s.waitingChanges_eq_nil_iff.mp waits
  obtain ⟨l, parts⟩ := s.switched_parts i b
  have pending := State.switched_waits waits differs
  have condNow := s.switched_condNow i b
  have inputs := s.switched_inputs i b
  set w := s.switched i b with hw
  have params : w.params = s.params := by rw [parts]; rfl
  have now : w.now = s.now := by rw [parts]; rfl
  have changes : w.inputs.changes = [] := by rw [inputs, InputUnit.setSwitch_changes, none]
  obtain ⟨u, took, same, kept, trips, units⟩ :=
    State.takeCond_of_noLockHold (s := w) (condOf i) b (by rw [params]; exact instant) (by rw [params]; exact free)
  obtain ⟨l', parts'⟩ := w.afterCond_log (condOf i) b
  have taken : (w.afterCond (condOf i) b).setInputs u = (w.setInputs u).setLog l' := by
    rw [parts']
    rfl
  have rest : ((w.afterCond (condOf i) b).setInputs u).waitingChanges = [] := by
    rw [taken, State.waitingChanges_eq_nil_iff]
    refine ⟨kept.trans changes, fun c handed => ?_⟩
    have stands : ((w.setInputs u).setLog l').condNow c = w.condNow c :=
      State.condNow_congr (s := w) (t := (w.setInputs u).setLog l') (fun j => (same.switch j).trans (InputUnit.afterChange_switch ..)) rfl rfl (fun _ => rfl) rfl rfl handed
    rw [stands, condNow, State.setLog_inputs, State.setInputs_inputs, same.cond,
      InputUnit.afterChange_cond _ _ _ handed (condOf_handedOn i)]
    split
    · rfl
    · rw [inputs, InputUnit.cond_of_conds (InputUnit.setSwitch_conds ..) handed, listed c handed]
  have handOn : w.handOn = (w.afterCond (condOf i) b).setInputs u := by
    rw [State.handOn, State.handOnN_succ pending, State.setChanges_same changes, took, State.handOnN_of_nothing_waits _ rest]
  have alike : WeighAlike s ((w.setInputs u).setLog l') := by
    rw [parts]
    refine ⟨rfl, rfl, rfl, rfl, rfl, ?_, ?_, rfl⟩
    · show gradeOf u.trips = _
      rw [trips, inputs, InputUnit.setSwitch_trips]
      rfl
    · rw [State.combined_of_noLockHold free]
      exact State.combined_of_noLockHold (by exact free)
  have settled : ((w.setInputs u).setLog l').settle = ((w.setInputs u).setLog l').weighUncommanded :=
    State.settle_of_rest (taken ▸ rest) (alike.undecided undecided) (phases.of_slot alike.slot)
  have awake (src : WakeSource) (x : Bool) : (if x = true then ((w.setInputs u).setLog l').wake src
      else (w.setInputs u).setLog l') = (w.setInputs u).setLog l' := by
    have stays : ((w.setInputs u).setLog l').wake src = (w.setInputs u).setLog l' :=
      if_neg (by rw [alike.latch, run]; exact nofun)
    rw [stays, ite_self]
  refine ⟨u, ?_, params ▸ same, fun x => ?_⟩
  · rw [State.inputChanged_eq, ← hw, handOn, taken, ← settled]
    congr 1
    cases i
    case key => exact absurd rfl key
    case lift => exact absurd rfl lift
    all_goals exact awake ..
  · rw [units x, params, now]

theorem InputUnit.afterChange_setSwitch (p : Params) (c : Cond) (b : Bool) (u : InputUnit) (i : Input) (r : SwitchRec) :
    (u.setSwitch i r).afterChange p c b = (u.afterChange p c b).setSwitch i r := by cases i <;> rfl

theorem InputUnit.setSwitch_cond (u : InputUnit) (i : Input) (r : SwitchRec) (c : Cond) :
    (u.setSwitch i r).cond c = u.cond c := by cases i <;> cases c <;> rfl

theorem InputUnit.setSwitch_readTripUnit (u : InputUnit) (i : Input) (r : SwitchRec) (x : TripUnit) (cfg : TripCfg) (now : Nat) :
    (u.setSwitch i r).readTripUnit x cfg now = u.readTripUnit x cfg now := by
  have selected : (u.setSwitch i r).tripSelected x cfg = u.tripSelected x cfg := by
    cases x <;> simp [InputUnit.tripSelected, InputUnit.select, InputUnit.setSwitch_cond]
  rw [InputUnit.readTripUnit, InputUnit.readTripUnit, selected, InputUnit.setSwitch_tripUnit]

theorem exec_inputChange_of_due {dt : Nat} {i : Input} {b : Bool} {s : State} (differs : b ≠ (s.inputs.switch i).active)
    (due : ((s.inputs.switch i).differSince.getD (s.now + dt)) + s.params.debounce.toNat * 1000 ≤ s.now + dt) :
    exec (.inputChange dt i b) s =
      .next (((s.advance dt).setPins { s.pins with switches := setLevel s.pins.switches i b }).inputChanged i b) := by
  show Host.Outcome.next (State.switchSample i b _) = _
  rw [State.switchSample, if_neg (by exact differs)]
  exact congrArg _ (if_pos (by exact due))

theorem State.switched_eq_logEvents (i : Input) (b : Bool) (s : State) : (s.switched i b).log =
    (s.logEvents (if s.params.inputEventMask.getLsbD (inputCode i) then [.inputChange i b] else [])).log := by
  rw [State.switched_eq, State.setInputs_logEvents]
  rfl

theorem State.afterCond_logged (c : Cond) (b : Bool) (s : State) :
    LoggedFirst s (combinerEvents s.params s.inputs (s.inputs.afterChange s.params c b)) (s.afterCond c b) := by
  obtain ⟨l, parts⟩ := s.afterCond_log c b
  refine LoggedFirst.of_logEvents (by rw [parts]; rfl) ?_
  rw [State.afterCond_eq, State.setInputs_logEvents]
  exact List.prefix_refl _

theorem combinerEvents_setSwitch (p : Params) (u v : InputUnit) (i : Input) (r : SwitchRec) :
    combinerEvents p (u.setSwitch i r) (v.setSwitch i r) = combinerEvents p u v := by
  simp only [combinerEvents, InputUnit.setSwitch_combiner]

/-- Settles O36. -/
theorem combinersComputeTheirFunctions : Obligations.CombinersComputeTheirFunctions := by
  refine ⟨fun u cfg r => ?functions, fun c b s instant => ?taken, fun n c b rest s waits => State.handOnN_succ waits,
    fun dt i b s key lift differs due run instant phases free undecided waits changes => ?changed⟩
  case functions =>
    dsimp only
    rw [InputUnit.evaluate_output_inverted]
    refine ⟨fun e => ?_, fun e => ?_, fun e => ?_, fun e => ?_, fun e => ?_, fun e => ?_, fun e => ⟨?_, ?_, ?_, ?_⟩, fun ne => ?_⟩
    · rw [e]; rfl
    · rw [e]; rfl
    · rw [e]; rfl
    · rw [e]; exact CombinerFn.odd_iff ..
    · rw [e]; exact CombinerFn.majority_iff ..
    · rw [e]; rfl
    · rw [e]; rfl
    · intro clears
      rw [InputUnit.evaluate, e]
      exact if_pos (by exact clears)
    · intro stands sets
      rw [InputUnit.evaluate, e]
      exact (if_neg (by rw [InputUnit.select, stands]; exact nofun)).trans (if_pos (by exact sets))
    · intro stands keeps
      rw [InputUnit.evaluate, e]
      exact (if_neg (by rw [InputUnit.select, stands]; exact nofun)).trans
        (if_neg (by rw [InputUnit.select, keeps]; exact nofun))
    · exact CombinerFn.nextStored_of_ne_latch ne ..
  case taken =>
    obtain ⟨v, took, same, kept, trips, units⟩ := State.takeCond_taken (s := s) c b instant
    obtain ⟨l, parts⟩ := s.afterCond_log c b
    have heard : (s.afterCond c b).hearLatch = ((combinerEvents s.params s.inputs (s.inputs.afterChange s.params c b)).foldl
        (fun s e => s.logEvent e) (s.setInputs (s.inputs.afterChange s.params c b))).hearLatch := by
      rw [State.afterCond_eq]
      rfl
    have combined : (s.afterCond c b).combined = (s.setInputs (s.inputs.afterChange s.params c b)).combined := by
      rw [parts]
      rfl
    rw [took]
    refine ⟨same.conds, same.combiner, (s.afterCond_logged c b).grows ?_, fun e => ?_, fun ne => ?_, fun x => ?_⟩
    · have move := State.hearLatch_latchMove (s.afterCond c b)
      have stays : LatchMove (s.afterCond c b) (if (s.afterCond c b).combined != s.combined then (s.afterCond c b).hearLatch
        else s.afterCond c b) := .ite _ move (.refl _)
      refine stays.consequence.trans (.of (switches := fun j => ?_) (trips := ?_))
      · rw [State.setInputs_inputs, same.switch, stays.switch, s.afterCond_inputs]
      · rw [State.setInputs_inputs, trips, stays.trips, s.afterCond_inputs]
        exact List.prefix_refl _
    · rw [combined, e, if_neg (by simp)] at kept ⊢
      rw [State.setInputs_inputs, kept, s.afterCond_inputs, parts]
      exact ⟨rfl, rfl⟩
    · rw [combined, if_pos (by simpa using ne)] at kept ⊢
      rw [← heard]
      exact ⟨rfl, kept⟩
    · rw [State.setInputs_inputs, units, InputUnit.readTripUnit_eq, InputUnit.afterChange_tripUnit]
  case changed =>
    refine ⟨_, exec_inputChange_of_due differs due, ?_⟩
    set v := (s.advance dt).setPins { s.pins with switches := setLevel s.pins.switches i b } with hv
    have alike : WeighAlike s v := ⟨rfl, rfl, rfl, rfl, rfl, rfl, rfl, rfl⟩
    obtain ⟨u, whole, same, units⟩ := State.inputChanged_quiet (s := v) key lift run instant phases free
      (alike.undecided undecided) waits changes
    obtain ⟨l, parts⟩ := (v.switched i b).afterCond_log (condOf i) b
    have logged := (v.switched i b).afterCond_logged (condOf i) b
    have inputs := v.switched_inputs i b
    have params : (v.switched i b).params = s.params := by
      obtain ⟨l, e⟩ := v.switched_parts i b
      rw [e]
      rfl
    rw [params, inputs, InputUnit.afterChange_setSwitch, combinerEvents_setSwitch] at logged
    rw [inputs, show v.params = s.params from rfl, InputUnit.afterChange_setSwitch] at same units
    obtain ⟨m, weighed⟩ := (((v.switched i b).afterCond (condOf i) b).setInputs u).weighUncommanded_eq
    have stays : ((((v.switched i b).afterCond (condOf i) b).setInputs u).weighUncommanded).inputs = u := by
      rw [weighed]
      rfl
    rw [whole]
    have now : (((v.switched i b).afterCond (condOf i) b).setInputs u).weighUncommanded.now = v.now := by
      obtain ⟨k, e⟩ := v.switched_parts i b
      rw [weighed, parts, e]
      rfl
    refine ⟨fun k => ?_, fun c => ?_, LoggedFirst.behind (s := v) (u := v.switched i b) ?_ (v.switched_eq_logEvents i b) now, fun x => ?_⟩
    · rw [stays, same.combiner, InputUnit.setSwitch_combiner]
      rfl
    · rw [stays, same.cond, InputUnit.setSwitch_cond]
      rfl
    · rw [weighed]
      exact logged
    · rw [stays, units, InputUnit.setSwitch_readTripUnit, InputUnit.readTripUnit_eq, InputUnit.afterChange_tripUnit]
      rfl

end Sys2Proof.Machine
end

section
/-! PROOFS. PERMITs only end inside the part; what waking leaves alone; INPUT_CHANGE (R131, R132, R124, R128, R129). -/

namespace Sys2Proof.Machine

/-! ## PERMITs only end -/

/-- No demand item changes but that a PERMIT may end (R124). -/
structure PermitsEnd (s t : State) : Prop where
  item : ∀ p, t.latch.item p = s.latch.item p ∨ (s.latch.item p = .permit ∧ t.latch.item p = .none)

theorem PermitsEnd.refl (s : State) : PermitsEnd s s := ⟨fun _ => .inl rfl⟩

theorem PermitsEnd.of {s t : State} (same : t.latch = s.latch) : PermitsEnd s t := ⟨fun p => .inl (by rw [same])⟩

theorem PermitsEnd.trans {s t u : State} (h : PermitsEnd s t) (k : PermitsEnd t u) : PermitsEnd s u := ⟨fun p => by
  obtain same | ⟨permit, ended⟩ := h.item p
  · rw [← same]
    exact k.item p
  · refine .inr ⟨permit, ?_⟩
    obtain same | ⟨permit', -⟩ := k.item p
    · exact same.trans ended
    · exact absurd (ended.symm.trans permit') (by decide)⟩

theorem PermitsEnd.ite {s a b : State} (c : Prop) [Decidable c] (h : PermitsEnd s a) (k : PermitsEnd s b) :
    PermitsEnd s (if c then a else b) := by split <;> assumption

/-- A PERMIT that does not stand does not come to stand. -/
theorem PermitsEnd.absent {s t : State} (h : PermitsEnd s t) {p : Port} (absent : s.latch.item p ≠ .permit) :
    t.latch.item p ≠ .permit := by
  obtain same | ⟨permit, -⟩ := h.item p
  · rwa [same]
  · exact absurd permit absent

theorem LatchMove.permitsEnd {s t : State} (h : LatchMove s t) : PermitsEnd s t := ⟨fun p => by
  cases p
  · exact .inl h.itemA
  · exact .inl h.itemB⟩

theorem State.endPermit_permitsEnd (p : Port) (s : State) : PermitsEnd s (s.endPermit p) := ⟨fun q => by
  by_cases own : q = p
  · rw [own, State.endPermit_item]
    split
    next permit => exact .inr ⟨permit, rfl⟩
    next => exact .inl rfl
  · have other : p = otherPort q := by cases p <;> cases q <;> simp_all [otherPort]
    rw [other, State.endPermit_other]
    exact .inl rfl⟩

theorem State.setDrive_latch (x : Axis) (d : Int) (s : State) : (s.setDrive x d).latch = s.latch := by cases x <;> rfl

theorem State.setResult_latch (x : Axis) (r : ResultRec) (s : State) : (s.setResult x r).latch = s.latch := by cases x <;> rfl

theorem State.leaveSession_latch (x : Axis) (s : State) : (s.leaveSession x).latch = s.latch := by cases x <;> rfl

theorem State.finishService_latch (x : Axis) (s : State) : (s.finishService x).latch = s.latch :=
  (State.leaveSession_latch x _).trans (State.setDrive_latch x 0 s)

/-- The end of a routine touches the latch only where it tells it of a slip (R102, R103). -/
theorem State.finishRoutine_latch (r : Routine) (o : RoutineOutcome) (s : State) : (s.finishRoutine r o false).latch = s.latch := by
  unfold State.finishRoutine
  dsimp only
  refine (State.leaveSession_latch r.axis _).trans ((State.setResult_latch r.axis _ _).trans ?_)
  rw [if_neg (by exact nofun)]
  split
  · exact State.setDrive_latch r.axis 0 s
  · exact State.setDrive_latch r.axis 0 s

theorem State.finishRoutine_permitsEnd (r : Routine) (o : RoutineOutcome) (s : State) :
    PermitsEnd s (s.finishRoutine r o false) := .of (State.finishRoutine_latch r o s)

theorem State.abortSession_latch (s : State) : s.abortSession.latch = s.latch := by
  unfold State.abortSession
  split
  · exact State.finishRoutine_latch _ _ s
  · exact State.finishService_latch _ s
  · rfl
  · rfl

theorem State.dropHold_permitsEnd (reason : EndReason) (s : State) : PermitsEnd s (s.dropHold reason) := by
  unfold State.dropHold
  split
  · exact .refl s
  · unfold State.endHoldCore
    refine .trans ?_ (State.endPermit_permitsEnd _ _)
    exact .of (State.abortSession_latch ((s.logEvent (.holdEnd reason)).setPath .empty))

theorem State.handGrade_permitsEnd (old : Grade) (s : State) : PermitsEnd s (s.handGrade old) := by
  unfold State.handGrade
  refine .trans (t := if old ≠ .lockdown && s.grade = .lockdown then s.hearLatch else s)
    (.ite _ (State.hearLatch_latchMove s).permitsEnd (.refl s)) (.ite _ ?_ (.refl _))
  exact ((State.dropHold_permitsEnd .safe _).trans (.of (State.abortSession_latch _))).trans
    (State.announce_latchMove _).permitsEnd

theorem State.fireTrip_permitsEnd (id : TripId) (sev : Severity) (s : State) : PermitsEnd s (s.fireTrip id sev) :=
  .ite _ (.refl s) (.trans (t := s.addTrip id sev) (.of rfl) (State.handGrade_permitsEnd _ _))

theorem State.evaluateCombiner_permitsEnd (q : Bool) (i : CombinerId) (s : State) : PermitsEnd s (s.evaluateCombiner q i) := by
  unfold State.evaluateCombiner
  exact .trans (t := s.setInputs (s.inputs.setCombiner i _)) (.of rfl) (.ite _ (State.logEvent_latchMove _ _).permitsEnd (.refl _))

theorem State.evaluateTripUnit_permitsEnd (x : TripUnit) (s : State) : PermitsEnd s (s.evaluateTripUnit x) := by
  unfold State.evaluateTripUnit
  refine .trans (t := s.setInputs (s.inputs.setTripUnit x _)) (.of rfl) (.ite _ ?_ (.refl _))
  unfold State.fireTripUnit
  refine .trans ?_ (State.fireTrip_permitsEnd _ _ _)
  exact .of rfl

theorem State.evaluateInputs_permitsEnd (q old : Bool) (s : State) : PermitsEnd s (s.evaluateInputs q old) := by
  have combiners : PermitsEnd s (s.evaluateCombiners q old) := by
    have h := ((State.evaluateCombiner_permitsEnd q .c0 s).trans (State.evaluateCombiner_permitsEnd q .c1 _)).trans
      (State.evaluateCombiner_permitsEnd q .c2 _)
    exact .ite _ (h.trans (State.hearLatch_latchMove _).permitsEnd) h
  exact (combiners.trans (State.evaluateTripUnit_permitsEnd .t1 _)).trans (State.evaluateTripUnit_permitsEnd .t2 _)

theorem State.handOnN_permitsEnd (k : Nat) (s : State) : PermitsEnd s (s.handOnN k) := by
  induction k generalizing s with
  | zero => exact .refl s
  | succ k ih =>
    unfold State.handOnN
    split
    · exact .refl s
    · next x rest _ =>
      refine .trans (.trans (t := s.setChanges rest) (.of rfl) ?_) (ih _)
      unfold State.takeCond
      refine .trans ?_ (State.evaluateInputs_permitsEnd _ _ _)
      exact .of rfl

theorem State.beginPhase_permitsEnd (r : Routine) (ph : Phase) (s : State) : PermitsEnd s (s.beginPhase r ph) := by
  have driven (q : Routine) (x : Axis) (d : Int) : PermitsEnd s ((s.setSlot (.routine q)).setDrive x d) :=
    .of (State.setDrive_latch x d _)
  have asked (q : Routine) (d : Direction) : PermitsEnd s ((s.setSlot (.routine q)).askSet d) :=
    .trans (t := s.setSlot (.routine q)) (.of rfl) (State.askSet_latchMove d _).permitsEnd
  unfold State.beginPhase
  cases ph
  case release | engage => exact asked ..
  case sweepLeft | sweepRight | pushLeft | pushRight => exact driven ..
  all_goals exact .of rfl

theorem State.completePhase_permitsEnd (r : Routine) (s : State) : PermitsEnd s (s.completePhase r) := by
  unfold State.completePhase
  split
  · exact State.beginPhase_permitsEnd r _ s
  · exact State.finishRoutine_permitsEnd r _ s

theorem State.settleN_permitsEnd (k : Nat) (s : State) : PermitsEnd s (s.settleN k) := by
  induction k generalizing s with
  | zero => exact (State.handOnN_permitsEnd 32 s).trans (State.restPreload_latchMove _).permitsEnd
  | succ k ih =>
    have heard : PermitsEnd s s.handOn.weighUncommanded :=
      (State.handOnN_permitsEnd 32 s).trans (State.weighUncommanded_latchMove _).permitsEnd
    unfold State.settleN
    dsimp only
    split
    · next h => exact (heard.trans (State.decideLatch_latchMove h).permitsEnd).trans (ih _)
    · split
      · exact (heard.trans (State.completePhase_permitsEnd _ _)).trans (ih _)
      · exact heard

/-- Settling begins no PERMIT, and no LOCK. -/
theorem State.settle_permitsEnd (s : State) : PermitsEnd s s.settle := State.settleN_permitsEnd 8 s

/-! ## What waking leaves alone -/

/-- Consequences inside the part, waking, which restarts the solve and the dropout watch (R129), and what the latch controller
keeps of KEY (R128). -/
structure Stirs (s t : State) : Prop where
  now : t.now = s.now
  outside : SameOutside s t
  speed : SameSpeed s t
  angles : SameAngles s t
  switches : SameSwitches s t
  settings : SameSettings s t
  grows : OnlyGrows s t

theorem Consequence.stirs {s t : State} (c : Consequence s t) : Stirs s t :=
  ⟨c.now, c.outside, c.speed, c.angles, c.switches, c.settings, c.grows⟩

theorem Stirs.trans {s t u : State} (h : Stirs s t) (k : Stirs t u) : Stirs s u where
  now := k.now.trans h.now
  outside := h.outside.trans k.outside
  speed := h.speed.trans k.speed
  angles := by
    obtain ⟨a, b, c, d⟩ := h.angles
    obtain ⟨a', b', c', d'⟩ := k.angles
    exact ⟨a'.trans a, b'.trans b, c'.trans c, d'.trans d⟩
  switches i := (k.switches i).trans (h.switches i)
  settings := k.settings.trans h.settings
  grows := by
    obtain ⟨records, trips⟩ := h.grows
    obtain ⟨records', trips'⟩ := k.grows
    exact ⟨records.trans records', trips.trans trips'⟩

theorem Stirs.ite {s a b : State} (c : Prop) [Decidable c] (h : Stirs s a) (k : Stirs s b) :
    Stirs s (if c then a else b) := by split <;> assumption

theorem Stirs.logged {s t u : State} {es : List Event} (h : LoggedFirst s es t) (k : Stirs t u) : LoggedFirst s es u := by
  rw [LoggedFirst, k.now]
  obtain ⟨records, -⟩ := k.grows
  exact h.trans records

theorem State.wakeNow_stirs (src : WakeSource) (s : State) : Stirs s (s.wakeNow src) :=
  ⟨rfl, ⟨rfl, rfl, rfl, rfl, rfl⟩, .inl rfl, ⟨rfl, rfl, rfl, rfl⟩, fun _ => rfl, rfl,
    EventLog.append_prefix .., List.prefix_refl _⟩

theorem State.wake_stirs (src : WakeSource) (s : State) : Stirs s (s.wake src) :=
  .ite _ ((State.wakeNow_stirs src s).trans (State.settle_consequence _).stirs) (Consequence.refl s).stirs

theorem State.wake_permitsEnd (src : WakeSource) (s : State) : PermitsEnd s (s.wake src) :=
  .ite _ (.trans (t := s.wakeNow src) ⟨fun p => by cases p <;> exact .inl rfl⟩ (State.settle_permitsEnd _)) (.refl s)

/-- What the latch controller keeps of KEY (R128). -/
def LatchUnit.keyTime (l : LatchUnit) : Bool × Option Nat := (l.autoPark, l.keyOffSince)

theorem Consequence.keyTime {s t : State} (c : Consequence s t) : t.latch.keyTime = s.latch.keyTime := by
  obtain ⟨-, -, -, -, keyOff, autoPark⟩ := c.latchClock
  rw [LatchUnit.keyTime, keyOff, autoPark]
  rfl

theorem State.wake_keyTime (src : WakeSource) (s : State) : (s.wake src).latch.keyTime = s.latch.keyTime := by
  unfold State.wake
  split
  · exact (State.settle_consequence (s.wakeNow src)).keyTime
  · rfl

theorem State.wake_items {src : WakeSource} {s : State} (instant : s.params.noInstantTrip) (p : Port) :
    (s.wake src).latch.item p = s.latch.item p := by
  unfold State.wake
  split
  · have quiet := State.settle_quiet (s.wakeNow src) instant
    cases p
    · exact quiet.itemA
    · exact quiet.itemB
  · rfl

theorem Quiet.demand {s t : State} (q : Quiet s t) (p : Port) : t.latch.item p = s.latch.item p := by
  cases p
  · exact q.itemA
  · exact q.itemB

/-! ## A change of an input is reported (R132) -/

/-- What the latch controller does of its own with a change of an input (R124, R128). -/
def State.heardInput (i : Input) (active : Bool) (s : State) : State :=
  match i with
  | .key => s.setLatchUnit (s.latch.keyChanged active s.now)
  | .lift => if active then s else (s.endPermit .a).endPermit .b
  | _ => s

/-- The source's place in WAKE_MASK of a change of an input (R129). -/
def wakeBit (i : Input) : Nat := if i = .key then 1 else 2

/-- The source that a change of an input wakes with (R129). -/
def wakeSource (i : Input) : WakeSource := if i = .key then .key else .input

theorem State.endPermits_params (s : State) : ((s.endPermit .a).endPermit .b).params = s.params :=
  (State.endPermit_params .b _).trans (State.endPermit_params .a s)

theorem State.heardInput_params (i : Input) (active : Bool) (s : State) : (s.heardInput i active).params = s.params := by
  cases i
  case lift =>
    unfold State.heardInput
    dsimp only
    split
    · rfl
    · exact s.endPermits_params
  all_goals rfl

theorem State.reportInput_eq (i : Input) (active : Bool) (s : State) : s.reportInput i active =
    if s.params.wakeMask.getLsbD (wakeBit i) then (s.heardInput i active).wake (wakeSource i) else s.heardInput i active := by
  cases i
  case lift =>
    rw [← State.heardInput_params .lift active s]
    rfl
  all_goals rfl

theorem State.heardInput_consequence {i : Input} (other : i ≠ .key) (active : Bool) (s : State) :
    Consequence s (s.heardInput i active) := by
  cases i
  case key => exact absurd rfl other
  case lift => exact .ite _ (.refl s) ((State.endPermit_consequence .a s).trans (State.endPermit_consequence .b _))
  all_goals exact .refl s

theorem State.heardInput_stirs (i : Input) (active : Bool) (s : State) : Stirs s (s.heardInput i active) := by
  by_cases key : i = .key
  · rw [key]
    exact ⟨rfl, ⟨rfl, rfl, rfl, rfl, rfl⟩, .inl rfl, ⟨rfl, rfl, rfl, rfl⟩, fun _ => rfl, rfl, List.prefix_refl _, List.prefix_refl _⟩
  · exact (State.heardInput_consequence key active s).stirs

theorem State.heardInput_run (i : Input) (active : Bool) (s : State) : (s.heardInput i active).latch.run = s.latch.run := by
  by_cases key : i = .key
  · rw [key]
    cases active <;> rfl
  · exact (State.heardInput_consequence key active s).latchClock.2.2.2.1

theorem State.heardInput_key (active : Bool) (s : State) : (s.heardInput .key active).latch.keyTime =
    (s.latch.autoPark && !active, if active then .none else some s.now) := by
  cases active <;> simp [State.heardInput, LatchUnit.keyChanged, LatchUnit.keyTime, State.setLatchUnit]

theorem State.heardInput_items {i : Input} {active : Bool} (stands : i ≠ .lift ∨ active = true) (s : State) (p : Port) :
    (s.heardInput i active).latch.item p = s.latch.item p := by
  cases i
  case key => cases active <;> cases p <;> rfl
  case lift =>
    obtain other | on := stands
    · exact absurd rfl other
    · rw [on]
      rfl
  all_goals rfl

/-- LIFT becoming inactive ends every PERMIT (R124). -/
theorem State.heardInput_lift (s : State) (p : Port) : (s.heardInput .lift false).latch.item p ≠ .permit := by
  show ((s.endPermit .a).endPermit .b).latch.item p ≠ .permit
  cases p
  case a =>
    rw [show (.b : Port) = otherPort .a from rfl, State.endPermit_other, State.endPermit_item]
    split
    · exact nofun
    · assumption
  case b =>
    rw [State.endPermit_item]
    split
    · exact nofun
    · assumption

theorem State.reportInput_stirs (i : Input) (active : Bool) (s : State) : Stirs s (s.reportInput i active) := by
  rw [State.reportInput_eq]
  have heard := State.heardInput_stirs i active s
  exact .ite _ (heard.trans (State.wake_stirs _ _)) heard

theorem State.reportInput_keyTime (i : Input) (active : Bool) (s : State) :
    (s.reportInput i active).latch.keyTime = (s.heardInput i active).latch.keyTime := by
  rw [State.reportInput_eq]
  split
  · exact State.wake_keyTime ..
  · rfl

theorem State.reportInput_run {i : Input} {active : Bool} {s : State} (parked : s.latch.run = .parked) :
    (s.reportInput i active).latch.run = if s.params.wakeMask.getLsbD (wakeBit i) then .run else .parked := by
  rw [State.reportInput_eq]
  split
  · exact State.wake_latch_run ..
  · exact (State.heardInput_run i active s).trans parked

theorem State.reportInput_permitsEnd (i : Input) (active : Bool) (s : State) :
    PermitsEnd (s.heardInput i active) (s.reportInput i active) := by
  rw [State.reportInput_eq]
  exact .ite _ (State.wake_permitsEnd _ _) (.refl _)

theorem State.reportInput_items {i : Input} {active : Bool} {s : State} (instant : s.params.noInstantTrip)
    (stands : i ≠ .lift ∨ active = true) (p : Port) : (s.reportInput i active).latch.item p = s.latch.item p := by
  have heard := State.heardInput_items stands s p
  rw [State.reportInput_eq]
  split
  · exact (State.wake_items (by rw [State.heardInput_params]; exact instant) p).trans heard
  · exact heard

/-! ## INPUT_CHANGE (R131) -/

theorem InputUnit.setSwitch_switch (u : InputUnit) (i : Input) (r : SwitchRec) : (u.setSwitch i r).switch i = r := by
  cases i <;> rfl

theorem InputUnit.setSwitch_switch_other (u : InputUnit) {i j : Input} (other : j ≠ i) (r : SwitchRec) :
    (u.setSwitch i r).switch j = u.switch j := by
  cases i <;> cases j <;> simp_all [InputUnit.setSwitch, InputUnit.switch]

theorem LatchUnit.item_ne_permit {l : LatchUnit} (absent : ∀ p, l.item p ≠ .permit) : l.itemA ≠ .permit ∧ l.itemB ≠ .permit :=
  ⟨absent .a, absent .b⟩

theorem State.switched_framed (i : Input) (b : Bool) (s : State) :
    (s.switched i b).now = s.now ∧ SameOutside s (s.switched i b) ∧ (s.switched i b).speed = s.speed ∧
      SameAngles s (s.switched i b) ∧ (s.switched i b).params = s.params ∧ (s.switched i b).latch = s.latch ∧
      OnlyGrows s (s.switched i b) := by
  obtain ⟨l, parts⟩ := s.switched_parts i b
  have log := s.switched_eq_logEvents i b
  have trips : (s.switched i b).inputs.trips = s.inputs.trips := by
    rw [s.switched_inputs, InputUnit.setSwitch_trips]
  have records : s.log.records <+: (s.switched i b).log.records := by
    rw [log]
    split
    · exact EventLog.append_prefix ..
    · exact List.prefix_refl _
  refine ⟨?_, ?_, ?_, ?_, ?_, ?_, records, trips ▸ List.prefix_refl _⟩ <;> rw [parts]
  · rfl
  · exact ⟨rfl, rfl, rfl, rfl, rfl⟩
  · rfl
  · exact ⟨rfl, rfl, rfl, rfl⟩
  · rfl
  · rfl

/-- Settles O35. -/
theorem inputSamplesDebounce : Obligations.InputSamplesDebounce := by
  intro dt i b s
  refine ⟨fun differs due => ⟨_, exec_inputChange_of_due differs due, ?_⟩, fun differs early => ?_, fun agrees => ?_⟩
  case refine_2 =>
    show Host.Outcome.next (State.switchSample i b _) = _
    rw [State.switchSample, if_neg (by exact differs)]
    exact congrArg _ (if_neg (by exact Nat.not_le.mpr early))
  case refine_3 =>
    show Host.Outcome.next (State.switchSample i b _) = _
    rw [State.switchSample, if_pos (by exact agrees)]
    rfl
  case refine_1 =>
    set v := (s.advance dt).setPins { s.pins with switches := setLevel s.pins.switches i b } with hv
    obtain ⟨now, outside, speed, angles, params, latch, grows⟩ := v.switched_framed i b
    have switched := v.switched_inputs i b
    have log := v.switched_eq_logEvents i b
    rw [State.inputChanged_eq]
    set w := v.switched i b
    have handed := State.handOn_consequence w
    have calm := State.handOn_calm w
    set h := w.handOn
    have reported := h.reportInput_stirs i b
    have settled := State.settle_consequence (h.reportInput i b)
    have keyTime : (h.reportInput i b).settle.latch.keyTime = (h.heardInput i b).latch.keyTime :=
      settled.keyTime.trans (h.reportInput_keyTime i b)
    have ends := (h.reportInput_permitsEnd i b).trans (State.settle_permitsEnd _)
    have stirs : Stirs w (h.reportInput i b).settle := (handed.stirs.trans reported).trans settled.stirs
    have mask : h.params.wakeMask = s.params.wakeMask :=
      calc h.params.wakeMask
        _ = h.params.unlearned.wakeMask := rfl
        _ = w.params.unlearned.wakeMask := congrArg Params.wakeMask handed.settings
        _ = s.params.wakeMask := by rw [params]; rfl
    have items (stands : i ≠ .lift ∨ b = true) (instant : s.params.noInstantTrip) (p : Port) :
        (h.reportInput i b).settle.latch.item p = s.latch.item p := by
      have instant' : w.params.noInstantTrip := by rw [params]; exact instant
      have quiet := (calm instant').1
      have instant'' := quiet.settings.noInstantTrip instant'
      calc (h.reportInput i b).settle.latch.item p
        _ = (h.reportInput i b).latch.item p := (State.settle_quiet _ (reported.settings.noInstantTrip instant'')).demand p
        _ = h.latch.item p := h.reportInput_items instant'' stands p
        _ = w.latch.item p := quiet.demand p
        _ = s.latch.item p := by rw [latch]; rfl
    have hKey : h.latch.keyTime = s.latch.keyTime := by rw [handed.keyTime, latch]; rfl
    have hNow : h.now = s.now + dt := handed.now.trans now
    obtain ⟨-, -, -, hRun, -⟩ := handed.latchClock
    obtain ⟨-, -, -, tRun, -⟩ := settled.latchClock
    set t := (h.reportInput i b).settle
    refine ⟨?_, ?_, fun j other => ?_, fun masked => ?_, fun key => ?_, fun lift off => ?_, fun stands instant => ?_,
      fun other => ?_, fun parked => ?_, ?_, ?_, ?_, ?_, ?_, ?_, ?_⟩
    · rw [stirs.switches, switched, InputUnit.setSwitch_switch]
    · rw [stirs.outside.pins, outside.pins]
      rfl
    · rw [stirs.switches, switched, InputUnit.setSwitch_switch_other _ other]
      rfl
    · refine Stirs.logged (t := w) ?_ stirs
      rw [if_pos (by exact masked)] at log
      exact LoggedFirst.of_logEvents (s := v) now (by rw [log])
    · rw [key, State.heardInput_key, hNow] at keyTime
      have autoPark : h.latch.autoPark = s.latch.autoPark := congrArg Prod.fst hKey
      rw [autoPark] at keyTime
      exact ⟨congrArg Prod.fst keyTime, congrArg Prod.snd keyTime⟩
    · refine LatchUnit.item_ne_permit fun p => ends.absent ?_
      rw [lift, off]
      exact h.heardInput_lift p
    · exact ⟨items stands instant .a, items stands instant .b⟩
    · have same := (keyTime.trans (State.heardInput_consequence other b h).keyTime).trans hKey
      exact ⟨congrArg Prod.fst same, congrArg Prod.snd same⟩
    · have sleeps : h.latch.run = .parked := hRun.trans (by rw [latch]; exact parked)
      rw [tRun, State.reportInput_run sleeps, mask]
      rfl
    · exact stirs.outside.portA.trans outside.portA
    · exact stirs.outside.portB.trans outside.portB
    · exact stirs.outside.store.trans outside.store
    · exact SameSpeed.trans (.inl speed) stirs.speed
    · obtain ⟨a, b, c, d⟩ := angles
      obtain ⟨a', b', c', d'⟩ := stirs.angles
      exact ⟨a'.trans a, b'.trans b, c'.trans c, d'.trans d⟩
    · exact stirs.settings.trans (congrArg Params.unlearned params)
    · obtain ⟨records, trips⟩ := grows
      obtain ⟨records', trips'⟩ := stirs.grows
      exact ⟨records.trans records', trips.trans trips'⟩

end Sys2Proof.Machine
end

section
/-! PROOFS. Settling where no trip fires at once and no phase waits: only the latch controller decides. What stands through
each of its operations stands through the settling. -/

namespace Sys2Proof.Machine

/-! ## What a decision leaves of the tilt axis and the input unit -/

/-- A move of the latch controller that announces nothing; the tilt drive may go off, in TRACK (R91, R92). -/
structure LatchTurn (s t : State) : Prop where
  inputs : t.inputs = s.inputs
  tilt : t.tilt = s.tilt ∨ (s.tilt.mode = .track ∧ t.tilt = s.tilt.undriven)

theorem LatchTurn.of {s t : State} (inputs : t.inputs = s.inputs := by rfl) (tilt : t.tilt = s.tilt := by rfl) : LatchTurn s t :=
  ⟨inputs, .inl tilt⟩

theorem LatchTurn.refl (s : State) : LatchTurn s s := .of

theorem LatchTurn.trans {s t u : State} (h : LatchTurn s t) (k : LatchTurn t u) : LatchTurn s u where
  inputs := k.inputs.trans h.inputs
  tilt := by
    obtain same | ⟨track, off⟩ := h.tilt <;> obtain same' | ⟨track', off'⟩ := k.tilt
    · exact .inl (same'.trans same)
    · exact .inr ⟨same ▸ track', by rw [off', same]⟩
    · exact .inr ⟨track, same'.trans off⟩
    · exact .inr ⟨track, by rw [off', off]; rfl⟩

theorem LatchTurn.ite {s a b : State} (c : Prop) [Decidable c] (h : LatchTurn s a) (k : LatchTurn s b) :
    LatchTurn s (if c then a else b) := by split <;> assumption

theorem State.latchClosed_turn (l : LatchState) (s : State) : LatchTurn s (s.setTilt (s.tilt.latchClosed l)) := by
  refine ⟨rfl, ?_⟩
  show s.tilt.latchClosed l = s.tilt ∨ (s.tilt.mode = .track ∧ s.tilt.latchClosed l = s.tilt.undriven)
  unfold AxisCtl.latchClosed
  split
  next closed =>
    simp only [Bool.and_eq_true, decide_eq_true_eq] at closed
    exact .inr ⟨closed.1, rfl⟩
  next => exact .inl rfl

theorem State.takeLatch_turn (l : LatchState) (s : State) : LatchTurn s (s.takeLatch l) := by
  unfold State.takeLatch
  refine .trans ?_ (State.latchClosed_turn l _)
  exact .ite _ .of .of

theorem State.setLatch_turn (l : LatchState) (s : State) : LatchTurn s (s.setLatch l) :=
  .trans (t := s.logEvent (.lockState l)) .of (State.takeLatch_turn l _)

theorem State.succeedSet_turn (d : Direction) (s : State) : LatchTurn s (s.succeedSet d) :=
  .trans (t := s.setSet none) .of (State.setLatch_turn _ _)

theorem State.openWindow_turn (x : AttemptSet) (s : State) : LatchTurn s (s.openWindow x) := by
  unfold State.openWindow
  refine .trans (t := (s.startPulse x.direction).setSet _) .of (.ite _ (State.succeedSet_turn _ _) (.refl _))

theorem State.startAttempt_turn (x : AttemptSet) (s : State) : LatchTurn s (s.startAttempt x) :=
  .ite _ .of (State.openWindow_turn x s)

theorem State.beginSet_turn (d : Direction) (o : SetOrigin) (s : State) : LatchTurn s (s.beginSet d o) := State.startAttempt_turn _ s

theorem State.endPreload_turn (s : State) : LatchTurn s s.endPreload :=
  .trans (.trans (t := s.setLatchUnit { s.latch with preloadEnd := none }) .of (State.setLatch_turn .releasing _))
    (State.beginSet_turn .release .own _)

theorem State.beginRelease_turn (s : State) : LatchTurn s s.beginRelease := by
  unfold State.beginRelease
  exact (State.setLatch_turn _ s).trans (.ite _ (State.endPreload_turn _) .of)

theorem State.abandonPreload_turn (s : State) : LatchTurn s s.abandonPreload :=
  .trans (t := s.setLatchUnit { s.latch with preloadEnd := none }) .of (State.setLatch_turn .engaged _)

theorem State.beginDirectRelease_turn (o : SetOrigin) (s : State) : LatchTurn s (s.beginDirectRelease o) :=
  (State.setLatch_turn _ s).trans (State.beginSet_turn _ _ _)

theorem State.beginPermitRelease_turn (s : State) : LatchTurn s s.beginPermitRelease :=
  .trans (t := s.setLatchUnit { s.latch with permitOf := s.latch.permitPort }) .of (State.beginDirectRelease_turn .permit _)

theorem State.beginEngage_turn (o : SetOrigin) (s : State) : LatchTurn s (s.beginEngage o) :=
  (State.setLatch_turn _ s).trans (State.beginSet_turn _ _ _)

theorem State.decideLatch_turn {s t : State} (h : s.decideLatch = some t) : LatchTurn s t := by
  obtain rfl | rfl | rfl | rfl | ⟨l, rfl⟩ := State.decideLatch_cases h
  · exact State.beginPermitRelease_turn s
  · exact State.beginRelease_turn s
  · exact State.abandonPreload_turn s
  · exact State.beginEngage_turn .own s
  · exact State.setLatch_turn l s

/-! ## The combined demand that stands -/

theorem State.combined_congr {s t : State} (params : t.params = s.params) (combiner : ∀ i, t.inputs.combiner i = s.inputs.combiner i) :
    t.combined = s.combined := by
  have c0 : t.inputs.c0 = s.inputs.c0 := combiner .c0
  have c1 : t.inputs.c1 = s.inputs.c1 := combiner .c1
  have c2 : t.inputs.c2 = s.inputs.c2 := combiner .c2
  rw [State.combined, State.combined, params, c0, c1, c2]

/-- No combiner depends on LOCKED, each stands as its selections give it, and no other condition waits to be taken. -/
structure State.Fixed (s : State) : Prop where
  changes : ∀ x ∈ s.inputs.changes, x.1 = .locked
  listed : ∀ c ∈ Cond.handedOn, c ≠ .locked → s.condNow c = s.inputs.cond c
  selects : ∀ i, (s.params.combiner i).a.cond ≠ .locked ∧ (s.params.combiner i).b.cond ≠ .locked ∧
    (s.params.combiner i).c.cond ≠ .locked
  stands : ∀ i, s.inputs.evaluate (s.params.combiner i) (s.inputs.combiner i) = s.inputs.combiner i

/-- The combined demand stands through what settling hands on: see `State.DemandSteady`. -/
def State.Steadied (s : State) : Prop := (∀ i, (s.params.combiner i).action ≠ .lockHold) ∨ s.Fixed

theorem State.DemandSteady.steadied {s : State} (h : s.DemandSteady) : s.Steadied := by
  obtain free | ⟨waits, fixed⟩ := h
  · exact .inl free
  · obtain ⟨none, listed⟩ := s.waitingChanges_eq_nil_iff.mp waits
    refine .inr ⟨by simp [none], fun c handed _ => listed c handed, fun i => ?_, fun i => ?_⟩
    · obtain ⟨a, b, c, -⟩ := fixed i
      exact ⟨a, b, c⟩
    · obtain ⟨-, -, -, e⟩ := fixed i
      exact e

theorem InputUnit.evaluate_congr {u v : InputUnit} {cfg : CombinerCfg} (r : CombinerRec) (a : v.cond cfg.a.cond = u.cond cfg.a.cond)
    (b : v.cond cfg.b.cond = u.cond cfg.b.cond) (c : v.cond cfg.c.cond = u.cond cfg.c.cond) : v.evaluate cfg r = u.evaluate cfg r := by
  simp only [InputUnit.evaluate, InputUnit.select, a, b, c]

theorem InputUnit.evaluated_of_stands {p : Params} {u : InputUnit}
    (stands : ∀ i, u.evaluate (p.combiner i) (u.combiner i) = u.combiner i) : u.evaluated p = u := by
  have c0 : u.evaluate p.c0 u.c0 = u.c0 := stands .c0
  have c1 : u.evaluate p.c1 u.c1 = u.c1 := stands .c1
  have c2 : u.evaluate p.c2 u.c2 = u.c2 := stands .c2
  simp only [InputUnit.evaluated, c0, c1, c2]

theorem CondList.cond_put_locked (u : InputUnit) (b : Bool) {c : Cond} (other : c ≠ .locked) :
    ({ u with conds := u.conds.put .locked b } : InputUnit).cond c = u.cond c := by
  rw [CondList.cond_put u c .locked b (by decide), if_neg other]

theorem State.Fixed.afterChange {s : State} (h : s.Fixed) (b : Bool) :
    s.inputs.afterChange s.params .locked b = { s.inputs with conds := s.inputs.conds.put .locked b } := by
  refine InputUnit.evaluated_of_stands fun i => ?_
  obtain ⟨x, y, z⟩ := h.selects i
  have combiner : ({ s.inputs with conds := s.inputs.conds.put .locked b } : InputUnit).combiner i = s.inputs.combiner i := by
    cases i <;> rfl
  rw [combiner, InputUnit.evaluate_congr (u := s.inputs) _ (CondList.cond_put_locked _ b x) (CondList.cond_put_locked _ b y)
    (CondList.cond_put_locked _ b z), h.stands]

/-- Only LOCKED waits. -/
theorem State.Fixed.waiting {s : State} (h : s.Fixed) : ∀ x ∈ s.waitingChanges, x.1 = .locked := by
  intro x waits
  rw [State.waitingChanges, List.mem_append] at waits
  obtain announced | differs := waits
  · exact h.changes x announced
  · obtain ⟨c, mem, rfl⟩ := List.mem_map.mp differs
    obtain ⟨handed, ne⟩ := List.mem_filter.mp mem
    by_contra other
    have none : s.inputs.changes.filter (fun x => x.1 = c) = [] := by
      refine List.filter_eq_nil_iff.mpr fun y mem => ?_
      rw [h.changes y mem]
      simpa using fun e => other e.symm
    rw [InputUnit.announced, none] at ne
    simp [h.listed c handed other] at ne

/-- What a fixed part's conditions and combiners rest on. -/
theorem State.Fixed.of_eq {s t : State} (h : s.Fixed) (changes : ∀ x ∈ t.inputs.changes, x.1 = .locked)
    (switches : SameSwitches s t) (speed : t.speed = s.speed) (params : t.params = s.params)
    (hold : t.auth.hold.isSome = s.auth.hold.isSome) (tilt : t.tilt.meas = s.tilt.meas)
    (cond : ∀ c, c ≠ .locked → t.inputs.cond c = s.inputs.cond c)
    (combiner : ∀ i, t.inputs.combiner i = s.inputs.combiner i) : t.Fixed where
  changes := changes
  listed c handed other := by
    rw [State.condNow_congr switches speed params (fun e => absurd e other) hold tilt handed, cond c other, h.listed c handed other]
  selects := params ▸ h.selects
  stands i := by
    obtain ⟨x, y, z⟩ := h.selects i
    rw [params, combiner, InputUnit.evaluate_congr (u := s.inputs) _ (cond _ x) (cond _ y) (cond _ z), h.stands]

theorem LatchMove.hold {s t : State} (h : LatchMove s t) : t.auth.hold.isSome = s.auth.hold.isSome := by rw [h.auth]

/-- A move of the latch controller that announces nothing leaves a fixed part fixed. -/
theorem State.Fixed.move {s t : State} (h : s.Fixed) (move : LatchMove s t) (same : t.inputs = s.inputs) : t.Fixed :=
  h.of_eq (same ▸ h.changes) move.switch move.speed move.params move.hold move.tilt_meas (fun _ _ => by rw [same])
    (fun _ => by rw [same])

theorem State.Steadied.move {s t : State} (h : s.Steadied) (move : LatchMove s t) (same : t.inputs = s.inputs) : t.Steadied :=
  h.imp (move.params ▸ id) (fun fixed => fixed.move move same)

theorem State.weighUncommanded_inputs (s : State) : s.weighUncommanded.inputs = s.inputs := by
  unfold State.weighUncommanded
  split <;> rfl

theorem LatchMove.of_decide {s t : State} (h : s.decideLatch = some t) : t.combined = s.combined :=
  State.combined_congr (State.decideLatch_latchMove h).params fun _ => by rw [(State.decideLatch_turn h).inputs]

/-! ## What stands through each operation stands through the settling -/

/-- A property that every operation of such a settling keeps: the input unit takes conditions, with its switches and the trip
set as they are, and where `steady`, with the combined demand as it is; a record is logged; an uncommanded closing is weighed;
the latch controller makes a decision. -/
structure Stable (steady : Prop) (P : State → Prop) : Prop where
  inputs : ∀ (s : State) (u : InputUnit), (∀ i, u.switch i = s.inputs.switch i) → u.trips = s.inputs.trips →
    (steady → (s.setInputs u).combined = s.combined) → P s → P (s.setInputs u)
  log : ∀ (s : State) (e : Event), P s → P (s.logEvent e)
  weigh : ∀ s : State, P s → P s.weighUncommanded
  decide : ∀ s t : State, s.decideLatch = some t → P s → P t

theorem Stable.logEvents {steady : Prop} {P : State → Prop} (h : Stable steady P) (es : List Event) (s : State) (p : P s) :
    P (s.logEvents es) := by
  induction es generalizing s with
  | nil => exact p
  | cons e es ih => exact ih (s.logEvent e) (h.log s e p)

theorem Stable.announce {steady : Prop} {P : State → Prop} (h : Stable steady P) {s : State} (p : P s) : P s.announce :=
  h.inputs s _ (fun i => by cases i <;> rfl) rfl (fun _ => rfl) p

theorem Stable.hearLatch {steady : Prop} {P : State → Prop} (h : Stable steady P) {s : State} (p : P s) : P s.hearLatch := by
  unfold State.hearLatch
  have weighed := h.weigh s p
  refine h.announce ?_
  cases decided : s.weighUncommanded.decideLatch with
  | none => exact weighed
  | some t => exact h.decide _ _ decided weighed

theorem State.afterCond_combined (c : Cond) (b : Bool) (s : State) :
    (s.afterCond c b).combined = (s.setInputs (s.inputs.afterChange s.params c b)).combined := by
  obtain ⟨l, parts⟩ := s.afterCond_log c b
  rw [parts]
  rfl

/-- Taking condition `c` leaves the combined demand: no combiner has LOCK_HOLD, or the part is fixed and `c` is LOCKED. -/
def State.Takes (c : Cond) (s : State) : Prop := (∀ i, (s.params.combiner i).action ≠ .lockHold) ∨ (s.Fixed ∧ c = .locked)

theorem State.Takes.taken {s : State} {c : Cond} (h : s.Takes c) (b : Bool) :
    (s.setInputs (s.inputs.afterChange s.params c b)).combined = s.combined := by
  obtain free | ⟨fixed, rfl⟩ := h
  · rw [State.combined_of_noLockHold free]
    exact State.combined_of_noLockHold (by exact free)
  · refine State.combined_congr rfl fun i => ?_
    rw [State.setInputs_inputs, fixed.afterChange]
    cases i <;> rfl

theorem Stable.takeCond {steady : Prop} {P : State → Prop} (h : Stable steady P) {s : State} {c : Cond} {b : Bool}
    (instant : s.params.noInstantTrip)
    (demand : steady → (s.setInputs (s.inputs.afterChange s.params c b)).combined = s.combined) (p : P s) :
    P (s.takeCond c b) := by
  obtain ⟨u, took, same, -, trips, -⟩ := State.takeCond_taken (s := s) c b instant
  have after : P (s.afterCond c b) := by
    rw [State.afterCond_eq]
    exact h.logEvents _ _ (h.inputs s _ (fun i => InputUnit.afterChange_switch _ c b _ i) rfl demand p)
  have readings : (s.inputs.afterChange s.params c b).SameReadings (s.afterCond c b).inputs := by
    rw [s.afterCond_inputs]
    exact .refl _
  rw [took]
  set w := if (s.afterCond c b).combined != s.combined then (s.afterCond c b).hearLatch else s.afterCond c b with hw
  have heard : P w ∧ (s.inputs.afterChange s.params c b).SameReadings w.inputs ∧ w.inputs.trips = s.inputs.trips := by
    rw [hw]
    split
    · have move := State.hearLatch_latchMove (s.afterCond c b)
      refine ⟨h.hearLatch after, readings.trans move.sameReadings, move.trips.trans ?_⟩
      rw [s.afterCond_inputs]
      rfl
    · refine ⟨after, readings, ?_⟩
      rw [s.afterCond_inputs]
      rfl
  obtain ⟨stands, before, tripped⟩ := heard
  refine h.inputs w u (fun i => ?_) (trips.trans tripped.symm) (fun _ => ?_) stands
  · rw [same.switch, before.switch]
  · exact State.combined_congr rfl fun i => (same.combiner i).trans (before.combiner i).symm

theorem State.Takes.takeCond {s : State} {c : Cond} (h : s.Takes c) (b : Bool) (instant : s.params.noInstantTrip) :
    (s.takeCond c b).Steadied := by
  obtain ⟨quiet, seated⟩ := State.takeCond_calm c b s instant
  have stands := h.taken b
  obtain free | ⟨fixed, rfl⟩ := h
  · exact .inl (seated.params ▸ free)
  · obtain ⟨u, took, same, changes, -⟩ := State.takeCond_taken (s := s) .locked b instant
    rw [s.afterCond_combined, stands, if_neg (by simp)] at took changes
    rw [s.afterCond_inputs] at changes
    have consequence := State.takeCond_consequence .locked b s
    have inputs : (s.takeCond .locked b).inputs = u := by rw [took]; rfl
    refine .inr (fixed.of_eq ?_ consequence.switches quiet.speed seated.params (by rw [quiet.auth])
      (consequence.axis_meas .tilt) (fun x other => ?_) fun i => ?_)
    · rw [inputs, changes]
      exact fixed.changes
    · rw [inputs, same.cond, fixed.afterChange, CondList.cond_put_locked _ b other]
    · rw [inputs, same.combiner, fixed.afterChange]
      cases i <;> rfl

/-- The head of what waits can be taken. -/
theorem State.Steadied.takes {s : State} {x : Cond × Bool} {rest : List (Cond × Bool)} (h : s.Steadied)
    (waits : s.waitingChanges = x :: rest) : (s.setChanges rest).Takes x.1 := by
  refine h.imp id fun fixed => ?_
  have locked : ∀ y ∈ x :: rest, y.1 = .locked := waits ▸ fixed.waiting
  refine ⟨fixed.of_eq (fun y mem => locked y (List.mem_cons_of_mem _ mem)) (fun i => by cases i <;> rfl) rfl rfl rfl rfl
    (fun c _ => ?_) fun i => ?_, locked x List.mem_cons_self⟩
  · cases c <;> rfl
  · cases i <;> rfl

/-- What the settling keeps, through the conditions handed on. -/
theorem Stable.handOnN {steady : Prop} {P : State → Prop} (h : Stable steady P) (k : Nat) {s : State}
    (instant : s.params.noInstantTrip) (demand : steady → s.Steadied) (p : P s) :
    P (s.handOnN k) ∧ (steady → (s.handOnN k).Steadied) := by
  induction k generalizing s with
  | zero => exact ⟨p, demand⟩
  | succ k ih =>
    unfold State.handOnN
    split
    · exact ⟨p, demand⟩
    · next x rest waits =>
      have put : P (s.setChanges rest) := h.inputs s _ (fun i => by cases i <;> rfl) rfl (fun _ => rfl) p
      have takes (st : steady) : (s.setChanges rest).Takes x.1 := (demand st).takes waits
      have calm := State.takeCond_calm x.1 x.2 (s.setChanges rest) instant
      exact ih (calm.1.settings.noInstantTrip instant) (fun st => (takes st).takeCond x.2 instant)
        (h.takeCond instant (fun st => (takes st).taken x.2) put)

theorem State.restPreload_cases (s : State) :
    s.restPreload = s ∨ s.decideLatch = some s.restPreload := by
  unfold State.restPreload
  split
  next off =>
    simp only [Bool.and_eq_true, Option.isNone_iff_eq_none, decide_eq_true_eq] at off
    obtain ⟨⟨first, preload⟩, cause⟩ := off
    refine .inr ?_
    unfold State.decideLatch
    rw [first, preload]
    exact if_pos cause
  next => exact .inl rfl

theorem Stable.restPreload {steady : Prop} {P : State → Prop} (h : Stable steady P) {s : State} (p : P s) : P s.restPreload := by
  obtain same | decided := s.restPreload_cases
  · rwa [same]
  · exact h.decide s _ decided p

/-- What the settling keeps stands when it is over: here no phase of a routine completes while it stands. -/
theorem Stable.settleN_of_unready {steady : Prop} {P : State → Prop} (h : Stable steady P) (k : Nat) {s : State}
    (instant : s.params.noInstantTrip) (unready : ∀ t, P t → t.routineReady = none) (demand : steady → s.Steadied) (p : P s) :
    P (s.settleN k) := by
  induction k generalizing s with
  | zero =>
    obtain ⟨handed, -⟩ := h.handOnN 32 instant demand p
    exact h.restPreload handed
  | succ k ih =>
    obtain ⟨handed, steadied⟩ : P s.handOn ∧ (steady → s.handOn.Steadied) := h.handOnN 32 instant demand p
    obtain ⟨quiet, seated⟩ := State.handOn_calm s instant
    have weighed := h.weigh _ handed
    have move := s.handOn.weighUncommanded_latchMove
    have instant' : s.handOn.weighUncommanded.params.noInstantTrip := by
      rw [move.params, seated.params]
      exact instant
    unfold State.settleN
    dsimp only
    split
    · next t decided =>
      have move' := State.decideLatch_latchMove decided
      refine ih (move'.params ▸ instant') (fun st => ?_) (h.decide _ t decided weighed)
      exact ((steadied st).move move (State.weighUncommanded_inputs _)).move move' (State.decideLatch_turn decided).inputs
    · rw [unready _ weighed]
      exact weighed

theorem Stable.and_slot {steady : Prop} {P : State → Prop} (h : Stable steady P) (y : Slot) :
    Stable steady fun t => P t ∧ t.slot = y where
  inputs s u switches trips combined p := ⟨h.inputs s u switches trips combined p.1, p.2⟩
  log s e p := ⟨h.log s e p.1, p.2⟩
  weigh s p := ⟨h.weigh s p.1, s.weighUncommanded_latchMove.slot.trans p.2⟩
  decide s t decided p := ⟨h.decide s t decided p.1, (State.decideLatch_latchMove decided).slot.trans p.2⟩

/-- What the settling keeps stands when it is over. -/
theorem Stable.settleN {steady : Prop} {P : State → Prop} (h : Stable steady P) (k : Nat) {s : State}
    (instant : s.params.noInstantTrip) (phases : s.NotWaiting) (demand : steady → s.Steadied) (p : P s) : P (s.settleN k) :=
  ((h.and_slot s.slot).settleN_of_unready k instant (fun _ ⟨_, slot⟩ => (phases.of_slot slot).ready) demand ⟨p, rfl⟩).1

/-- What the settling keeps stands when it is over. -/
theorem Stable.settle {steady : Prop} {P : State → Prop} (h : Stable steady P) {s : State} (instant : s.params.noInstantTrip)
    (phases : s.NotWaiting) (demand : steady → s.DemandSteady) (p : P s) : P s.settle :=
  h.settleN 8 instant phases (fun st => (demand st).steadied) p

/-- The tilt axis stands through settling, but that its drive may go off, in TRACK. -/
theorem State.settleN_tilt (k : Nat) {s : State} (instant : s.params.noInstantTrip) (phases : s.NotWaiting) :
    (s.settleN k).tilt = s.tilt ∨ (s.tilt.mode = .track ∧ (s.settleN k).tilt = s.tilt.undriven) := by
  have stable : Stable False (fun t => t.tilt = s.tilt ∨ (s.tilt.mode = .track ∧ t.tilt = s.tilt.undriven)) := by
    refine ⟨fun _ _ _ _ _ => id, fun _ _ => id, fun t h => ?_, fun t u decided h => ?_⟩
    · have same : t.weighUncommanded.tilt = t.tilt := by
        unfold State.weighUncommanded
        split <;> rfl
      rw [same]
      exact h
    · obtain ⟨-, same | ⟨track, off⟩⟩ := State.decideLatch_turn decided <;> obtain same' | ⟨track', off'⟩ := h
      · exact .inl (same.trans same')
      · exact .inr ⟨track', same.trans off'⟩
      · exact .inr ⟨same' ▸ track, by rw [off, same']⟩
      · exact .inr ⟨track', by rw [off, off']; rfl⟩
  exact stable.settleN k instant phases nofun (.inl rfl)

/-- Outside TRACK the tilt axis stands. -/
theorem State.settleN_tilt_of_untracked (k : Nat) {s : State} (instant : s.params.noInstantTrip) (phases : s.NotWaiting)
    (untracked : s.tilt.mode ≠ .track) : (s.settleN k).tilt = s.tilt :=
  (State.settleN_tilt k instant phases).resolve_right fun ⟨track, _⟩ => untracked track

/-- An axis outside TRACK stands. -/
theorem State.settleN_axis_of_untracked (k : Nat) {s : State} (instant : s.params.noInstantTrip) (phases : s.NotWaiting) {x : Axis}
    (untracked : (s.axis x).mode ≠ .track) : (s.settleN k).axis x = s.axis x := by
  cases x
  case tilt => exact State.settleN_tilt_of_untracked k instant phases untracked
  case steer => exact (State.settleN_calm k s instant phases).2.steer

/-- The drive of an axis stands or goes off. -/
theorem State.settleN_drive (k : Nat) {s : State} (instant : s.params.noInstantTrip) (phases : s.NotWaiting) (x : Axis) :
    ((s.settleN k).axis x).drive = (s.axis x).drive ∨ ((s.settleN k).axis x).drive = 0 := by
  cases x
  case tilt => exact (State.settleN_tilt k instant phases).imp (congrArg AxisCtl.drive) fun ⟨_, off⟩ => congrArg AxisCtl.drive off
  case steer => exact .inl (congrArg AxisCtl.drive (State.settleN_calm k s instant phases).2.steer)

/-- A setpoint that stands at its measurement stays there (R35). -/
theorem State.settleN_setpoint (k : Nat) {s : State} {x : Axis} (seeded : s.setpoint x = (s.axis x).meas) :
    (s.settleN k).setpoint x = (s.axis x).meas := by
  have sound := State.settleN_sound k s
  cases x
  case tilt => exact sound.phiS.elim (fun e => e.trans seeded) id
  case steer => exact sound.deltaS.elim (fun e => e.trans seeded) id

/-! ## Where nothing is decided -/

/-- Nothing has been decided between two states: the input unit, the log and an uncommanded closing's weighing may differ. -/
structure Unmoved (steady : Prop) (s t : State) : Prop where
  parts : ∃ u l m, t = ((s.setInputs u).setLog l).setLatchUnit { s.latch with uncommanded := m } ∧
    (m = true → s.latch.uncommanded = true)
  switches : SameSwitches s t
  trips : t.inputs.trips = s.inputs.trips
  combined : steady → t.combined = s.combined

theorem Unmoved.refl (steady : Prop) (s : State) : Unmoved steady s s :=
  ⟨⟨s.inputs, s.log, s.latch.uncommanded, rfl, id⟩, fun _ => rfl, rfl, fun _ => rfl⟩

theorem Unmoved.setInputs {steady : Prop} {s t : State} (h : Unmoved steady s t) {u : InputUnit}
    (switches : ∀ i, u.switch i = t.inputs.switch i) (trips : u.trips = t.inputs.trips)
    (combined : steady → (t.setInputs u).combined = t.combined) : Unmoved steady s (t.setInputs u) := by
  obtain ⟨v, l, m, parts, weighs⟩ := h.parts
  exact ⟨⟨u, l, m, by rw [parts]; rfl, weighs⟩, fun i => (switches i).trans (h.switches i), trips.trans h.trips,
    fun st => (combined st).trans (h.combined st)⟩

theorem Unmoved.logEvent {steady : Prop} {s t : State} (h : Unmoved steady s t) (e : Event) : Unmoved steady s (t.logEvent e) := by
  obtain ⟨v, l, m, parts, weighs⟩ := h.parts
  exact ⟨⟨v, (t.logEvent e).log, m, by rw [parts]; rfl, weighs⟩, h.switches, h.trips, h.combined⟩

theorem Unmoved.logEvents {steady : Prop} {s t : State} (h : Unmoved steady s t) (es : List Event) :
    Unmoved steady s (t.logEvents es) := by
  induction es generalizing t with
  | nil => exact h
  | cons e es ih => exact ih (h.logEvent e)

theorem Unmoved.weigh {steady : Prop} {s t : State} (h : Unmoved steady s t) : Unmoved steady s t.weighUncommanded := by
  unfold State.weighUncommanded
  split
  · obtain ⟨v, l, m, parts, weighs⟩ := h.parts
    exact ⟨⟨v, l, false, by rw [parts]; rfl, nofun⟩, h.switches, h.trips, h.combined⟩
  · exact h

theorem Stable.of_undecided {steady : Prop} {s : State} (undecided : ∀ t, Unmoved steady s t → t.decideLatch = none) :
    Stable steady (Unmoved steady s) where
  inputs _ _ switches trips combined h := h.setInputs switches trips combined
  log _ e h := h.logEvent e
  weigh _ h := h.weigh
  decide t u decided h := by
    rw [undecided t h] at decided
    cases decided

/-- Where the latch controller has nothing to decide and no phase completes, whatever conditions are taken, nothing moves. -/
theorem State.settleN_unmoved_of_unready {steady : Prop} (k : Nat) {s : State} (instant : s.params.noInstantTrip)
    (unready : ∀ t, Unmoved steady s t → t.routineReady = none) (demand : steady → s.Steadied)
    (undecided : ∀ t, Unmoved steady s t → t.decideLatch = none) : Unmoved steady s (s.settleN k) :=
  (Stable.of_undecided undecided).settleN_of_unready k instant unready demand (.refl steady s)

/-- Where the latch controller has nothing to decide, whatever conditions are taken, nothing moves. -/
theorem State.settleN_unmoved {steady : Prop} (k : Nat) {s : State} (instant : s.params.noInstantTrip) (phases : s.NotWaiting)
    (demand : steady → s.Steadied) (undecided : ∀ t, Unmoved steady s t → t.decideLatch = none) :
    Unmoved steady s (s.settleN k) :=
  (Stable.of_undecided undecided).settleN k instant phases demand (.refl steady s)

/-- Conditions taken where the demand is steady move nothing. -/
theorem State.Steadied.handOn {s : State} (h : s.Steadied) (instant : s.params.noInstantTrip) :
    Unmoved True s s.handOn ∧ s.handOn.Steadied := by
  suffices stands : ∀ (k : Nat) (t : State), Unmoved True s t → t.params.noInstantTrip → t.Steadied →
      Unmoved True s (t.handOnN k) ∧ (t.handOnN k).Steadied from stands 32 s (.refl _ s) instant h
  intro k
  induction k with
  | zero => exact fun t unmoved _ steadied => ⟨unmoved, steadied⟩
  | succ k ih =>
    intro t unmoved instant steadied
    unfold State.handOnN
    split
    · exact ⟨unmoved, steadied⟩
    · next x rest waits =>
      have takes := steadied.takes waits
      have put : Unmoved True s (t.setChanges rest) := unmoved.setInputs (fun i => by cases i <;> rfl) rfl (fun _ => rfl)
      set v := t.setChanges rest
      have calm := State.takeCond_calm x.1 x.2 v instant
      obtain ⟨u, took, same, -, trips, -⟩ := State.takeCond_taken (s := v) x.1 x.2 instant
      have stands := takes.taken x.2
      rw [v.afterCond_combined, stands, if_neg (by simp), State.afterCond_eq] at took
      have evaluated := (put.setInputs (u := v.inputs.afterChange v.params x.1 x.2)
        (fun i => InputUnit.afterChange_switch _ _ _ _ i) rfl (fun _ => stands)).logEvents
        (combinerEvents v.params v.inputs (v.inputs.afterChange v.params x.1 x.2))
      refine ih _ ?_ (calm.1.settings.noInstantTrip instant) (takes.takeCond x.2 instant)
      rw [took]
      refine evaluated.setInputs (fun i => ?_) ?_ fun _ => State.combined_congr rfl fun i => ?_
      · rw [State.logEvents_inputs]
        exact same.switch i
      · rw [State.logEvents_inputs]
        exact trips
      · rw [State.logEvents_inputs]
        exact same.combiner i

/-- A round of settling where nothing but the latch controller moves: the decision that it has, or the end. -/
theorem State.settleN_succ_of_steadied (k : Nat) {s : State} (h : s.Steadied) (instant : s.params.noInstantTrip)
    (phases : s.NotWaiting) : ∃ w, Unmoved True s w ∧ w.Steadied ∧
      s.settleN (k + 1) = (w.decideLatch.elim w fun t => t.settleN k) ∧ (s.waitingChanges = [] → w = s.weighUncommanded) := by
  obtain ⟨unmoved, steadied⟩ := h.handOn instant
  have move := s.handOn.weighUncommanded_latchMove
  have slot : s.handOn.slot = s.slot := (State.handOn_calm s instant).2.slot
  refine ⟨s.handOn.weighUncommanded, unmoved.weigh, steadied.move move (State.weighUncommanded_inputs _), ?_, fun waits => ?_⟩
  · rw [State.settleN, (phases.of_slot (move.slot.trans slot)).ready]
    cases s.handOn.weighUncommanded.decideLatch <;> rfl
  · rw [State.handOn_of_nothing_waits s waits]

end Sys2Proof.Machine
end

section
/-! PROOFS. ENABLE (R94, R35) and the service sessions (R109 to R111). -/

namespace Sys2Proof.Machine

/-! ## ENABLE -/

theorem State.enableAxis_off {x : Axis} {s : State} (off : (s.axis x).mode = .off) :
    s.enableAxis x = (s.setAxis x { s.axis x with mode := .track }).seedSetpoint x := by
  rw [State.enableAxis, off]

theorem State.enableAxis_track {x : Axis} {s : State} (track : (s.axis x).mode = .track) : s.enableAxis x = s := by
  rw [State.enableAxis, track]

theorem State.enableAxis_session {x : Axis} {s : State} (session : (s.axis x).mode = .routine ∨ (s.axis x).mode = .service) :
    s.enableAxis x = s.setAxis x { s.axis x with returnMode := some .track } := by
  obtain routine | service := session
  · simp [State.enableAxis, routine]
  · simp [State.enableAxis, service]

/-- What ENABLE leaves of the part: it touches the modes, the return modes and the setpoints. -/
theorem State.enableAxis_parts (x : Axis) (s : State) : ∃ a d, s.enableAxis x = (s.setAxis x a).setSolve d ∧
    a.meas = (s.axis x).meas ∧ a.valid = (s.axis x).valid ∧
    { d with phiS := 0, deltaS := 0, captured := 0 } = { s.solve with phiS := 0, deltaS := 0, captured := 0 } := by
  cases mode : (s.axis x).mode
  case off =>
    rw [State.enableAxis_off mode]
    cases x <;> exact ⟨_, _, rfl, rfl, rfl, rfl⟩
  case track =>
    rw [State.enableAxis_track mode]
    refine ⟨s.axis x, s.solve, ?_, rfl, rfl, rfl⟩
    cases x <;> rfl
  case routine =>
    rw [State.enableAxis_session (.inl mode)]
    refine ⟨{ s.axis x with returnMode := some .track }, s.solve, ?_, rfl, rfl, rfl⟩
    cases x <;> rfl
  case service =>
    rw [State.enableAxis_session (.inr mode)]
    refine ⟨{ s.axis x with returnMode := some .track }, s.solve, ?_, rfl, rfl, rfl⟩
    cases x <;> rfl

/-- Both axes enabled. -/
def State.enabled (s : State) : State := (s.enableAxis .tilt).enableAxis .steer

theorem State.enableAxis_tilt_steer (s : State) : (s.enableAxis .tilt).steer = s.steer ∧
    (s.enableAxis .tilt).solve.deltaS = s.solve.deltaS := by
  cases mode : s.tilt.mode
  case off => exact State.enableAxis_off (x := .tilt) mode ▸ ⟨rfl, rfl⟩
  case track => rw [State.enableAxis_track (x := .tilt) mode]; exact ⟨rfl, rfl⟩
  case routine => exact State.enableAxis_session (x := .tilt) (.inl mode) ▸ ⟨rfl, rfl⟩
  case service => exact State.enableAxis_session (x := .tilt) (.inr mode) ▸ ⟨rfl, rfl⟩

theorem State.enableAxis_steer_tilt (s : State) : (s.enableAxis .steer).tilt = s.tilt ∧
    (s.enableAxis .steer).solve.phiS = s.solve.phiS := by
  cases mode : s.steer.mode
  case off => exact State.enableAxis_off (x := .steer) mode ▸ ⟨rfl, rfl⟩
  case track => rw [State.enableAxis_track (x := .steer) mode]; exact ⟨rfl, rfl⟩
  case routine => exact State.enableAxis_session (x := .steer) (.inl mode) ▸ ⟨rfl, rfl⟩
  case service => exact State.enableAxis_session (x := .steer) (.inr mode) ▸ ⟨rfl, rfl⟩

theorem State.enableAxis_steer_congr {s t : State} (steer : t.steer = s.steer) (deltaS : t.solve.deltaS = s.solve.deltaS) :
    (t.enableAxis .steer).steer = (s.enableAxis .steer).steer ∧
      (t.enableAxis .steer).solve.deltaS = (s.enableAxis .steer).solve.deltaS := by
  cases mode : s.steer.mode
  case off =>
    rw [State.enableAxis_off (x := .steer) mode, State.enableAxis_off (x := .steer) ((congrArg AxisCtl.mode steer).trans mode)]
    exact ⟨congrArg (fun a : AxisCtl => { a with mode := .track }) steer, (congrArg AxisCtl.meas steer :)⟩
  case track =>
    rw [State.enableAxis_track (x := .steer) mode, State.enableAxis_track (x := .steer) ((congrArg AxisCtl.mode steer).trans mode)]
    exact ⟨steer, deltaS⟩
  case routine =>
    rw [State.enableAxis_session (x := .steer) (.inl mode),
      State.enableAxis_session (x := .steer) (.inl ((congrArg AxisCtl.mode steer).trans mode))]
    exact ⟨congrArg (fun a : AxisCtl => { a with returnMode := some .track }) steer, deltaS⟩
  case service =>
    rw [State.enableAxis_session (x := .steer) (.inr mode),
      State.enableAxis_session (x := .steer) (.inr ((congrArg AxisCtl.mode steer).trans mode))]
    exact ⟨congrArg (fun a : AxisCtl => { a with returnMode := some .track }) steer, deltaS⟩

/-- Each axis is enabled on its own. -/
theorem State.enabled_axis (x : Axis) (s : State) : s.enabled.axis x = (s.enableAxis x).axis x ∧
    s.enabled.setpoint x = (s.enableAxis x).setpoint x := by
  cases x
  case tilt => exact State.enableAxis_steer_tilt (s.enableAxis .tilt)
  case steer =>
    obtain ⟨steer, deltaS⟩ := s.enableAxis_tilt_steer
    exact State.enableAxis_steer_congr steer deltaS

theorem State.enabled_framed (s : State) : Framed s s.enabled ∧ s.enabled.slot = s.slot ∧ s.enabled.params = s.params ∧
    s.enabled.store = s.store ∧ s.enabled.path = s.path ∧ s.enabled.auth = s.auth := by
  obtain ⟨a, d, tilt, meas, valid, solve⟩ := s.enableAxis_parts .tilt
  have first : Framed s (s.enableAxis .tilt) := by
    rw [tilt]
    exact .of (targets := solve) (angles := ⟨meas, valid, rfl, rfl⟩)
  obtain ⟨a', d', steer, meas', valid', solve'⟩ := (s.enableAxis .tilt).enableAxis_parts .steer
  have second : Framed (s.enableAxis .tilt) s.enabled := by
    rw [State.enabled, steer]
    exact .of (targets := solve') (angles := ⟨rfl, rfl, meas', valid'⟩)
  refine ⟨first.trans second, ?_⟩
  rw [State.enabled, steer, tilt]
  exact ⟨rfl, rfl, rfl, rfl, rfl⟩

theorem handleEnable_of_defaults {p : Port} {s : State} (unready : s.store.source = .defaults) :
    handleEnable p [] s = refuse s .notReady [] := by
  simp [handleEnable, unready]

theorem handleEnable_of_ready {p : Port} {s : State} (ready : s.store.source ≠ .defaults) : handleEnable p [] s =
    (s.enabled.settle, okAnswer [byteOf s.enabled.tilt.mode.code, byteOf s.enabled.steer.mode.code]) := by
  simp [handleEnable, ready, State.enabled]

theorem Seated.axis_mode {s t : State} (h : Seated s t) (x : Axis) :
    (t.axis x).mode = (s.axis x).mode ∧ (t.axis x).returnMode = (s.axis x).returnMode ∧ (t.axis x).result = (s.axis x).result := by
  cases x
  · exact ⟨h.mode, h.returnMode, h.result⟩
  · have steer := h.steer
    exact ⟨congrArg AxisCtl.mode steer, congrArg AxisCtl.returnMode steer, congrArg AxisCtl.result steer⟩

@[simp] theorem State.answered_axis (p : Port) (kind ref : Byte) (status : Status) (payload : List Byte) (x : Axis) (s : State) :
    (s.answered p kind ref status payload).axis x = s.axis x := by cases p <;> cases x <;> rfl

@[simp] theorem State.answered_setpoint (p : Port) (kind ref : Byte) (status : Status) (payload : List Byte) (x : Axis)
    (s : State) : (s.answered p kind ref status payload).setpoint x = s.setpoint x := by cases p <;> cases x <;> rfl

/-- Settles O38. -/
theorem enableBringsAxesToTrack : Obligations.EnableBringsAxesToTrack := by
  intro dt p r s ready
  refine ⟨fun unready => ?defaults, fun able instant phases => ?enables⟩
  case defaults =>
    exact exec_refused (c := .enable dt { port := p, ref := r, payload := [] }) rfl rfl ready
      (handleEnable_of_defaults (p := p) (by rw [State.delivered_store]; exact unready))
  case enables =>
    have answered (t : State) (a : Answer) (h : handleEnable p [] (s.delivered dt p) = (t, a)) (n : t.now = s.now + dt) :=
      exec_answered (c := .enable dt { port := p, ref := r, payload := [] }) rfl rfl ready h n
    have handled := handleEnable_of_ready (p := p) (s := s.delivered dt p) (by rw [State.delivered_store]; exact able)
    have request (t : State) (payload : List Byte) (h : Framed (s.delivered dt p) t) := h.requestFrame 0x10 r .ok payload
    have axis (x : Axis) := s.delivered_axis dt p x
    have now := s.delivered_now dt p
    have params := s.delivered_params dt p
    have slot := s.delivered_slot dt p
    have store := s.delivered_store dt p
    have path := s.delivered_path dt p
    have hold := s.delivered_hold_isSome dt p
    generalize s.delivered dt p = v at *
    obtain ⟨framed, slot', params', store', path', auth'⟩ := v.enabled_framed
    have instant' : v.enabled.params.noInstantTrip := by rw [params', params]; exact instant
    have phases' : v.enabled.NotWaiting := phases.of_slot (slot'.trans slot)
    have quiet := State.settle_quiet v.enabled instant'
    have seated := State.settle_seated v.enabled instant' phases'
    have settled := State.settle_consequence v.enabled
    have framed' := framed.trans settled.framed
    have modes := seated.axis_mode
    refine ⟨_, answered _ _ handled (framed'.now.trans now), fun x => ?_, ?_, request _ _ framed', ?_, ?_, ?_, ?_, ?_⟩
    · obtain ⟨enabled, setpoint⟩ := v.enabled_axis x
      obtain ⟨mode, returns, -⟩ := modes x
      rw [State.answered_axis, State.answered_setpoint, mode, returns, enabled, ← axis x]
      refine ⟨fun off => ?_, fun track => ?_, fun routine => ?_, fun service => ?_⟩
      · have meas : (v.enabled.axis x).meas = (v.axis x).meas := by
          rw [enabled, State.enableAxis_off off]
          cases x <;> rfl
        have seeded : v.enabled.setpoint x = (v.enabled.axis x).meas := by
          rw [setpoint, enabled, State.enableAxis_off off]
          cases x <;> rfl
        refine ⟨?_, (State.settleN_setpoint 8 seeded).trans meas⟩
        rw [State.enableAxis_off off]
        cases x <;> rfl
      · rw [State.enableAxis_track track]
        exact track
      · rw [State.enableAxis_session (.inl routine), State.setAxis_axis]
        exact ⟨routine, rfl⟩
      · rw [State.enableAxis_session (.inr service), State.setAxis_axis]
        exact ⟨service, rfl⟩
    · rw [State.answered_tilt, State.answered_steer, seated.mode, seated.steer]
      exact State.answered_replied ..
    · rw [State.answered_slot]
      exact seated.slot.trans (slot'.trans slot)
    · rw [State.answered_params]
      exact seated.params.trans (params'.trans params)
    · rw [State.answered_store]
      exact settled.outside.store.trans (store'.trans store)
    · rw [State.answered_path]
      exact quiet.path.trans (path'.trans path)
    · rw [State.answered_auth, quiet.auth, auth', hold]

end Sys2Proof.Machine
end

section
/-! PROOFS. Service sessions (R96, R109, R110, R111). -/

namespace Sys2Proof.Machine

/-! ## The conditions of a session -/

theorem PathUnit.isEmpty_iff (u : PathUnit) : u.isEmpty = true ↔ u.queue = [] ∧ u.staging = [] ∧ u.batchOpen = false := by
  simp [PathUnit.isEmpty, and_assoc]

theorem State.sessionReady_iff (s : State) : s.sessionReady = true ↔
    s.path.queue = [] ∧ s.path.staging = [] ∧ s.path.batchOpen = false ∧ s.grade = .none ∧ s.still = true := by
  simp [State.sessionReady, PathUnit.isEmpty_iff, and_assoc]

theorem State.sessionReady_eq_false {s : State}
    (cause : s.path.queue ≠ [] ∨ s.path.staging ≠ [] ∨ s.path.batchOpen = true ∨ s.grade ≠ .none ∨ s.still = false) :
    s.sessionReady = false := by
  refine Bool.eq_false_iff.mpr fun ready => ?_
  obtain ⟨queue, staging, batch, grade, still⟩ := s.sessionReady_iff.mp ready
  obtain e | e | e | e | e := cause
  · exact e queue
  · exact e staging
  · exact absurd (batch.symm.trans e) (by decide)
  · exact e grade
  · exact absurd (still.symm.trans e) (by decide)

@[simp] theorem State.delivered_sessionReady (dt : Nat) (p : Port) (s : State) :
    (s.delivered dt p).sessionReady = s.sessionReady := by
  rw [State.sessionReady, State.delivered_path, State.delivered_grade, State.delivered_still, State.sessionReady]

@[simp] theorem State.delivered_serviceLatch (dt : Nat) (p : Port) (x : Axis) (s : State) :
    (s.delivered dt p).serviceLatch x = s.serviceLatch x := by
  rw [State.serviceLatch, State.delivered_latch, State.serviceLatch]

theorem axisOfCode_eq_some {n : Nat} {x : Axis} (h : axisOfCode n = some x) : n = axisNumber x := by
  unfold axisOfCode at h
  split at h <;> cases h <;> rfl

theorem axisArg_eq_none {bytes : List Byte} (malformed : ∀ x, bytes ≠ [byteOf (axisNumber x)]) : axisArg bytes = none := by
  unfold axisArg
  split
  next b =>
    refine Option.eq_none_iff_forall_ne_some.mpr fun x named => malformed x ?_
    rw [← axisOfCode_eq_some named]
    rw [byteOf_toNat_self]
  next => rfl

theorem axisArg_number (x : Axis) : axisArg [byteOf (axisNumber x)] = some x := by
  rw [← axisCode_eq]
  exact axisArg_code x

theorem Slot.isFree_eq_false {y : Slot} (taken : y ≠ .free) : y.isFree = false :=
  Bool.eq_false_iff.mpr fun free => taken (Slot.isFree_iff.mp free)

theorem Slot.code_eq_number (y : Slot) : y.code = y.number := by
  cases y with
  | routine r => cases axis : r.axis <;> simp [Slot.code, Slot.number, axis]
  | service x d => cases x <;> rfl
  | free => rfl
  | storeProgramming n => rfl

theorem adjustedIf_status (a b : Int) (payload : List Byte) :
    (adjustedIf (a != b) payload).status = if a = b then .ok else .adjusted := by
  by_cases same : a = b <;> simp [adjustedIf, same]

theorem State.serviceLapsed_of_drive {x : Axis} {d : StandingDrive} {s : State} (session : s.slot = .service x (some d)) :
    s.serviceLapsed = if d.expiresAt ≤ s.now then some x else none := by
  rw [State.serviceLapsed, session]

theorem Slot.serviceAxis_eq_none {y : Slot} (other : ∀ x d, y ≠ .service x d) : y.serviceAxis = none := by
  cases y
  case service x d => exact absurd rfl (other x d)
  all_goals rfl

/-! ## The handlers -/

theorem handleServiceDrive_of_malformed {p : Port} {bytes : List Byte} {s : State} (malformed : bytes.length ≠ 2) :
    handleServiceDrive p bytes s = refuse s .badArg [] := by
  unfold handleServiceDrive
  split
  next => exact absurd rfl malformed
  next => rfl

theorem handleEnterService_of_ready {p : Port} {x : Axis} {s : State} (holder : s.holds p = true) (free : s.slot = .free)
    (ready : s.sessionReady = true) (latch : s.serviceLatch x = true) :
    handleEnterService p [byteOf (axisNumber x)] s = ((s.startService x).settle, okAnswer []) := by
  simp [handleEnterService, axisArg_number, holder, Slot.isFree_iff.mpr free, ready, latch]

theorem handleEnterService_of_unready {p : Port} {x : Axis} {s : State} (holder : s.holds p = true) (free : s.slot = .free)
    (unready : (s.sessionReady && s.serviceLatch x) = false) :
    handleEnterService p [byteOf (axisNumber x)] s = refuse s .notNow [] := by
  unfold handleEnterService
  rw [axisArg_number]
  simp [holder, Slot.isFree_iff.mpr free, unready]

theorem handleServiceDrive_of_session {p : Port} {lo hi : Byte} {x : Axis} {d : Option StandingDrive} {s : State}
    (holder : s.holds p = true) (session : s.slot = .service x d) :
    handleServiceDrive p [lo, hi] s = (s.applyDrive x (clampSym s.params.driveMax (signed16 lo hi)),
      adjustedIf (clampSym s.params.driveMax (signed16 lo hi) != signed16 lo hi)
        (le16 (clampSym s.params.driveMax (signed16 lo hi)))) := by
  simp [handleServiceDrive, holder, session, Slot.serviceAxis]

theorem handleLeaveService_of_session {p : Port} {x : Axis} {d : Option StandingDrive} {s : State}
    (holder : s.holds p = true) (session : s.slot = .service x d) :
    handleLeaveService p [] s = ((s.finishService x).settle, okAnswer []) := by
  simp [handleLeaveService, holder, session, Slot.serviceAxis]

/-! ## Entering and leaving -/

theorem State.startService_axis (x : Axis) (s : State) :
    (s.startService x).axis x = { (s.axis x).enterSession .service with drive := 0 } := by cases x <;> rfl

theorem State.startService_framed (x : Axis) (s : State) : Framed s (s.startService x) := by cases x <;> exact .of

theorem State.startService_params (x : Axis) (s : State) : (s.startService x).params = s.params := by cases x <;> rfl

theorem State.finishService_axis (x : Axis) (s : State) : (s.finishService x).axis x =
    { s.axis x with mode := returnedMode (s.axis x).returnMode, returnMode := none, drive := 0, trackSince := none,
                    trackFired := false } := by cases x <;> rfl

theorem State.finishService_params (x : Axis) (s : State) : (s.finishService x).params = s.params := by cases x <;> rfl

theorem notWaiting_of_service {s : State} {x : Axis} {d : Option StandingDrive} (session : s.slot = .service x d) :
    s.NotWaiting := fun r e => by
  rw [session] at e
  cases e

/-- Settles O44. -/
theorem serviceSessionsDriveTheAxis : Obligations.ServiceSessionsDriveTheAxis := by
  refine ⟨fun dt p r bytes s len ready => ⟨fun malformed => ?_, fun malformed => ?_, fun malformed => ?_⟩,
    fun dt p r lo hi x s ready holder => ⟨fun taken => ?_, fun free cause => ?_, fun other => ⟨?_, ?_⟩⟩,
    fun dt p r lo hi x s ready holder => ⟨fun free queue staging batch grade still latch instant => ?enters,
      fun d session => ⟨?drives, fun instant => ?leaves⟩, fun d session => ⟨fun due => ?_, fun early => ?_⟩⟩⟩
  · exact exec_refused (c := .enterService dt { port := p, ref := r, payload := bytes }) rfl (decide_eq_true len) ready
      (by simp [requestService, Instr.delay, handleEnterService, axisArg_eq_none malformed])
  · exact exec_refused (c := .serviceDrive dt { port := p, ref := r, payload := bytes }) rfl (decide_eq_true len) ready
      (handleServiceDrive_of_malformed malformed)
  · exact exec_refused (c := .leaveService dt { port := p, ref := r, payload := bytes }) rfl (decide_eq_true len) ready
      (by simp [requestService, Instr.delay, handleLeaveService, malformed])
  · rw [← Slot.code_eq_number]
    exact exec_refused (c := .enterService dt { port := p, ref := r, payload := [byteOf (axisNumber x)] }) rfl rfl ready
      (by simp [requestService, Instr.delay, handleEnterService, axisArg_number, holder, Slot.isFree_eq_false taken, refuseBusy])
  · have unready : (s.sessionReady && s.serviceLatch x) = false := by
      rw [← or_assoc, ← or_assoc, ← or_assoc, ← or_assoc] at cause
      obtain cause | ⟨tilt, unreleased, unfaulted⟩ := cause
      · rw [State.sessionReady_eq_false (by tauto), Bool.false_and]
      · simp [State.serviceLatch, tilt, unreleased, unfaulted]
    exact exec_refused (c := .enterService dt { port := p, ref := r, payload := [byteOf (axisNumber x)] }) rfl rfl ready
      (handleEnterService_of_unready ((s.delivered_holds dt p p).trans holder) ((s.delivered_slot dt p).trans free)
        (by rw [State.delivered_sessionReady, State.delivered_serviceLatch]; exact unready))
  · exact exec_refused (c := .serviceDrive dt { port := p, ref := r, payload := [lo, hi] }) rfl rfl ready
      (by simp [requestService, Instr.delay, handleServiceDrive, holder, Slot.serviceAxis_eq_none other])
  · exact exec_refused (c := .leaveService dt { port := p, ref := r, payload := [] }) rfl rfl ready
      (by simp [requestService, Instr.delay, handleLeaveService, holder, Slot.serviceAxis_eq_none other])
  case enters =>
    have answered (t : State) (a : Answer) (h : handleEnterService p [byteOf (axisNumber x)] (s.delivered dt p) = (t, a))
        (n : t.now = s.now + dt) :=
      exec_answered (c := .enterService dt { port := p, ref := r, payload := [byteOf (axisNumber x)] }) rfl rfl ready h n
    have latch' : s.serviceLatch x = true := by
      cases x
      · simpa [State.serviceLatch] using latch rfl
      · rfl
    have handled := handleEnterService_of_ready (p := p) (x := x) (s := s.delivered dt p)
      ((s.delivered_holds dt p p).trans holder) ((s.delivered_slot dt p).trans free)
      ((s.delivered_sessionReady dt p).trans (s.sessionReady_iff.mpr ⟨queue, staging, batch, grade, still⟩))
      ((s.delivered_serviceLatch dt p x).trans latch')
    have request (t : State) (h : Framed (s.delivered dt p) t) := h.requestFrame 0x38 r .ok []
    have axis := s.delivered_axis dt p x
    have now := s.delivered_now dt p
    have params := s.delivered_params dt p
    generalize s.delivered dt p = v at *
    have instant' : (v.startService x).params.noInstantTrip := by rw [State.startService_params, params]; exact instant
    have session : (v.startService x).slot = .service x none := rfl
    have phases := notWaiting_of_service session
    have seated := State.settle_seated _ instant' phases
    have entered := v.startService_axis x
    have stands : (v.startService x).settle.axis x = (v.startService x).axis x :=
      State.settleN_axis_of_untracked 8 instant' phases (by rw [entered]; exact nofun)
    have framed := (v.startService_framed x).trans (State.settle_consequence _).framed
    refine ⟨_, answered _ _ handled (framed.now.trans now), ?_, ?_, ?_, ?_, State.answered_replied .., request _ framed, ?_⟩
    · rw [State.answered_slot]
      exact seated.slot
    · rw [State.answered_axis, stands, entered]
      rfl
    · rw [State.answered_axis, stands, entered]
    · rw [State.answered_axis, stands, entered, ← axis]
      rfl
    · rw [State.answered_params, seated.params, State.startService_params, params]
  case drives =>
    have e := exec_answered (c := .serviceDrive dt { port := p, ref := r, payload := [lo, hi] }) rfl rfl ready
      (handleServiceDrive_of_session (lo := lo) (hi := hi) ((s.delivered_holds dt p p).trans holder)
        ((s.delivered_slot dt p).trans session))
      (by cases x <;> exact s.delivered_now dt p)
    rw [e]
    simp only [Instr.delay, State.applyDrive, s.delivered_params, s.delivered_axis, s.delivered_now]
    rw [adjustedIf_status]
    rfl
  case leaves =>
    have answered (t : State) (a : Answer) (h : handleLeaveService p [] (s.delivered dt p) = (t, a))
        (n : t.now = s.now + dt) :=
      exec_answered (c := .leaveService dt { port := p, ref := r, payload := [] }) rfl rfl ready h n
    have handled := handleLeaveService_of_session (p := p) (s := s.delivered dt p)
      ((s.delivered_holds dt p p).trans holder) ((s.delivered_slot dt p).trans session)
    have request (t : State) (h : Framed (s.delivered dt p) t) := h.requestFrame 0x3A r .ok []
    have axis := s.delivered_axis dt p x
    have now := s.delivered_now dt p
    have params := s.delivered_params dt p
    generalize s.delivered dt p = v at *
    have instant' : (v.finishService x).params.noInstantTrip := by rw [State.finishService_params, params]; exact instant
    have free : (v.finishService x).slot = .free := rfl
    have phases := notWaiting_of_free free
    have seated := State.settle_seated _ instant' phases
    have left := v.finishService_axis x
    have consequence := (State.finishService_consequence x v).trans (State.settle_consequence _)
    obtain ⟨mode, -⟩ := seated.axis_mode x
    have meas : ((v.finishService x).axis x).meas = (v.axis x).meas := by rw [left]
    refine ⟨_, answered _ _ handled (consequence.now.trans now), ?_, ?_, ?_, ?_, State.answered_replied ..,
      request _ consequence.framed, ?_⟩
    · rw [State.answered_slot]
      exact seated.slot
    · rw [State.answered_axis, mode, left, ← axis]
    · rw [State.answered_axis]
      refine (State.settleN_drive 8 instant' phases x).elim (fun e => e.trans ?_) id
      rw [left]
    · rw [State.answered_setpoint, ← axis, ← meas]
      exact State.settleN_setpoint 8 ((State.finishService_setpoint x v).trans meas.symm)
    · rw [State.answered_params, seated.params, State.finishService_params, params]
  · have lapsed := State.serviceLapsed_of_drive (s := s.advance dt) session
    rw [if_pos (by exact due)] at lapsed
    show execServiceDriveExpiry dt s = _
    unfold execServiceDriveExpiry
    dsimp only
    rw [lapsed]
  · have lapsed := State.serviceLapsed_of_drive (s := s.advance dt) session
    rw [if_neg (by exact Nat.not_le.mpr early)] at lapsed
    show execServiceDriveExpiry dt s = _
    unfold execServiceDriveExpiry
    dsimp only
    rw [lapsed]

end Sys2Proof.Machine
end

section
/-! PROOFS. The phases of routines: sweeps, ramps and pushes (R99 to R103). -/

namespace Sys2Proof.Machine

/-! ## The end of a routine (R103) -/

/-- The last steps of a routine's end: the result record, ROUTINE_END, the axis's return mode, the free slot. -/
def State.closeRoutine (r : Routine) (o : RoutineOutcome) (s : State) : State :=
  (((s.setResult r.axis { kind := some r.kind, outcome := o, v1 := r.v1, v2 := r.v2, v3 := r.v3 }).logEvent
    (.routineEnd r.axis r.kind o)).leaveSession r.axis).setSlot .free

theorem State.finishRoutine_eq (r : Routine) (o : RoutineOutcome) (s : State) : s.finishRoutine r o false =
    (if o = .pass then (s.setDrive r.axis 0).setParams (r.writes (s.setDrive r.axis 0).params)
      else s.setDrive r.axis 0).closeRoutine r o := rfl

theorem State.leaveSession_axis (x : Axis) (s : State) : (s.leaveSession x).axis x =
    { s.axis x with mode := returnedMode (s.axis x).returnMode, returnMode := none, drive := 0, trackSince := none,
                    trackFired := false } := by cases x <;> rfl

theorem State.closeRoutine_axis (r : Routine) (o : RoutineOutcome) (s : State) : (s.closeRoutine r o).axis r.axis =
    { s.axis r.axis with
      mode := returnedMode (s.axis r.axis).returnMode, returnMode := none, drive := 0, trackSince := none, trackFired := false,
      result := { kind := some r.kind, outcome := o, v1 := r.v1, v2 := r.v2, v3 := r.v3 } } := by
  unfold State.closeRoutine
  rw [State.setSlot_axis, State.leaveSession_axis, State.logEvent_axis, State.setResult, State.setAxis_axis]

theorem State.closeRoutine_setpoint (r : Routine) (o : RoutineOutcome) (s : State) :
    (s.closeRoutine r o).setpoint r.axis = (s.axis r.axis).meas := by
  unfold State.closeRoutine
  rw [State.setSlot_setpoint, State.leaveSession_setpoint, State.logEvent_axis, State.setResult, State.setAxis_axis]

theorem State.closeRoutine_params (r : Routine) (o : RoutineOutcome) (s : State) : (s.closeRoutine r o).params = s.params := by
  simp [State.closeRoutine, State.setResult, State.logEvent]

theorem State.closeRoutine_log (r : Routine) (o : RoutineOutcome) (s : State) :
    (s.closeRoutine r o).log = (s.logEvent (.routineEnd r.axis r.kind o)).log := by
  simp [State.closeRoutine, State.setResult, State.logEvent]

theorem RoutineClosed.of_closeRoutine {r : Routine} {o : RoutineOutcome} {s w : State}
    (returns : (w.axis r.axis).returnMode = (s.axis r.axis).returnMode) : RoutineClosed r o s (w.closeRoutine r o) where
  slot := rfl
  mode := by rw [State.closeRoutine_axis, returns]
  drive := by rw [State.closeRoutine_axis]
  setpoint := by rw [State.closeRoutine_setpoint, State.closeRoutine_axis]
  result := by rw [State.closeRoutine_axis]

/-- What the end of a routine leaves stands through the settling that follows. -/
theorem RoutineClosed.settleN (k : Nat) {r : Routine} {o : RoutineOutcome} {s t : State} (h : RoutineClosed r o s t)
    (instant : t.params.noInstantTrip) : RoutineClosed r o s (t.settleN k) := by
  have phases := notWaiting_of_free h.slot
  have seated := (State.settleN_calm k t instant phases).2
  obtain ⟨mode, -, result⟩ := seated.axis_mode r.axis
  exact {
    slot := seated.slot.trans h.slot
    mode := mode.trans h.mode
    drive := (State.settleN_drive k instant phases r.axis).elim (fun e => e.trans h.drive) id
    setpoint := (State.settleN_setpoint k h.setpoint).trans ((State.settleN_consequence k t).axis_meas r.axis).symm
    result := result.trans h.result }

theorem State.setDrive_returnMode (x : Axis) (d : Int) (s : State) : ((s.setDrive x d).axis x).returnMode = (s.axis x).returnMode := by
  rw [State.setDrive, State.setAxis_axis]

theorem State.setDrive_params (x : Axis) (d : Int) (s : State) : (s.setDrive x d).params = s.params := State.setAxis_params x _ s

theorem State.finishRoutine_closed (r : Routine) (o : RoutineOutcome) (s : State) : RoutineClosed r o s (s.finishRoutine r o false) := by
  rw [State.finishRoutine_eq]
  refine .of_closeRoutine ?_
  split
  · exact State.setDrive_returnMode r.axis 0 s
  · exact State.setDrive_returnMode r.axis 0 s

theorem State.finishRoutine_params (r : Routine) (o : RoutineOutcome) (s : State) :
    (s.finishRoutine r o false).params = if o = .pass then r.writes s.params else s.params := by
  rw [State.finishRoutine_eq, State.closeRoutine_params]
  split
  · rw [State.setDrive_params]
    rfl
  · exact State.setDrive_params r.axis 0 s

theorem Routine.writes_masks (r : Routine) (p : Params) :
    (r.writes p).attnMaskA = p.attnMaskA ∧ (r.writes p).attnMaskB = p.attnMaskB := by
  unfold Routine.writes
  split <;> exact ⟨rfl, rfl⟩

theorem State.learn_logEvent_log (r : Routine) (e : Event) (s : State) :
    ((s.setParams (r.writes s.params)).logEvent e).log = (s.logEvent e).log := by
  obtain ⟨a, b⟩ := r.writes_masks s.params
  show s.log.append _ (r.writes s.params).attnMaskA (r.writes s.params).attnMaskB = _
  rw [a, b]
  rfl

theorem State.finishRoutine_log (r : Routine) (o : RoutineOutcome) (s : State) :
    (s.finishRoutine r o false).log = (s.logEvent (.routineEnd r.axis r.kind o)).log := by
  have drive : ∀ x, ((s.setDrive x 0).logEvent (.routineEnd r.axis r.kind o)).log =
      (s.logEvent (.routineEnd r.axis r.kind o)).log := fun x => by cases x <;> rfl
  rw [State.finishRoutine_eq, State.closeRoutine_log]
  split
  · exact (State.learn_logEvent_log r _ _).trans (drive r.axis)
  · exact drive r.axis

/-- The end of a routine, and what follows it in the same command (R103). -/
theorem State.finishRoutine_ended (r : Routine) (o : RoutineOutcome) {s : State} (instant : s.params.noInstantTrip) :
    RoutineEnded r o s (s.finishRoutine r o false).settle ∧
      (s.finishRoutine r o false).settle.params = (if o = .pass then r.writes s.params else s.params) ∧
      Consequence s (s.finishRoutine r o false).settle := by
  have finished := State.finishRoutine_consequence r o false s
  have settled := State.settle_consequence (s.finishRoutine r o false)
  have closed := State.finishRoutine_closed r o s
  have instant' := SameSettings.noInstantTrip finished.settings instant
  refine ⟨⟨closed.settleN 8 instant', ?_⟩, ?_, finished.trans settled⟩
  · refine .of_logEvents (finished.trans settled).now ?_
    have log : (s.logEvents [.routineEnd r.axis r.kind o]).log = (s.finishRoutine r o false).log := (State.finishRoutine_log r o s).symm
    rw [log]
    exact settled.grows.1
  · rw [(State.settle_seated _ instant' (notWaiting_of_free closed.slot)).params, State.finishRoutine_params]

/-! ## The phases -/

theorem State.completePhase_of_next {r : Routine} {ph : Phase} (next : nextPhase r.axis r.kind r.phase = some ph) (s : State) :
    s.completePhase r = s.beginPhase r ph := by
  rw [State.completePhase, next]

theorem State.completePhase_of_last {r : Routine} (last : nextPhase r.axis r.kind r.phase = none) (s : State) :
    s.completePhase r = s.finishRoutine r r.finalOutcome false := by
  rw [State.completePhase, last]

theorem notWaiting_of_phase {s : State} {r : Routine} (slot : s.slot = .routine r) (phase : r.phase.awaits = none) : s.NotWaiting := by
  intro q e
  rw [slot] at e
  cases e
  exact .inr phase

theorem Slot.running_of_routine {y : Slot} {r : Routine} (slot : y = .routine r) (runs : r.held = none) :
    y.running = some r := by
  rw [slot, Slot.running, runs]
  rfl

theorem fixedDrive_eq (p : Params) : fixedDrive p = clampSym p.driveMax 300 := rfl

/-- A phase with its own drive begins (R99, R102). -/
theorem State.setSlot_setDrive_axis (y : Slot) (x : Axis) (d : Int) (s : State) :
    ((s.setSlot y).setDrive x d).axis x = { s.axis x with drive := d } := by cases x <;> rfl

/-- What a routine's phase that waits for nothing has set stands through the settling that follows, outside TRACK. -/
theorem State.settle_phase {t : State} {r : Routine} (slot : t.slot = .routine r) (phase : r.phase.awaits = none)
    (instant : t.params.noInstantTrip) (untracked : (t.axis r.axis).mode ≠ .track) :
    t.settle.slot = .routine r ∧ t.settle.axis r.axis = t.axis r.axis ∧ t.settle.params = t.params := by
  have phases := notWaiting_of_phase slot phase
  have seated := State.settle_seated t instant phases
  exact ⟨seated.slot.trans slot, State.settleN_axis_of_untracked 8 instant phases untracked, seated.params⟩

/-- The end of a routine speaks of the state before it only by the return mode and the log. -/
theorem RoutineEnded.behind {r : Routine} {o : RoutineOutcome} {s v t : State} (h : RoutineEnded r o v t)
    (returns : (v.axis r.axis).returnMode = (s.axis r.axis).returnMode) (log : v.log = s.log) : RoutineEnded r o s t where
  slot := h.slot
  mode := returns ▸ h.mode
  drive := h.drive
  setpoint := h.setpoint
  result := h.result
  logged := by
    have logged := h.logged
    rw [LoggedFirst, log] at logged
    exact logged

theorem State.setDrive_axis (x : Axis) (d : Int) (s : State) : (s.setDrive x d).axis x = { s.axis x with drive := d } :=
  State.setAxis_axis x _ s

theorem State.setDrive_now (x : Axis) (d : Int) (s : State) : (s.setDrive x d).now = s.now := State.setAxis_now x _ s

/-- A sweep or a push begins, with its own drive (R99, R102). -/
theorem State.driven_phase {r q : Routine} {d : Int} {s : State} (phase : q.phase.awaits = none) (axis : q.axis = r.axis)
    (instant : s.params.noInstantTrip) (mode : (s.axis r.axis).mode = .routine) :
    (((s.setSlot (.routine q)).setDrive r.axis d).settle.slot = .routine q ∧
      (((s.setSlot (.routine q)).setDrive r.axis d).settle.axis r.axis) = { s.axis r.axis with drive := d }) := by
  have begun := State.setSlot_setDrive_axis (.routine q) r.axis d s
  have stands := State.settle_phase (t := (s.setSlot (.routine q)).setDrive r.axis d) (State.setAxis_slot ..) phase
    (by rw [State.setDrive_params]; exact instant) (by rw [axis, begun]; exact mode ▸ nofun)
  rw [axis, begun] at stands
  obtain ⟨slot, axis', -⟩ := stands
  exact ⟨slot, axis'⟩

/-! ## Timeouts and stops -/

theorem State.phaseOverdue_of {s : State} {r : Routine} (slot : s.slot = .routine r) (runs : r.held = none)
    (phase : r.phase = .sweepLeft ∨ r.phase = .sweepRight ∨ r.phase = .centre ∨
      ((r.phase = .rampLeft ∨ r.phase = .rampRight) ∧ r.rampSince = none))
    (due : r.phaseStart + 4000000 ≤ s.now) : s.phaseOverdue = some r := by
  rw [State.phaseOverdue, Slot.running_of_routine slot runs, Option.filter_some, if_pos]
  have reached : reached (some r.phaseStart) phaseLimit s.now = true := decide_eq_true due
  rw [reached, Bool.and_true]
  obtain e | e | e | ⟨e | e, holding⟩ := phase
  · simp [Routine.timed, e, Phase.isSweep]
  · simp [Routine.timed, e, Phase.isSweep]
  · simp [Routine.timed, e]
  · simp [Routine.timed, e, holding, Phase.isRamp]
  · simp [Routine.timed, e, holding, Phase.isRamp]

theorem State.sweepDone_of {s : State} {r : Routine} (slot : s.slot = .routine r) (runs : r.held = none)
    (phase : r.phase = .sweepLeft ∨ r.phase = .sweepRight) (due : r.stopSince + 200000 ≤ s.now) : s.sweepDone = some r := by
  rw [State.sweepDone, Slot.running_of_routine slot runs, Option.filter_some, if_pos]
  have reached : reached (some r.stopSince) stopLimit s.now = true := decide_eq_true due
  rw [reached, Bool.and_true]
  obtain e | e := phase
  · rw [e]; rfl
  · rw [e]; rfl

theorem exec_sweepStopFound {dt : Nat} {s : State} {r : Routine} (done : (s.advance dt).sweepDone = some r) :
    exec (.sweepStopFound dt) s = .next ((((s.advance dt).setDrive r.axis 0).completePhase
      (r.stopFound (r.stopAngle ((s.advance dt).axis r.axis)))).settle) := by
  show execSweepStopFound dt s = _
  unfold execSweepStopFound
  dsimp only
  rw [done]

theorem Routine.stopFound_left {r : Routine} (phase : r.phase = .sweepLeft) (stop : Int) :
    r.stopFound stop = { r with v1 := some stop } := by
  rw [Routine.stopFound, phase]

theorem Routine.stopFound_right {r : Routine} (phase : r.phase = .sweepRight) (stop : Int) :
    r.stopFound stop = { r with
      v2 := some stop, v3 := some (truncDiv (r.v1.getD 0 + stop) 2),
      outcome := if (spanRange r.axis).1 ≤ r.v1.getD 0 - stop ∧ r.v1.getD 0 - stop ≤ (spanRange r.axis).2 then .pass
        else .failSpan } := by
  rw [Routine.stopFound, phase]

theorem spanRange_iff (x : Axis) (n : Int) : ((spanRange x).1 ≤ n ∧ n ≤ (spanRange x).2) ↔
    (x = .tilt ∧ 7000 ≤ n ∧ n ≤ 9800) ∨ (x = .steer ∧ 6000 ≤ n ∧ n ≤ 9000) := by
  cases x <;> simp [spanRange]

/-- Settles O41. -/
theorem sweepsFindTheirStopsAndLatePhasesFail : Obligations.SweepsFindTheirStopsAndLatePhasesFail := by
  intro dt r s slot runs instant
  refine ⟨fun phase due => ?late, fun kind mode due phase => ?left,
    fun left right kind mode due phase found stop => ?right⟩
  case late =>
    obtain ⟨ended, params, consequence⟩ := State.finishRoutine_ended r .failTimeout (s := s.advance dt) instant
    have overdue := State.phaseOverdue_of (s := s.advance dt) slot runs phase due
    refine ⟨_, ?_, ended.behind rfl rfl, params, consequence⟩
    show execPhaseTimeout dt s = _
    unfold execPhaseTimeout
    dsimp only
    rw [overdue]
  case left =>
    have done := State.sweepDone_of (s := s.advance dt) slot runs (.inl phase) due
    have e := exec_sweepStopFound done
    rw [Routine.stopFound_left phase, State.completePhase_of_next (ph := .sweepRight) (by rw [phase]; rfl)] at e
    have consequence := ((State.setDrive_consequence r.axis 0 (s.advance dt)).trans
      (State.beginPhase_consequence { r with v1 := some (r.stopAngle ((s.advance dt).axis r.axis)) } .sweepRight _)).trans
      (State.settle_consequence _)
    have axis : ((s.advance dt).setDrive r.axis 0).axis r.axis = { s.axis r.axis with drive := 0 } := State.setDrive_axis ..
    have params : ((s.advance dt).setDrive r.axis 0).params = s.params := State.setDrive_params ..
    have now : ((s.advance dt).setDrive r.axis 0).now = s.now + dt := State.setDrive_now ..
    generalize (s.advance dt).setDrive r.axis 0 = u at *
    obtain ⟨slot', axis'⟩ := State.driven_phase (r := r) (s := u) (d := -(fixedDrive u.params))
      (q := ({ r with v1 := some (r.stopAngle ((s.advance dt).axis r.axis)) } : Routine).fresh .sweepRight u.now
        (u.axis r.axis).meas) rfl rfl (by rw [params]; exact instant) (by rw [axis]; exact mode)
    refine ⟨_, _, e, slot', rfl, kind, rfl, rfl, rfl, rfl, now, (congrArg AxisCtl.meas axis :), ?_, consequence⟩
    rw [← params]
    exact congrArg AxisCtl.drive axis'
  case right =>
    have done := State.sweepDone_of (s := s.advance dt) slot runs (.inr phase) due
    have e := exec_sweepStopFound done
    rw [Routine.stopFound_right phase, State.completePhase_of_next (ph := .centre) (by rw [phase]; rfl),
      show r.v1.getD 0 = left by rw [found]; rfl, show r.stopAngle ((s.advance dt).axis r.axis) = right from stop.symm] at e
    set q : Routine := { r with
      v2 := some right, v3 := some (truncDiv (left + right) 2),
      outcome := if (spanRange r.axis).1 ≤ left - right ∧ left - right ≤ (spanRange r.axis).2 then .pass else .failSpan }
    have consequence := ((State.setDrive_consequence r.axis 0 (s.advance dt)).trans
      (State.beginPhase_consequence q .centre _)).trans (State.settle_consequence _)
    have axis : ((s.advance dt).setDrive r.axis 0).axis r.axis = { s.axis r.axis with drive := 0 } := State.setDrive_axis ..
    have params : ((s.advance dt).setDrive r.axis 0).params = s.params := State.setDrive_params ..
    generalize (s.advance dt).setDrive r.axis 0 = u at *
    obtain ⟨slot', -⟩ := State.settle_phase (t := u.beginPhase q .centre)
      (r := { q.fresh .centre u.now (u.axis r.axis).meas with target := truncDiv (left + right) 2 }) rfl rfl
      (by show u.params.noInstantTrip; rw [params]; exact instant) (by show (u.axis r.axis).mode ≠ _; rw [axis, mode]; exact nofun)
    have outcome : q.outcome = if (spanRange r.axis).1 ≤ left - right ∧ left - right ≤ (spanRange r.axis).2 then .pass
      else .failSpan := rfl
    refine ⟨_, _, e, slot', rfl, rfl, found, rfl, rfl, rfl, ?_, ?_, consequence⟩
    · show q.outcome = .pass ∨ q.outcome = .failSpan
      rw [outcome]
      split
      · exact .inl rfl
      · exact .inr rfl
    · show q.outcome = .pass ↔ _
      rw [outcome, ← spanRange_iff]
      split
      next within => exact ⟨fun _ => within, fun _ => rfl⟩
      next outside => exact ⟨fun h => (nomatch h), fun within => absurd within outside⟩

end Sys2Proof.Machine
end

section
/-! PROOFS. RAMP_STEP and PUSH_PHASE_END (R101, R102, R103). -/

namespace Sys2Proof.Machine

theorem State.pushDone_of {s : State} {r : Routine} (slot : s.slot = .routine r) (runs : r.held = none)
    (phase : r.phase = .pushLeft ∨ r.phase = .pushRight) (due : r.phaseStart + 300000 ≤ s.now) : s.pushDone = some r := by
  rw [State.pushDone, Slot.running_of_routine slot runs, Option.filter_some, if_pos]
  have reached : reached (some r.phaseStart) pushTime s.now = true := decide_eq_true due
  rw [reached, Bool.and_true]
  obtain e | e := phase
  · rw [e]; rfl
  · rw [e]; rfl

theorem State.rampDue_of {s : State} {r : Routine} {e : Nat} (slot : s.slot = .routine r) (runs : r.held = none)
    (phase : r.phase = .rampLeft ∨ r.phase = .rampRight) (since : r.rampSince = some e) (due : e + 2000 ≤ s.now) :
    s.rampDue = some r := by
  rw [State.rampDue, Slot.running_of_routine slot runs, Option.filter_some, if_pos]
  have reached : reached r.rampSince rampPeriod s.now = true := since ▸ decide_eq_true due
  rw [reached, Bool.and_true]
  obtain e | e := phase
  · rw [e]; rfl
  · rw [e]; rfl

theorem exec_pushPhaseEnd {dt : Nat} {s : State} {r : Routine} (done : (s.advance dt).pushDone = some r) :
    exec (.pushPhaseEnd dt) s = .next (((s.advance dt).setDrive r.axis 0).completePhase r.withPush).settle := by
  show execPushPhaseEnd dt s = _
  unfold execPushPhaseEnd
  dsimp only
  rw [done]

theorem exec_rampStep {dt : Nat} {s : State} {r : Routine} (due : (s.advance dt).rampDue = some r) :
    exec (.rampStep dt) s = .next ((s.advance dt).stepRamp r).settle := by
  show execRampStep dt s = _
  unfold execRampStep
  dsimp only
  rw [due]

theorem Routine.withPush_left {r : Routine} (runs : r.held = none) (phase : r.phase = .pushLeft) :
    r.withPush = { r with v1 := some r.maxDisp } := by
  rw [Routine.withPush, runs, phase]
  rfl

theorem Routine.withPush_right {r : Routine} (runs : r.held = none) (phase : r.phase = .pushRight) :
    r.withPush = { r with v2 := some r.maxDisp } := by
  rw [Routine.withPush, runs, phase]
  rfl

theorem Routine.brokeAway_left {r : Routine} (phase : r.phase = .rampLeft) : r.brokeAway = { r with v1 := some r.rampDrive } :=
  if_neg (by rw [phase]; exact nofun)

theorem Routine.brokeAway_right {r : Routine} (phase : r.phase = .rampRight) : r.brokeAway = { r with v2 := some r.rampDrive } :=
  if_pos phase

theorem Routine.finalOutcome_of_none {r : Routine} (undecided : r.outcome = .none) : r.finalOutcome = .pass := if_pos undecided

theorem Phase.rampSign_eq (ph : Phase) : ph.rampSign = if ph = .rampRight then -1 else 1 := by cases ph <;> rfl

theorem Routine.writes_lockTest {r : Routine} (kind : r.kind = .lockTest) (p : Params) : r.writes p = p := by
  rw [Routine.writes, kind]

theorem Routine.writes_friction_steer {r : Routine} {left right : Int} (kind : r.kind = .friction) (axis : r.axis = .steer)
    (v1 : r.v1 = some left) (v2 : r.v2 = some right) (p : Params) :
    r.writes p = { p with frictionSteer := max 0 (min 300 (max left right)) } := by
  rw [Routine.writes, kind, axis, v1, v2]
  dsimp only
  rw [clamp_eq (by decide)]
  rfl

/-- The routine whose last phase passes ends with PASS, with its axis's drive off before (R101, R102, R103). -/
theorem State.passed_ended {q : Routine} {s : State} (last : nextPhase q.axis q.kind q.phase = none) (undecided : q.outcome = .none)
    (instant : s.params.noInstantTrip) :
    RoutineEnded q .pass s ((s.setDrive q.axis 0).completePhase q).settle ∧
      ((s.setDrive q.axis 0).completePhase q).settle.params = q.writes s.params ∧
      Consequence s ((s.setDrive q.axis 0).completePhase q).settle := by
  have params : (s.setDrive q.axis 0).params = s.params := State.setDrive_params ..
  obtain ⟨ended, written, consequence⟩ := State.finishRoutine_ended q .pass (s := s.setDrive q.axis 0) (by rw [params]; exact instant)
  rw [State.completePhase_of_last last, Routine.finalOutcome_of_none undecided]
  exact ⟨ended.behind (State.setDrive_returnMode ..) (State.setAxis_log ..), written.trans (by rw [if_pos rfl, params]),
    (State.setDrive_consequence q.axis 0 s).trans consequence⟩

/-- Settles O42. -/
theorem rampsAndPushesMeasure : Obligations.RampsAndPushesMeasure := by
  refine ⟨fun dt r s slot runs kind tilt mode due instant => ⟨fun phase => ?left, fun phase undecided => ?right⟩,
    fun dt e r s slot runs since due phase kind mode instant => ⟨fun near below => ?steps, fun near full => ?fails,
      fun moved phase => ?turns, fun left moved phase steer v1 undecided => ?passes⟩⟩
  case left =>
    have ran := exec_pushPhaseEnd (State.pushDone_of (s := s.advance dt) slot runs (.inl phase) due)
    rw [Routine.withPush_left runs phase, State.completePhase_of_next (ph := .pushRight) (by rw [phase]; rfl)] at ran
    have consequence := ((State.setDrive_consequence r.axis 0 (s.advance dt)).trans
      (State.beginPhase_consequence { r with v1 := some r.maxDisp } .pushRight _)).trans (State.settle_consequence _)
    have axis : ((s.advance dt).setDrive r.axis 0).axis r.axis = { s.axis r.axis with drive := 0 } := State.setDrive_axis ..
    have params : ((s.advance dt).setDrive r.axis 0).params = s.params := State.setDrive_params ..
    have now : ((s.advance dt).setDrive r.axis 0).now = s.now + dt := State.setDrive_now ..
    have routine : (s.axis r.axis).mode = .routine := by rw [tilt]; exact mode
    generalize (s.advance dt).setDrive r.axis 0 = u at *
    obtain ⟨slot', axis'⟩ := State.driven_phase (r := r) (s := u) (d := -(fixedDrive u.params))
      (q := ({ r with v1 := some r.maxDisp } : Routine).fresh .pushRight u.now (u.axis r.axis).meas) rfl rfl
      (by rw [params]; exact instant) (by rw [axis]; exact routine)
    refine ⟨_, _, ran, slot', tilt, rfl, rfl, rfl, ?_, now, ?_, consequence⟩
    · exact (congrArg AxisCtl.meas axis).trans (congrArg (fun x => (s.axis x).meas) tilt)
    · rw [← params]
      exact (congrArg (fun x => (State.axis _ x).drive) tilt.symm).trans (congrArg AxisCtl.drive axis')
  case right =>
    have ran := exec_pushPhaseEnd (State.pushDone_of (s := s.advance dt) slot runs (.inr phase) due)
    rw [Routine.withPush_right runs phase] at ran
    obtain ⟨ended, params, consequence⟩ := State.passed_ended (q := { r with v2 := some r.maxDisp }) (s := s.advance dt)
      (by rw [phase]; rfl) undecided instant
    exact ⟨_, ran, ended.behind rfl rfl, params.trans (Routine.writes_lockTest (by exact kind) _), consequence⟩
  case steps =>
    have ran := exec_rampStep (State.rampDue_of (s := s.advance dt) slot runs phase since due)
    rw [State.stepRamp, if_neg (by exact not_lt.mpr near), if_neg (by exact not_le.mpr below)] at ran
    dsimp only at ran
    have awaits : r.phase.awaits = none := by obtain e | e := phase <;> rw [e] <;> rfl
    have consequence := ((State.setSlot_consequence (.routine
      { r with rampDrive := min s.params.driveMax (r.rampDrive + 2), rampSince := some (s.now + dt) }) (s.advance dt)).trans (State.setDrive_consequence r.axis
        (r.phase.rampSign * min s.params.driveMax (r.rampDrive + 2)) _)).trans (State.settle_consequence _)
    obtain ⟨slot', axis'⟩ := State.driven_phase (r := r) (s := s.advance dt)
      (d := r.phase.rampSign * min s.params.driveMax (r.rampDrive + 2))
      (q := { r with rampDrive := min s.params.driveMax (r.rampDrive + 2), rampSince := some (s.now + dt) }) awaits rfl instant mode
    refine ⟨_, ran, slot', ?_, consequence⟩
    rw [← Phase.rampSign_eq]
    exact (congrArg AxisCtl.drive axis' :)
  case fails =>
    have ran := exec_rampStep (State.rampDue_of (s := s.advance dt) slot runs phase since due)
    rw [State.stepRamp, if_neg (by exact not_lt.mpr near), if_pos (by exact full)] at ran
    obtain ⟨ended, -, consequence⟩ := State.finishRoutine_ended r .failNoMove (s := s.advance dt) instant
    exact ⟨_, ran, ended.behind rfl rfl, consequence⟩
  case turns =>
    have ran := exec_rampStep (State.rampDue_of (s := s.advance dt) slot runs (.inl phase) since due)
    rw [State.stepRamp, if_pos (by exact moved), Routine.brokeAway_left phase,
      State.completePhase_of_next (ph := .rampRight) (by rw [phase]; rfl)] at ran
    have consequence := ((State.setDrive_consequence r.axis 0 (s.advance dt)).trans
      (State.beginPhase_consequence { r with v1 := some r.rampDrive } .rampRight _)).trans (State.settle_consequence _)
    have axis : ((s.advance dt).setDrive r.axis 0).axis r.axis = { s.axis r.axis with drive := 0 } := State.setDrive_axis ..
    have params : ((s.advance dt).setDrive r.axis 0).params = s.params := State.setDrive_params ..
    generalize (s.advance dt).setDrive r.axis 0 = u at *
    set q := ({ r with v1 := some r.rampDrive } : Routine).fresh .rampRight u.now (u.axis r.axis).meas
    obtain ⟨slot', axis', -⟩ := State.settle_phase (t := u.beginPhase { r with v1 := some r.rampDrive } .rampRight)
      (r := { q with firstRamp := some (q.firstRamp.getD (u.axis r.axis).meas), target := q.firstRamp.getD (u.axis r.axis).meas })
      rfl rfl (by show u.params.noInstantTrip; rw [params]; exact instant)
      (by show (u.axis r.axis).mode ≠ _; rw [axis]; exact fun e => nomatch mode.symm.trans e)
    refine ⟨_, _, ran, slot', rfl, rfl, rfl, rfl, ?_, consequence⟩
    exact (congrArg AxisCtl.drive axis').trans (congrArg AxisCtl.drive axis)
  case passes =>
    have ran := exec_rampStep (State.rampDue_of (s := s.advance dt) slot runs (.inr phase) since due)
    rw [State.stepRamp, if_pos (by exact moved), Routine.brokeAway_right phase] at ran
    obtain ⟨ended, params, consequence⟩ := State.passed_ended (q := { r with v2 := some r.rampDrive }) (s := s.advance dt)
      (by rw [phase, kind, steer]; rfl) undecided instant
    exact ⟨_, ran, ended.behind rfl rfl, params.trans (Routine.writes_friction_steer (by exact kind) (by exact steer) (by exact v1) rfl _), consequence⟩

end Sys2Proof.Machine
end

section
/-! PROOFS. SOLVE_PERIOD (R18 to R34). -/

namespace Sys2Proof.Machine

/-! ## The arithmetic of the stages -/

theorem clampSym_eq {b : Int} (h : 0 ≤ b) (x : Int) : clampSym b x = max (-b) (min b x) := clamp_eq (by omega) x

theorem mag_eq (x : Int) : mag x = |x| := by
  unfold mag
  split
  · exact (abs_of_neg (by assumption)).symm
  · exact (abs_of_nonneg (by omega)).symm

/-- The nearest integer to n / d, halves away from zero. -/
theorem roundDiv_nearest (n : Int) {d : Int} (pos : 0 < d) : 2 * |roundDiv n d * d - n| ≤ d ∧
    (2 * |roundDiv n d * d - n| = d → |n| ≤ |roundDiv n d * d|) := by
  have nonneg (m : Int) (h : 0 ≤ m) : ∃ z, (2 * m + d) / (2 * d) * d = z ∧ 0 ≤ z ∧ -d < 2 * (z - m) ∧ 2 * (z - m) ≤ d := by
    set q := (2 * m + d) / (2 * d) with hq
    have low : 2 * d * q ≤ 2 * m + d := Int.mul_ediv_self_le (by omega)
    have high : 2 * m + d < 2 * d * q + 2 * d := Int.lt_mul_ediv_self_add (by omega)
    have q0 : 0 ≤ q := Int.ediv_nonneg (by omega) (by omega)
    refine ⟨q * d, rfl, Int.mul_nonneg q0 (le_of_lt pos), ?_, ?_⟩ <;> rw [mul_assoc, mul_comm d q] at low high <;> omega
  unfold roundDiv
  split
  next neg =>
    obtain ⟨z, e, z0, above, below⟩ := nonneg (-n) (by omega)
    rw [neg_mul, e]
    refine ⟨?_, fun _ => ?_⟩
    · rw [← abs_neg, show -(-z - n) = z - -n by ring]
      rcases abs_cases (z - -n) with ⟨h, -⟩ | ⟨h, -⟩ <;> omega
    · rename_i tie
      rw [← abs_neg (-z - n), show -(-z - n) = z - -n by ring] at tie
      rw [abs_neg, abs_of_nonneg z0, abs_of_neg neg]
      rcases abs_cases (z - -n) with ⟨h, -⟩ | ⟨h, -⟩ <;> omega
  next pos' =>
    obtain ⟨z, e, z0, above, below⟩ := nonneg n (by omega)
    rw [e]
    refine ⟨?_, fun tie => ?_⟩
    · rcases abs_cases (z - n) with ⟨h, -⟩ | ⟨h, -⟩ <;> omega
    · rw [abs_of_nonneg z0, abs_of_nonneg (by omega : 0 ≤ n)]
      rcases abs_cases (z - n) with ⟨h, -⟩ | ⟨h, -⟩ <;> omega

theorem lateral_cast (v : Nat) (k : Int) : (lateral v k : Int) = (v : Int) * v * |k| / 10000 := by
  rw [lateral, Int.natCast_ediv, Nat.cast_mul, Nat.cast_mul, Int.natCast_natAbs]
  rfl

theorem kMax_cast {kGeom A : Int} (geom : 0 ≤ kGeom) (nonneg : 0 ≤ A) (v : Nat) : (kMax kGeom A.toNat v : Int) =
    if (v : Int) = 0 then kGeom else min kGeom (A * 10000 / ((v : Int) * v)) := by
  unfold kMax
  by_cases rest : v = 0
  · rw [if_pos rest, if_pos (by exact_mod_cast rest), Int.toNat_of_nonneg geom]
  · rw [if_neg rest, if_neg (by exact_mod_cast rest), Nat.cast_min, Int.toNat_of_nonneg geom, Int.natCast_ediv, Nat.cast_mul,
      Nat.cast_mul, Int.toNat_of_nonneg nonneg]
    rfl

theorem ceilingA_cast {p : Params} (valid : p.Valid) (g : Grade) : (if g = .none then p.aMax else p.aSafe) =
    ((if g = .none then p.aMax else p.aSafe).toNat : Int) ∧
    ceilingA p g = (if g = .none then p.aMax else p.aSafe).toNat := by
  have aMax : (500 : Int) ≤ p.aMax := (valid.ranges .aMax).1
  have aSafe : (300 : Int) ≤ p.aSafe := (valid.ranges .aSafe).1
  unfold ceilingA
  split
  · exact ⟨(Int.toNat_of_nonneg (by omega)).symm, rfl⟩
  · exact ⟨(Int.toNat_of_nonneg (by omega)).symm, rfl⟩

/-! ## The demand (R83, R47, R27) -/

theorem State.demand_of_unheld {s : State} (unheld : s.auth.hold = none) : s.demand = s.auth.riderDemand ∧ s.camber = 0 := by
  have source : s.source = .rider := State.source_of_no_hold unheld
  rw [State.demand, State.camber, source]
  exact ⟨rfl, rfl⟩

theorem State.demand_of_path {s : State} (held : s.auth.hold ≠ none) {g : Segment} {rest : List Segment}
    (queue : s.path.queue = g :: rest) :
    s.demand = g.k0 + Int.tdiv ((g.k1 - g.k0) * s.path.pos) g.length ∧ s.camber = g.trim.getD 0 := by
  obtain ⟨h, hold⟩ := Option.ne_none_iff_exists'.mp held
  have source : s.source = .path := by rw [State.source, hold, queue]
  rw [State.demand, State.camber, source, queue]
  refine ⟨?_, rfl⟩
  show s.path.kPath = _
  rw [PathUnit.kPath, queue]
  rfl

theorem State.demand_of_dry {s : State} (held : s.auth.hold ≠ none) {k : Int} (queue : s.path.queue = [])
    (last : s.path.held = some k) : s.demand = k ∧ s.camber = 0 := by
  obtain ⟨h, hold⟩ := Option.ne_none_iff_exists'.mp held
  have source : s.source = .dry := by rw [State.source, hold, queue]
  rw [State.demand, State.camber, source, last]
  exact ⟨rfl, rfl⟩

/-! ## A period -/

/-- The part at the end of a period, before what follows from it. -/
def State.periodTaken (s : State) : State := s.setSolve { s.solved with periodDue := s.solve.periodDue + 2000 }

theorem exec_solvePeriod_of_due {dt : Nat} {s : State} (run : s.latch.run = .run) (due : s.solve.periodDue ≤ s.now + dt) :
    exec (.solvePeriod dt) s = .next (s.advance dt).periodTaken.settle := by
  show execSolvePeriod dt s = _
  unfold execSolvePeriod
  refine if_pos ?_
  simp only [State.periodNow, Bool.and_eq_true, decide_eq_true_eq]
  exact ⟨run, due⟩

theorem exec_solvePeriod_of_early {dt : Nat} {s : State} (early : s.latch.run = .parked ∨ s.now + dt < s.solve.periodDue) :
    exec (.solvePeriod dt) s = .next (s.advance dt) := by
  show execSolvePeriod dt s = _
  unfold execSolvePeriod
  refine if_neg ?_
  simp only [State.periodNow, Bool.and_eq_true, decide_eq_true_eq]
  rintro ⟨run, due⟩
  obtain parked | early := early
  · exact nomatch parked.symm.trans run
  · exact absurd due (Nat.not_le.mpr early)

theorem State.gated_iff (s : State) : s.gated = true ↔ s.latch.state ≠ .released ∨ s.slow = true ∨ s.grade = .lockdown := by
  simp [State.gated, or_assoc]

/-- What a settled period has of the solve that it began with. -/
theorem SameTargets.targets {s t : State} (h : SameTargets s t) : t.solve.kc = s.solve.kc ∧ t.solve.a = s.solve.a ∧
    t.solve.curvLimited = s.solve.curvLimited ∧ t.solve.leanLimited = s.solve.leanLimited ∧ t.solve.upright = s.solve.upright ∧
    t.solve.phiT = s.solve.phiT ∧ t.solve.deltaT = s.solve.deltaT ∧ t.solve.periodDue = s.solve.periodDue := by
  have h : { t.solve with phiS := 0, deltaS := 0, captured := 0 } = { s.solve with phiS := 0, deltaS := 0, captured := 0 } := h
  exact ⟨(congrArg SolveUnit.kc h :), (congrArg SolveUnit.a h :), (congrArg SolveUnit.curvLimited h :),
    (congrArg SolveUnit.leanLimited h :), (congrArg SolveUnit.upright h :), (congrArg SolveUnit.phiT h :),
    (congrArg SolveUnit.deltaT h :), (congrArg SolveUnit.periodDue h :)⟩

/-- Settles O20. -/
theorem solvePeriodComputesTheTargets : Obligations.SolvePeriodComputesTheTargets := by
  refine ⟨fun s => ⟨State.demand_of_unheld, fun held k => State.demand_of_dry held, fun held g rest => State.demand_of_path held⟩,
    fun n d pos => roundDiv_nearest n pos, fun dt s => ⟨exec_solvePeriod_of_early, fun run due valid => ?_⟩⟩
  have settled := State.settle_consequence (s.advance dt).periodTaken
  obtain ⟨kc, a, curv, lean, upright, phiT, deltaT, period⟩ := settled.targets.targets
  obtain ⟨cast, ceiling⟩ := ceilingA_cast valid s.grade
  have geom : (50 : Int) ≤ s.params.kGeom := (valid.ranges .kGeom).1
  have limit : (0 : Int) ≤ s.params.leanLimit := (valid.ranges .leanLimit).1
  have steer : (500 : Int) ≤ s.params.steerMax := (valid.ranges .steerMax).1
  obtain ⟨pending, pins, portA, portB, store⟩ := settled.outside
  refine ⟨_, exec_solvePeriod_of_due run due, ?_, period, settled.now, ⟨pending, pins, portA, portB, store⟩, settled.speed, settled.rider,
    settled.angles, settled.switches, settled.settings, settled.latchClock, settled.grows⟩
  intro v A kmax kc' a' m raw lim gated
  have nonneg : 0 ≤ A := by
    rw [show A = _ from cast]
    exact Int.natCast_nonneg _
  have ceil : (kMax s.params.kGeom (ceilingA s.params s.grade) s.speed.v : Int) = kmax := by
    rw [ceiling]
    exact kMax_cast (by omega) nonneg s.speed.v
  have kcs : clampSym (kMax s.params.kGeom (ceilingA s.params s.grade) s.speed.v) s.demand = kc' := by
    rw [clampSym_eq (Int.natCast_nonneg _), ceil]
  have as : (lateral s.speed.v kc' : Int) = a' := lateral_cast _ _
  have lateral' : a'.toNat = lateral s.speed.v kc' := by rw [← as]; rfl
  have raws : signedLean kc' (leanMagnitude s.params (lateral s.speed.v kc')) + s.camber = raw := by
    rw [← lateral']
    rfl
  have lims : clampSym s.params.leanLimit raw = lim := clampSym_eq limit raw
  have taken : (s.advance dt).periodTaken.solve =
      { s.solve with
        kc := kc', a := lateral s.speed.v kc', phiT := if s.gated then 0 else lim,
        deltaT := clampSym s.params.steerMax (roundDiv (kc' * 65536) s.params.curvGain),
        curvLimited := kc' != s.demand, leanLimited := lim != raw, upright := s.gated,
        phiS := (s.advance dt).solved.phiS, deltaS := (s.advance dt).solved.deltaS,
        periodDue := s.solve.periodDue + 2000 } := by
    rw [← lims, ← raws, ← kcs]
    rfl
  rw [taken] at kc a curv lean upright phiT deltaT
  rw [kc, a, curv, lean, upright, phiT, deltaT]
  refine ⟨rfl, as, by simp, by simp, s.gated_iff, fun up => ?_, fun down => ?_, clampSym_eq (by omega) _⟩
  · exact if_pos (s.gated_iff.mpr up)
  · exact if_neg fun up => down (s.gated_iff.mp up)

end Sys2Proof.Machine
end

section
/-! PROOFS. What the latch controller's operations leave in the latch record, the solve, the tilt axis and the log: one equation
each (R112, R113, R114, R116, R117, R119). -/

namespace Sys2Proof.Machine

/-! ## Taking a latch state (R112, R33, R91) -/

theorem State.takeLatch_latch (l : LatchState) (s : State) :
    (s.takeLatch l).latch = { s.latch with state := l, uncommanded := false } := by
  unfold State.takeLatch
  dsimp only
  split <;> rfl

theorem State.takeLatch_solve (l : LatchState) (s : State) : (s.takeLatch l).solve =
    if capturesLean s.latch.state l then { s.solve with captured := s.tilt.meas, phiS := s.tilt.meas } else s.solve := by
  unfold State.takeLatch
  dsimp only
  split <;> rfl

theorem State.setLatch_latch (l : LatchState) (s : State) :
    (s.setLatch l).latch = { s.latch with state := l, uncommanded := false } := State.takeLatch_latch l _

theorem State.setLatch_solve (l : LatchState) (s : State) : (s.setLatch l).solve =
    if capturesLean s.latch.state l then { s.solve with captured := s.tilt.meas, phiS := s.tilt.meas } else s.solve :=
  State.takeLatch_solve l _

theorem State.setLatch_solve_of_stays {l : LatchState} {s : State} (stays : capturesLean s.latch.state l = false) :
    (s.setLatch l).solve = s.solve := by
  rw [State.setLatch_solve, stays]
  rfl

theorem State.setLatch_solve_of_captures {l : LatchState} {s : State} (captures : capturesLean s.latch.state l = true) :
    (s.setLatch l).solve = { s.solve with captured := s.tilt.meas, phiS := s.tilt.meas } := by
  rw [State.setLatch_solve, captures]
  rfl

theorem State.setLatch_now (l : LatchState) (s : State) : (s.setLatch l).now = s.now := (State.setLatch_latchMove l s).now

theorem State.setLatch_params (l : LatchState) (s : State) : (s.setLatch l).params = s.params := (State.setLatch_latchMove l s).params

/-- Outside ENGAGED and JAMMED the tilt axis stands (R91). -/
theorem State.takeLatch_tilt_of_open {l : LatchState} (opens : l ≠ .engaged ∧ l ≠ .jammed) (s : State) : (s.takeLatch l).tilt = s.tilt := by
  rw [State.takeLatch_tilt, AxisCtl.latchClosed, if_neg]
  simp [opens]

/-! ## An attempt (R113, R114) -/

/-- The latch record with an attempt open: see `LatchUnit.AttemptOpen`. -/
def LatchUnit.opened (l : LatchUnit) (p : Params) (x : AttemptSet) (now : Nat) : LatchUnit :=
  { l with pulse := some (Pulse.started p x.direction now),
           set := some { x with stage := .window (now + p.lockConfirmMs.toNat * 1000) } }

theorem State.openWindow_of_apart {x : AttemptSet} {s : State} (apart : s.latch.closed ≠ x.direction.target) :
    s.openWindow x = s.setLatchUnit (s.latch.opened s.params x s.now) := if_neg apart

theorem State.openWindow_of_reached {x : AttemptSet} {s : State} (there : s.latch.closed = x.direction.target) :
    s.openWindow x = (s.setLatchUnit (s.latch.opened s.params x s.now)).succeedSet x.direction := if_pos there

theorem State.startAttempt_of_idle {x : AttemptSet} {s : State} (idle : s.latch.pulse = none) :
    s.startAttempt x = s.openWindow x := if_neg (by simp [idle])

theorem State.startAttempt_of_pulse {x : AttemptSet} {s : State} (pulse : s.latch.pulse ≠ none) :
    s.startAttempt x = s.setSet (some { x with stage := .waitCoil }) := if_pos (Option.isSome_iff_ne_none.mpr pulse)

/-- An attempt that starts on an idle coil, with the switch apart from its target, opens its window. -/
theorem State.startAttempt_of_apart {x : AttemptSet} {s : State} (idle : s.latch.pulse = none)
    (apart : s.latch.closed ≠ x.direction.target) : s.startAttempt x = s.setLatchUnit (s.latch.opened s.params x s.now) :=
  (State.startAttempt_of_idle idle).trans (State.openWindow_of_apart apart)

theorem State.succeedSet_latch (d : Direction) (s : State) :
    (s.succeedSet d).latch = { s.latch with set := none, state := d.reached, uncommanded := false } := State.setLatch_latch _ _

theorem capturesLean_reached (l : LatchState) (d : Direction) : capturesLean l d.reached = false := by cases d <;> rfl

theorem State.succeedSet_solve (d : Direction) (s : State) : (s.succeedSet d).solve = s.solve :=
  State.setLatch_solve_of_stays (capturesLean_reached _ d)

theorem State.succeedSet_log (d : Direction) (s : State) : (s.succeedSet d).log = (s.logEvent (.lockState d.reached)).log :=
  State.setLatch_log d.reached _

theorem State.openWindow_solve (x : AttemptSet) (s : State) : (s.openWindow x).solve = s.solve := by
  by_cases there : s.latch.closed = x.direction.target
  · rw [State.openWindow_of_reached there, State.succeedSet_solve]
    rfl
  · rw [State.openWindow_of_apart there]
    rfl

theorem State.startAttempt_solve (x : AttemptSet) (s : State) : (s.startAttempt x).solve = s.solve := by
  by_cases idle : s.latch.pulse = none
  · rw [State.startAttempt_of_idle idle, State.openWindow_solve]
  · rw [State.startAttempt_of_pulse idle]
    rfl

/-- An attempt leaves the latch state, or takes its direction's target state. -/
theorem State.startAttempt_state (x : AttemptSet) (s : State) :
    (s.startAttempt x).latch.state = s.latch.state ∨
      (s.startAttempt x).latch.state = x.direction.reached ∧ s.latch.closed = x.direction.target := by
  by_cases idle : s.latch.pulse = none
  · rw [State.startAttempt_of_idle idle]
    by_cases there : s.latch.closed = x.direction.target
    · rw [State.openWindow_of_reached there, State.succeedSet_latch]
      exact .inr ⟨rfl, there⟩
    · rw [State.openWindow_of_apart there]
      exact .inl rfl
  · rw [State.startAttempt_of_pulse idle]
    exact .inl rfl

theorem State.beginSet_eq (d : Direction) (o : SetOrigin) (s : State) :
    s.beginSet d o = s.startAttempt { direction := d, attempt := 1, stage := .waitCoil, origin := o } := rfl

/-- What a first attempt opens. -/
theorem LatchUnit.opened_attemptOpen (l : LatchUnit) (p : Params) (d : Direction) (o : SetOrigin) (now : Nat) :
    (l.opened p { direction := d, attempt := 1, stage := .waitCoil, origin := o } now).AttemptOpen p d o now := ⟨rfl, rfl⟩

/-! ## Beginnings -/

theorem State.beginEngage_solve {o : SetOrigin} (s : State) : (s.beginEngage o).solve = s.solve := by
  rw [State.beginEngage, State.beginSet_eq, State.startAttempt_solve]
  exact State.setLatch_solve_of_stays (by cases s.latch.state <;> rfl)

theorem State.beginEngage_state (o : SetOrigin) (s : State) : (s.beginEngage o).latch.state = .engaging ∨
    (s.beginEngage o).latch.state = .engaged ∧ s.latch.closed = true := by
  have started := State.startAttempt_state { direction := .engage, attempt := 1, stage := .waitCoil, origin := o } (s.setLatch .engaging)
  rw [State.setLatch_latch] at started
  exact started

/-- An engagement with the coil idle and the switch OPEN opens its window. -/
theorem State.beginEngage_of_apart {o : SetOrigin} {s : State} (idle : s.latch.pulse = none) (opened : s.latch.closed = false) :
    s.beginEngage o = (s.setLatch .engaging).setLatchUnit ((s.setLatch .engaging).latch.opened s.params
      { direction := .engage, attempt := 1, stage := .waitCoil, origin := o } s.now) := by
  rw [State.beginEngage, State.beginSet_eq, State.startAttempt_of_apart (by rw [State.setLatch_latch]; exact idle)
    (by rw [State.setLatch_latch]; exact fun e => nomatch opened.symm.trans e), State.setLatch_params, State.setLatch_now]

/-- A release with the coil idle and the switch CLOSED opens its window. -/
theorem State.beginDirectRelease_of_apart {o : SetOrigin} {s : State} (idle : s.latch.pulse = none) (closed : s.latch.closed = true) :
    s.beginDirectRelease o = (s.setLatch .releasing).setLatchUnit ((s.setLatch .releasing).latch.opened s.params
      { direction := .release, attempt := 1, stage := .waitCoil, origin := o } s.now) := by
  rw [State.beginDirectRelease, State.beginSet_eq, State.startAttempt_of_apart (by rw [State.setLatch_latch]; exact idle)
    (by rw [State.setLatch_latch]; exact fun e => nomatch closed.symm.trans e), State.setLatch_params, State.setLatch_now]

/-- A release set that takes over from a preload, likewise (R117). -/
theorem State.endPreload_of_apart {s : State} (idle : s.latch.pulse = none) (closed : s.latch.closed = true) :
    s.endPreload = ((s.setLatchUnit { s.latch with preloadEnd := none }).setLatch .releasing).setLatchUnit
      (((s.setLatchUnit { s.latch with preloadEnd := none }).setLatch .releasing).latch.opened s.params
        { direction := .release, attempt := 1, stage := .waitCoil, origin := .own } s.now) := by
  rw [State.endPreload, State.beginSet_eq, State.startAttempt_of_apart (by rw [State.setLatch_latch]; exact idle)
    (by rw [State.setLatch_latch]; exact fun e => nomatch closed.symm.trans e), State.setLatch_params, State.setLatch_now]
  rfl

theorem State.abandonPreload_latch (s : State) :
    s.abandonPreload.latch = { s.latch with preloadEnd := none, state := .engaged, uncommanded := false } := State.setLatch_latch .engaged _

theorem State.abandonPreload_solve (s : State) : s.abandonPreload.solve = s.solve :=
  State.setLatch_solve_of_stays (by cases s.latch.state <;> rfl)

/-! ## The decision by the latch state (R116, R117, R119 to R121, R124) -/

theorem State.decideLatch_of_first {s : State} (first : s.latch.first ≠ none) : s.decideLatch = none :=
  if_pos (Option.isSome_iff_ne_none.mpr first)

theorem State.decideLatch_engaged {s : State} (first : s.latch.first = none) (state : s.latch.state = .engaged) : s.decideLatch =
    if s.ownRules && s.permitReleases then some s.beginPermitRelease
    else if s.ownRules && s.mayLean && !s.latch.uncommanded then some s.beginRelease
    else none := by
  rw [State.decideLatch, first, state]
  rfl

theorem State.decideLatch_releasePreload {s : State} (first : s.latch.first = none) (state : s.latch.state = .releasePreload) :
    s.decideLatch = if s.preloadOff then some s.abandonPreload else none := by
  rw [State.decideLatch, first, state]
  rfl

theorem State.decideLatch_released {s : State} (first : s.latch.first = none) (state : s.latch.state = .released) :
    s.decideLatch = if s.ownRules && s.mayEngage then some (s.beginEngage .own) else none := by
  rw [State.decideLatch, first, state]
  rfl

theorem State.decideLatch_jammed {s : State} (first : s.latch.first = none) (state : s.latch.state = .jammed) : s.decideLatch =
    if s.slow && s.latch.closed && !s.latch.pulsing .release then some (s.setLatch .engaged) else none := by
  rw [State.decideLatch, first, state]
  rfl

theorem State.decideLatch_unlatchedFault {s : State} (first : s.latch.first = none) (state : s.latch.state = .unlatchedFault) :
    s.decideLatch = if s.ownRules && s.mayLean then some (s.setLatch .released) else none := by
  rw [State.decideLatch, first, state]
  rfl

/-- While an attempt set runs in its own state the latch controller has nothing to decide. -/
theorem State.decideLatch_under_way {s : State} (state : s.latch.state = .releasing ∨ s.latch.state = .engaging) :
    s.decideLatch = none := by
  rw [State.decideLatch_eq_none_iff, State.decides]
  obtain state | state := state <;> rw [state] <;> exact Bool.and_false _

/-! ## Conditions that exclude one another -/

theorem State.fast_of_mayLean {s : State} (lean : s.mayLean = true) :
    s.fast = true ∧ s.tilt.mode = .track ∧ s.grade ≠ .lockdown ∧ s.lockDemand = false := by
  simp only [State.mayLean, Bool.and_eq_true, decide_eq_true_eq, Bool.not_eq_true'] at lean
  obtain ⟨⟨⟨fast, track⟩, calm⟩, free⟩ := lean
  exact ⟨fast, track, calm, free⟩

theorem State.mayLean_of_slowness {s : State} (slow : s.fast = false) : s.mayLean = false := by
  rw [State.mayLean, slow]
  rfl

theorem State.permitReleases_of_absent {s : State} (absent : s.permit = false) : s.permitReleases = false := by
  rw [State.permitReleases, absent]
  rfl

/-- V_ENG lies below V_REL (R166). -/
theorem State.not_fast_of_slow {s : State} (valid : s.params.Valid) (slow : s.slow = true) : s.fast = false := by
  have speeds := valid.speeds
  refine Bool.eq_false_iff.mpr fun fast => ?_
  simp only [State.slow, State.fast, Bool.and_eq_true, decide_eq_true_eq] at slow fast
  omega

/-- Where an engagement may begin, no release does. -/
theorem State.noRelease_of_mayEngage {s : State} (valid : s.params.Valid)
    (cause : (s.slow = true ∧ s.permit = false) ∨ s.grade = .lockdown) : s.permitReleases = false ∧ s.mayLean = false := by
  obtain ⟨slow, absent⟩ | grave := cause
  · exact ⟨State.permitReleases_of_absent absent, State.mayLean_of_slowness (State.not_fast_of_slow valid slow)⟩
  · exact ⟨by simp [State.permitReleases, grave], by simp [State.mayLean, grave]⟩

theorem State.mayEngage_cause {s : State} (engage : s.mayEngage = true) :
    ((s.slow = true ∧ s.permit = false) ∨ s.grade = .lockdown) ∧ s.uprightNow = true := by
  simpa [State.mayEngage] using engage

theorem State.decideLatch_engaged_of_noRelease {s : State} (state : s.latch.state = .engaged) (permit : s.permitReleases = false)
    (lean : s.mayLean = false) : s.decideLatch = none := by
  rw [State.decideLatch_eq_none_iff, State.decides, state, permit, lean]
  simp

end Sys2Proof.Machine
end

section
/-! PROOFS. The setpoints after a period (R31 to R34). -/

namespace Sys2Proof.Machine

/-- The conditions of R119 but for uprightness. -/
def State.EngageCause (s : State) : Prop := (s.slow = true ∧ s.permit = false) ∨ s.grade = .lockdown

theorem State.EngageCause.of_move {s t : State} (h : s.EngageCause) (move : LatchMove s t) : t.EngageCause := by
  have grade : t.grade = s.grade := by rw [State.grade, move.trips, State.grade]
  have permit : t.permit = s.permit := by rw [State.permit, move.itemA, move.itemB, State.permit]
  have slow : t.slow = s.slow := by rw [State.slow, move.speed, move.params, State.slow]
  rw [State.EngageCause, grade, permit, slow]
  exact h

/-- A lean setpoint that moves by its rate: the latch is free, or has been closed again where no release may begin. -/
structure State.LeanMoves (phi : Int) (s : State) : Prop where
  phiS : s.solve.phiS = phi
  valid : s.params.Valid
  latch : (s.latch.state = .released ∨ s.latch.state = .engaging ∨ s.latch.state = .unlatchedFault) ∨
    (s.latch.state = .engaged ∧ s.EngageCause)

theorem State.LeanMoves.decide {phi : Int} {s t : State} (h : s.LeanMoves phi) (decided : s.decideLatch = some t) : t.LeanMoves phi := by
  have first := State.decideLatch_first s t decided
  have move := State.decideLatch_latchMove decided
  have valid : t.params.Valid := move.params ▸ h.valid
  obtain (released | engaging | fault) | ⟨engaged, cause⟩ := h.latch
  case inl.inl =>
    rw [State.decideLatch_released first released] at decided
    split at decided
    next own =>
      cases decided
      simp only [Bool.and_eq_true] at own
      obtain ⟨cause, -⟩ := State.mayEngage_cause own.2
      have cause' : (s.beginEngage .own).EngageCause := State.EngageCause.of_move cause move
      refine ⟨(congrArg SolveUnit.phiS (State.beginEngage_solve s)).trans h.phiS, valid, ?_⟩
      obtain state | ⟨state, -⟩ := State.beginEngage_state .own s
      · exact .inl (.inr (.inl state))
      · exact .inr ⟨state, cause'⟩
    next => cases decided
  case inl.inr.inl =>
    rw [State.decideLatch_under_way (.inr engaging)] at decided
    cases decided
  case inl.inr.inr =>
    rw [State.decideLatch_unlatchedFault first fault] at decided
    split at decided
    · cases decided
      refine ⟨?_, valid, .inl (.inl (State.setLatch_state .released s))⟩
      rw [State.setLatch_solve_of_stays (by rw [fault]; rfl)]
      exact h.phiS
    · cases decided
  case inr =>
    obtain ⟨permit, lean⟩ := State.noRelease_of_mayEngage h.valid cause
    rw [State.decideLatch_engaged_of_noRelease engaged permit lean] at decided
    cases decided

theorem State.leanMoves_stable (phi : Int) : Stable False (State.LeanMoves phi) where
  inputs s u _ trips _ h := by
    refine ⟨h.phiS, h.valid, h.latch.imp id fun ⟨state, cause⟩ => ⟨state, cause.imp id fun grave => ?_⟩⟩
    rw [State.grade, State.setInputs_inputs, trips]
    exact grave
  log s e h := ⟨h.phiS, h.valid, h.latch⟩
  weigh s h := by
    have move := s.weighUncommanded_latchMove
    obtain ⟨m, weighed⟩ := s.weighUncommanded_eq
    have latch := h.latch
    rw [weighed] at move ⊢
    exact ⟨h.phiS, h.valid, latch.imp id fun ⟨state, cause⟩ => ⟨state, cause.of_move move⟩⟩
  decide s t decided h := h.decide decided

theorem Unmoved.solve {steady : Prop} {s t : State} (h : Unmoved steady s t) : t.solve = s.solve := by
  obtain ⟨u, l, m, parts, -⟩ := h.parts
  rw [parts]
  rfl

theorem Unmoved.latch_state {steady : Prop} {s t : State} (h : Unmoved steady s t) : t.latch.state = s.latch.state := by
  obtain ⟨u, l, m, parts, -⟩ := h.parts
  rw [parts]
  rfl

/-- What nothing has moved weighs the same. -/
theorem Unmoved.weighs {steady : Prop} {s t : State} (h : Unmoved steady s t) :
    t.speed = s.speed ∧ t.params = s.params ∧ t.tilt = s.tilt ∧ t.slot = s.slot ∧ t.grade = s.grade ∧
      ∃ m, t.latch = { s.latch with uncommanded := m } ∧ (m = true → s.latch.uncommanded = true) := by
  have trips := h.trips
  obtain ⟨u, l, m, parts, weighs⟩ := h.parts
  have grade : t.grade = s.grade := by rw [State.grade, trips, State.grade]
  refine ⟨?_, ?_, ?_, ?_, grade, m, ?_, weighs⟩ <;> rw [parts] <;> rfl

theorem Unmoved.conditions {steady : Prop} {s t : State} (h : Unmoved steady s t) :
    t.slow = s.slow ∧ t.fast = s.fast ∧ t.still = s.still ∧ t.suspect = s.suspect ∧ t.permit = s.permit ∧
      t.uprightNow = s.uprightNow ∧ t.ownRules = s.ownRules ∧ (steady → t.lockDemand = s.lockDemand) := by
  obtain ⟨speed, params, tilt, slot, -, m, latch, -⟩ := h.weighs
  refine ⟨?_, ?_, ?_, ?_, ?_, ?_, ?_, fun st => ?_⟩
  · rw [State.slow, speed, params, State.slow]
  · rw [State.fast, speed, params, State.fast]
  · rw [State.still, speed, State.still]
  · rw [State.suspect, speed, State.suspect]
  · rw [State.permit, latch, State.permit]
  · rw [State.uprightNow, tilt, params, h.solve, State.uprightNow]
  · rw [State.ownRules, latch, slot, State.ownRules]
  · rw [State.lockDemand, latch, h.combined st, State.lockDemand]

theorem Unmoved.preloadOff {s t : State} (h : Unmoved True s t) : t.preloadOff = s.preloadOff := by
  obtain ⟨-, -, tilt, -, grade, -⟩ := h.weighs
  obtain ⟨slow, -, -, -, -, -, -, demand⟩ := h.conditions
  rw [State.preloadOff, slow, demand trivial, grade, tilt, State.preloadOff]

/-- No decision is made in a preload that nothing abandons. -/
theorem State.decideLatch_of_standing_preload {s : State} (state : s.latch.state = .releasePreload) (stands : s.preloadOff = false) :
    s.decideLatch = none := by
  rw [State.decideLatch_eq_none_iff, State.decides, state, stands]
  exact Bool.and_false _

theorem State.periodTaken_steady {s : State} (h : s.DemandSteady) : s.periodTaken.DemandSteady := by
  refine h.imp id fun ⟨waits, fixed⟩ => ⟨?_, fixed⟩
  rw [State.waitingChanges_eq_nil_iff] at waits ⊢
  obtain ⟨none, listed⟩ := waits
  exact ⟨none, fun c handed => (State.condNow_congr (s := s) (t := s.periodTaken) (fun _ => rfl) rfl rfl (fun _ => rfl) rfl rfl handed).trans
    (listed c handed)⟩

/-- Settles O21. -/
theorem solvePeriodMovesTheSetpoints : Obligations.SolvePeriodMovesTheSetpoints := by
  intro dt s run due valid instant phases
  have e := exec_solvePeriod_of_due run due
  have steady (h : s.DemandSteady) : (s.advance dt).periodTaken.DemandSteady := State.periodTaken_steady (s := s.advance dt) h
  set u := (s.advance dt).periodTaken with hu
  have instant' : u.params.noInstantTrip := instant
  have phases' : u.NotWaiting := phases
  have quiet := State.settle_quiet u instant'
  have seated := State.settle_seated u instant' phases'
  have sound := State.settle_sound u
  obtain ⟨-, -, -, -, -, phiT, deltaT, -⟩ := sound.consequence.targets.targets
  have solved : u.solve = { (s.advance dt).solved with periodDue := s.solve.periodDue + 2000 } := rfl
  have phiS : u.solve.phiS = leanSetpoint s.latch.state s.solve.phiS u.solve.phiT s.solve.captured s.tilt.meas s.params.leanRate := rfl
  have deltaS : u.solve.deltaS = steerSetpoint s.steer.mode s.solve.deltaS u.solve.deltaT s.steer.meas s.params.steerRate := rfl
  have captured : u.solve.captured = s.solve.captured := rfl
  have rests (under : s.latch.state = .releasing) : u.settle.solve = u.solve :=
    (State.settleN_unmoved (steady := False) 8 instant' phases' nofun fun t h =>
      State.decideLatch_under_way (.inl (h.latch_state.trans under))).solve
  refine ⟨_, e, fun off => ?_, fun on => ?_, fun closed => ?_, fun releasing => ?_, fun preload => ?_, fun preload stands demand => ?_,
    fun free => ?_, quiet.auth, quiet.path, quiet.speed, seated.slot, seated.params⟩
  · rw [seated.deltaS, deltaS, off]
    rfl
  · rw [seated.deltaS, deltaS, deltaT]
    cases mode : s.steer.mode
    case off => exact absurd mode on
    all_goals rfl
  · have meas : u.solve.phiS = s.tilt.meas := by
      rw [phiS]
      obtain state | state := closed <;> rw [state] <;> rfl
    exact sound.phiS.elim (fun same => same.trans meas) id
  · rw [rests releasing, phiS, releasing]
    rfl
  · refine sound.phiS.imp (fun same => same.trans ?_) id
    rw [phiS, preload]
    rfl
  · have still : Unmoved True u u.settle := State.settleN_unmoved 8 instant' phases' (fun _ => (steady demand).steadied)
      fun t h => State.decideLatch_of_standing_preload (h.latch_state.trans preload) (h.preloadOff.trans stands)
    rw [still.solve, phiS, preload]
    rfl
  · have moves : u.LeanMoves (rateStep s.solve.phiS u.solve.phiT s.params.leanRate) := by
      refine ⟨?_, valid, .inl ?_⟩
      · rw [phiS]
        obtain state | state | state := free <;> rw [state] <;> rfl
      · exact free
    rw [phiT]
    exact ((State.leanMoves_stable _).settle instant' phases' nofun moves).phiS

end Sys2Proof.Machine
end

section
/-! PROOFS. START_ROUTINE (R96, R97, R98). -/

namespace Sys2Proof.Machine

/-! ## A phase as it begins (R98 to R102, R105) -/

/-- The routine `q` is `r` with its phase `ph` just begun. -/
structure Routine.Begun (r : Routine) (ph : Phase) (now : Nat) (m : Int) (q : Routine) : Prop where
  axis : q.axis = r.axis
  kind : q.kind = r.kind
  centre : q.centre = r.centre
  phase : q.phase = ph
  held : q.held = none
  phaseStart : q.phaseStart = now
  reference : q.reference = m
  rampDrive : q.rampDrive = 0
  maxDisp : q.maxDisp = 0
  v1 : q.v1 = r.v1
  v2 : q.v2 = r.v2
  v3 : q.v3 = r.v3
  outcome : q.outcome = r.outcome

theorem State.setDrive_slot (x : Axis) (d : Int) (s : State) : (s.setDrive x d).slot = s.slot := State.setAxis_slot x _ s

/-- A phase begins with the slot's routine in it. -/
theorem State.beginPhase_slot (r : Routine) (ph : Phase) (s : State) :
    ∃ q, (s.beginPhase r ph).slot = .routine q ∧ r.Begun ph s.now (s.axis r.axis).meas q := by
  have begun (q : Routine) (h : q = r.fresh ph s.now (s.axis r.axis).meas) : r.Begun ph s.now (s.axis r.axis).meas q := by
    subst h
    exact ⟨rfl, rfl, rfl, rfl, rfl, rfl, rfl, rfl, rfl, rfl, rfl, rfl, rfl⟩
  unfold State.beginPhase
  cases ph
  case release =>
    refine ⟨_, (State.askSet_latchMove .release _).slot, ?_⟩
    exact ⟨rfl, rfl, rfl, rfl, rfl, rfl, rfl, rfl, rfl, rfl, rfl, rfl, rfl⟩
  case engage => exact ⟨_, (State.askSet_latchMove .engage _).slot, begun _ rfl⟩
  case sweepLeft | sweepRight | pushLeft | pushRight => exact ⟨_, State.setDrive_slot .., begun _ rfl⟩
  case centre | rampLeft | rampRight => exact ⟨_, rfl, ⟨rfl, rfl, rfl, rfl, rfl, rfl, rfl, rfl, rfl, rfl, rfl, rfl, rfl⟩⟩

/-- What a phase's beginning leaves of the axes: modes, return modes and results stand. -/
theorem State.beginPhase_axis (r : Routine) (ph : Phase) (s : State) (x : Axis) :
    ((s.beginPhase r ph).axis x).mode = (s.axis x).mode ∧ ((s.beginPhase r ph).axis x).returnMode = (s.axis x).returnMode ∧
      ((s.beginPhase r ph).axis x).result = (s.axis x).result := by
  have driven (q : Routine) (y : Axis) (d : Int) : (((s.setSlot (.routine q)).setDrive y d).axis x).mode = (s.axis x).mode ∧
      (((s.setSlot (.routine q)).setDrive y d).axis x).returnMode = (s.axis x).returnMode ∧
      (((s.setSlot (.routine q)).setDrive y d).axis x).result = (s.axis x).result := by
    cases x <;> cases y <;> exact ⟨rfl, rfl, rfl⟩
  have asked (q : Routine) (d : Direction) : (((s.setSlot (.routine q)).askSet d).axis x).mode = (s.axis x).mode ∧
      (((s.setSlot (.routine q)).askSet d).axis x).returnMode = (s.axis x).returnMode ∧
      (((s.setSlot (.routine q)).askSet d).axis x).result = (s.axis x).result := by
    have move := State.askSet_latchMove d (s.setSlot (.routine q))
    cases x
    case tilt =>
      have tilt := move.tilt
      exact ⟨(congrArg AxisCtl.mode tilt :), (congrArg AxisCtl.returnMode tilt :), (congrArg AxisCtl.result tilt :)⟩
    case steer =>
      have steer := move.steer
      exact ⟨congrArg AxisCtl.mode steer, congrArg AxisCtl.returnMode steer, congrArg AxisCtl.result steer⟩
  unfold State.beginPhase
  cases ph
  case release | engage => exact asked ..
  case sweepLeft | sweepRight | pushLeft | pushRight => exact driven ..
  case centre | rampLeft | rampRight => exact ⟨rfl, rfl, rfl⟩

theorem State.beginPhase_params (r : Routine) (ph : Phase) (s : State) : (s.beginPhase r ph).params = s.params := by
  unfold State.beginPhase
  cases ph
  case release | engage => exact (State.askSet_latchMove _ _).params
  case sweepLeft | sweepRight | pushLeft | pushRight => exact State.setDrive_params ..
  case centre | rampLeft | rampRight => rfl

/-- Only a phase that waits for the latch moves it as it begins (R98). -/
theorem State.beginPhase_latch {ph : Phase} (awaits : ph.awaits = none) (r : Routine) (s : State) :
    (s.beginPhase r ph).latch = s.latch := by
  unfold State.beginPhase
  cases ph
  case release | engage => exact nomatch awaits
  case sweepLeft | sweepRight | pushLeft | pushRight => exact State.setDrive_latch ..
  case centre | rampLeft | rampRight => rfl

theorem Unmoved.seated {steady : Prop} {s t : State} (h : Unmoved steady s t) : Seated s t := by
  obtain ⟨u, l, m, parts, -⟩ := h.parts
  refine ⟨?_, ?_, ?_, ?_, ?_, ?_, ?_⟩ <;> rw [parts] <;> rfl

theorem Unmoved.latch_first {steady : Prop} {s t : State} (h : Unmoved steady s t) : t.latch.first = s.latch.first := by
  obtain ⟨u, l, m, parts, -⟩ := h.parts
  rw [parts]
  rfl

/-- A routine whose phase waits for another latch state does not complete while the latch stands (R98). -/
theorem State.routineReady_of_waiting {s : State} {q : Routine} (slot : s.slot = .routine q)
    (waits : q.phase.awaits ≠ some s.latch.state) : s.routineReady = none := by
  rw [State.routineReady, slot]
  exact if_neg (by simp [waits])

/-! ## The conditions of START_ROUTINE -/

theorem State.wheelsStopped_iff (s : State) : s.wheelsStopped = true ↔ ∀ w, (s.speed.wheel w).speed = 0 := by
  simp only [State.wheelsStopped, Bool.and_eq_true, decide_eq_true_eq]
  constructor
  · rintro ⟨⟨rear, left⟩, right⟩ w
    cases w
    · exact rear
    · exact left
    · exact right
  · exact fun still => ⟨⟨still .rear, still .frontL⟩, still .frontR⟩

theorem State.kindReady_tilt (s : State) (k : RoutineKind) : s.kindReady .tilt k = true ↔ s.latch.state = .engaged ∧
    (s.inputs.lift.active = true ∨ (k = .lockTest ∧ s.inputs.stand.active = true)) := by
  cases k <;> simp [State.kindReady] <;> tauto

theorem RoutineKind.ofCode_eq_some {n : Nat} {k : RoutineKind} (h : RoutineKind.ofCode n = some k) : n = k.number := by
  unfold RoutineKind.ofCode at h
  split at h <;> cases h <;> rfl

theorem kindExists_iff (x : Axis) (k : RoutineKind) : kindExists x k = true ↔ ¬(x = .steer ∧ k = .lockTest) := by
  cases x <;> cases k <;> simp [kindExists]

theorem startArgs_eq_none {bytes : List Byte}
    (malformed : ∀ (x : Axis) (k : RoutineKind), (x = .steer ∧ k = .lockTest) ∨ bytes ≠ [byteOf (axisNumber x), byteOf k.number]) :
    startArgs bytes = none := by
  unfold startArgs
  split
  next bx bk =>
    split
    next x k named kind =>
      refine if_neg fun can => ?_
      obtain absent | other := malformed x k
      · exact (kindExists_iff x k).mp can absent
      · rw [← axisOfCode_eq_some named, ← RoutineKind.ofCode_eq_some kind, byteOf_toNat_self, byteOf_toNat_self] at other
        exact other rfl
    next => rfl
  next => rfl

theorem startArgs_number {x : Axis} {k : RoutineKind} (can : ¬(x = .steer ∧ k = .lockTest)) :
    startArgs [byteOf (axisNumber x), byteOf k.number] = some (x, k) := by
  rw [← axisCode_eq, ← RoutineKind.code_eq]
  exact startArgs_code ((kindExists_iff x k).mpr can)

theorem handleStartRoutine_of_taken {p : Port} {x : Axis} {k : RoutineKind} {s : State} (can : ¬(x = .steer ∧ k = .lockTest))
    (holder : s.holds p = true) (taken : s.slot ≠ .free) :
    handleStartRoutine p [byteOf (axisNumber x), byteOf k.number] s = refuse s .busy [byteOf s.slot.number] := by
  rw [← Slot.code_eq_number]
  simp [handleStartRoutine, startArgs_number can, holder, Slot.isFree_eq_false taken, refuseBusy]

theorem handleStartRoutine_of_unready {p : Port} {x : Axis} {k : RoutineKind} {s : State} (can : ¬(x = .steer ∧ k = .lockTest))
    (holder : s.holds p = true) (free : s.slot = .free)
    (unready : (s.sessionReady && s.wheelsStopped && s.kindReady x k) = false) :
    handleStartRoutine p [byteOf (axisNumber x), byteOf k.number] s = refuse s .notNow [] := by
  unfold handleStartRoutine
  rw [startArgs_number can]
  simp only [holder, Slot.isFree_iff.mpr free, unready]
  rfl

theorem handleStartRoutine_of_ready {p : Port} {x : Axis} {k : RoutineKind} {s : State} (can : ¬(x = .steer ∧ k = .lockTest))
    (holder : s.holds p = true) (free : s.slot = .free)
    (ready : (s.sessionReady && s.wheelsStopped && s.kindReady x k) = true) :
    handleStartRoutine p [byteOf (axisNumber x), byteOf k.number] s = ((s.startRoutine x k).settle, okAnswer []) := by
  unfold handleStartRoutine
  rw [startArgs_number can]
  simp only [holder, Slot.isFree_iff.mpr free, ready]
  rfl

@[simp] theorem State.delivered_wheelsStopped (dt : Nat) (p : Port) (s : State) :
    (s.delivered dt p).wheelsStopped = s.wheelsStopped := by
  rw [State.wheelsStopped, State.delivered_speed, State.wheelsStopped]

@[simp] theorem State.delivered_kindReady (dt : Nat) (p : Port) (x : Axis) (k : RoutineKind) (s : State) :
    (s.delivered dt p).kindReady x k = s.kindReady x k := by
  unfold State.kindReady
  rw [State.delivered_inputs, State.delivered_latch]

end Sys2Proof.Machine
end

section
/-! PROOFS. What the start of a routine comes to (R97, R98, R130). -/

namespace Sys2Proof.Machine

/-! ## A direct release as it begins (R98, R114) -/

/-- With the switch CLOSED the release does not succeed at once. -/
theorem State.beginDirectRelease_state {o : SetOrigin} {s : State} (closed : s.latch.closed = true) :
    (s.beginDirectRelease o).latch.state = .releasing := by
  have started := State.startAttempt_state { direction := .release, attempt := 1, stage := .waitCoil, origin := o } (s.setLatch .releasing)
  rw [State.setLatch_latch] at started
  exact started.resolve_right fun ⟨_, opened⟩ => nomatch closed.symm.trans opened

theorem State.beginDirectRelease_log {o : SetOrigin} {s : State} (closed : s.latch.closed = true) :
    (s.beginDirectRelease o).log = (s.logEvent (.lockState .releasing)).log := by
  rw [State.beginDirectRelease, State.beginSet_eq, ← State.setLatch_log]
  by_cases idle : s.latch.pulse = none
  · rw [State.startAttempt_of_apart (by rw [State.setLatch_latch]; exact idle)
      (by rw [State.setLatch_latch]; exact fun e => nomatch closed.symm.trans e)]
    rfl
  · rw [State.startAttempt_of_pulse (by rw [State.setLatch_latch]; exact idle)]
    rfl

theorem State.askSet_of_first {d : Direction} {s : State} (first : s.latch.first ≠ none) : s.askSet d = s := by
  simp [State.askSet, Option.isSome_iff_ne_none.mpr first]

/-- A release phase asks for its set where the latch is elsewhere, no set runs and the first debounce is over (R98, R130). -/
theorem State.askSet_release {s : State} (apart : s.latch.state ≠ .released) (idle : s.latch.set = none)
    (first : s.latch.first = none) : s.askSet .release = s.beginDirectRelease .routine :=
  if_neg (by simp [apart, idle, first, Direction.reached])

theorem State.beginPhase_release (r : Routine) (s : State) : s.beginPhase r .release =
    (s.setSlot (.routine { r.fresh .release s.now (s.axis r.axis).meas with target := (s.axis r.axis).meas })).askSet .release := rfl

theorem State.beginPhase_engage (r : Routine) (s : State) : s.beginPhase r .engage =
    (s.setSlot (.routine (r.fresh .engage s.now (s.axis r.axis).meas))).askSet .engage := rfl

/-! ## START_ROUTINE's own effect (R97) -/

/-- The axis of a routine that starts. -/
def AxisCtl.begun (a : AxisCtl) (k : RoutineKind) : AxisCtl :=
  { a.enterSession .routine with result := { ResultRec.empty with kind := some k } }

theorem State.startRoutine_eq (x : Axis) (k : RoutineKind) (s : State) : s.startRoutine x k =
    (s.setAxis x ((s.axis x).begun k)).beginPhase (.start x k (s.params.centre x)) (firstPhase x k) := by
  cases x <;> rfl

theorem State.startRoutine_params (x : Axis) (k : RoutineKind) (s : State) : (s.startRoutine x k).params = s.params := by
  rw [State.startRoutine_eq, State.beginPhase_params]
  cases x <;> rfl

theorem State.startRoutine_slot (x : Axis) (k : RoutineKind) (s : State) : ∃ q, (s.startRoutine x k).slot = .routine q ∧
    (Routine.start x k (s.params.centre x)).Begun (firstPhase x k) s.now (s.axis x).meas q := by
  rw [State.startRoutine_eq]
  obtain ⟨q, slot, begun⟩ := (s.setAxis x ((s.axis x).begun k)).beginPhase_slot (.start x k (s.params.centre x)) (firstPhase x k)
  refine ⟨q, slot, ?_⟩
  cases x <;> exact begun

theorem State.startRoutine_axis (x : Axis) (k : RoutineKind) (s : State) :
    ((s.startRoutine x k).axis x).mode = .routine ∧
      ((s.startRoutine x k).axis x).returnMode = some (if (s.axis x).mode = .track then .track else .off) ∧
      ((s.startRoutine x k).axis x).result = { kind := some k, outcome := .none, v1 := none, v2 := none, v3 := none } := by
  rw [State.startRoutine_eq]
  obtain ⟨mode, returns, result⟩ :=
    (s.setAxis x ((s.axis x).begun k)).beginPhase_axis (.start x k (s.params.centre x)) (firstPhase x k) x
  rw [State.setAxis_axis] at mode returns result
  exact ⟨mode, returns, result⟩

theorem State.startRoutine_framed (x : Axis) (k : RoutineKind) (s : State) :
    Framed s (s.startRoutine x k) ∧ (s.startRoutine x k).store = s.store := by
  rw [State.startRoutine_eq]
  have phase := State.beginPhase_consequence (.start x k (s.params.centre x)) (firstPhase x k) (s.setAxis x ((s.axis x).begun k))
  refine ⟨.trans ?_ phase.framed, phase.outside.store.trans (by cases x <;> rfl)⟩
  cases x <;> exact .of

theorem firstPhase_eq {x : Axis} {k : RoutineKind} (can : ¬(x = .steer ∧ k = .lockTest)) : firstPhase x k =
    if k = .lockTest then .pushLeft else if x = .tilt then .release else if k = .home then .sweepLeft else .rampLeft := by
  cases x <;> cases k <;> simp [firstPhase] at can ⊢

theorem firstPhase_cases (x : Axis) (k : RoutineKind) :
    (firstPhase x k = .release ∧ x = .tilt ∧ k ≠ .lockTest) ∨
      ((firstPhase x k).awaits = none ∧ ¬(x = .tilt ∧ k ≠ .lockTest)) := by
  cases x <;> cases k <;> simp [firstPhase, Phase.awaits]

/-- A routine that starts with the first debounce to come leaves the latch (R130). -/
theorem State.startRoutine_latch_of_first {x : Axis} {k : RoutineKind} {s : State} (first : s.latch.first ≠ none) :
    (s.startRoutine x k).latch = s.latch := by
  have seat : (s.setAxis x ((s.axis x).begun k)).latch = s.latch := by cases x <;> rfl
  rw [State.startRoutine_eq]
  obtain ⟨phase, -⟩ | ⟨phase, -⟩ := firstPhase_cases x k
  · rw [phase, State.beginPhase_release, State.askSet_of_first (by exact fun e => first (seat ▸ e))]
    exact seat
  · exact (State.beginPhase_latch phase _ _).trans seat

/-- A release phase that starts with the latch ENGAGED begins its set (R98). -/
theorem State.startRoutine_release {k : RoutineKind} {s : State} (kind : k ≠ .lockTest) (engaged : s.latch.state = .engaged)
    (closed : s.latch.closed = true) (idle : s.latch.set = none) (first : s.latch.first = none) :
    (s.startRoutine .tilt k).latch.state = .releasing ∧
      (s.startRoutine .tilt k).log = (s.logEvent (.lockState .releasing)).log := by
  have phase : firstPhase .tilt k = .release := by cases k <;> trivial
  rw [State.startRoutine_eq, phase, State.beginPhase_release,
    State.askSet_release (by exact fun e => nomatch engaged.symm.trans e) (by exact idle) (by exact first)]
  exact ⟨State.beginDirectRelease_state closed, State.beginDirectRelease_log closed⟩

/-! ## Settled (R97, R98) -/

/-- What has begun does not complete while it settles: the latch is RELEASING, or decides nothing before its first debounce. -/
theorem State.settle_unmoved_of_phase {s : State} {q : Routine} (instant : s.params.noInstantTrip) (slot : s.slot = .routine q)
    (waits : q.phase.awaits ≠ some s.latch.state)
    (rests : s.latch.first ≠ none ∨ s.latch.state = .releasing ∨ s.latch.state = .engaging) : Unmoved False s s.settle := by
  refine State.settleN_unmoved_of_unready 8 instant (fun t unmoved => ?_) nofun (fun t unmoved => ?_)
  · refine State.routineReady_of_waiting (unmoved.seated.slot.trans slot) ?_
    rwa [unmoved.latch_state]
  · obtain first | state := rests
    · exact State.decideLatch_of_first (by rwa [unmoved.latch_first])
    · exact State.decideLatch_under_way (by rwa [unmoved.latch_state])

theorem firstPhase_waits {x : Axis} {k : RoutineKind} {s : State} (engaged : x = .tilt → s.latch.state = .engaged) :
    (firstPhase x k).awaits ≠ some s.latch.state := by
  cases x
  case steer => cases k <;> exact nofun
  case tilt =>
    rw [engaged rfl]
    cases k <;> exact nofun

/-- The settling leaves the routine in its first phase, its axis, and the latch where the first debounce is to come. -/
theorem State.startRoutine_settle {x : Axis} {k : RoutineKind} {s : State} (instant : s.params.noInstantTrip)
    (engaged : x = .tilt → s.latch.state = .engaged) (closed : s.latch.closed = true) (idle : s.latch.set = none) :
    Seated (s.startRoutine x k) (s.startRoutine x k).settle ∧
      (x = .tilt → k ≠ .lockTest → s.latch.first = none → (s.startRoutine x k).settle.latch.state = .releasing) ∧
      (s.latch.first ≠ none → (s.startRoutine x k).settle.latch.state = s.latch.state) := by
  obtain ⟨q, slot, begun⟩ := s.startRoutine_slot x k
  have instant' : (s.startRoutine x k).params.noInstantTrip := by rwa [State.startRoutine_params]
  by_cases first : s.latch.first = none
  · obtain ⟨-, rfl, kind⟩ | ⟨phase, other⟩ := firstPhase_cases x k
    · obtain ⟨state, -⟩ := State.startRoutine_release kind (engaged rfl) closed idle first
      have waits : q.phase.awaits ≠ some (s.startRoutine .tilt k).latch.state := by
        rw [begun.phase, state]
        cases k <;> exact nofun
      have unmoved := State.settle_unmoved_of_phase instant' slot waits (.inr (.inl state))
      exact ⟨unmoved.seated, fun _ _ _ => unmoved.latch_state.trans state, fun ne => absurd first ne⟩
    · have phases : (s.startRoutine x k).NotWaiting := notWaiting_of_phase slot (by rw [begun.phase]; exact phase)
      exact ⟨State.settle_seated _ instant' phases, fun tilt kind => absurd ⟨tilt, kind⟩ other, fun ne => absurd first ne⟩
  · have latch := State.startRoutine_latch_of_first (x := x) (k := k) first
    have waits : q.phase.awaits ≠ some (s.startRoutine x k).latch.state := by
      rw [begun.phase, latch]
      exact firstPhase_waits engaged
    have unmoved := State.settle_unmoved_of_phase instant' slot waits (.inl (by rwa [latch]))
    exact ⟨unmoved.seated, fun _ _ none => absurd none first, fun _ => unmoved.latch_state.trans (congrArg _ latch)⟩

/-! ## The refusals -/

theorem handleStartRoutine_of_malformed {p : Port} {bytes : List Byte} {s : State}
    (malformed : ∀ (x : Axis) (k : RoutineKind), (x = .steer ∧ k = .lockTest) ∨ bytes ≠ [byteOf (axisNumber x), byteOf k.number]) :
    handleStartRoutine p bytes s = refuse s .badArg [] := by
  unfold handleStartRoutine
  rw [startArgs_eq_none malformed]

theorem startConditions_fail {x : Axis} {k : RoutineKind} {s : State}
    (fails : s.path.queue ≠ [] ∨ s.path.staging ≠ [] ∨ s.path.batchOpen = true ∨ s.grade ≠ .none ∨ s.still = false ∨
      (∃ w, (s.speed.wheel w).speed ≠ 0) ∨
      (x = .tilt ∧ (s.latch.state ≠ .engaged ∨
        (s.inputs.lift.active = false ∧ (k ≠ .lockTest ∨ s.inputs.stand.active = false))))) :
    (s.sessionReady && s.wheelsStopped && s.kindReady x k) = false := by
  by_contra ready
  simp only [Bool.not_eq_false, Bool.and_eq_true] at ready
  obtain ⟨⟨session, stopped⟩, kind⟩ := ready
  obtain ⟨queue, staging, batch, grade, still⟩ := s.sessionReady_iff.mp session
  obtain h | h | h | h | h | ⟨w, h⟩ | ⟨rfl, h⟩ := fails
  · exact h queue
  · exact h staging
  · exact nomatch batch.symm.trans h
  · exact h grade
  · exact nomatch still.symm.trans h
  · exact h (s.wheelsStopped_iff.mp stopped w)
  · obtain ⟨engaged, raised⟩ := (s.kindReady_tilt k).mp kind
    obtain apart | ⟨low, other⟩ := h
    · exact apart engaged
    · obtain lift | ⟨test, stand⟩ := raised
      · exact nomatch low.symm.trans lift
      · exact other.elim (fun ne => ne test) fun up => nomatch up.symm.trans stand

/-- Settles O39. -/
theorem startRoutineTakesTheSlot : Obligations.StartRoutineTakesTheSlot := by
  refine ⟨fun dt p r bytes s short ready malformed => ?_, fun dt p r x k s can ready holder => ⟨fun taken => ?_, fun free fails => ?_⟩,
    fun dt p r x k s can ready holder free queue staging batch grade still stopped tilt instant closed idle => ?_⟩
  · exact exec_refused (c := .startRoutine dt { port := p, ref := r, payload := bytes }) rfl (decide_eq_true short) ready
      (handleStartRoutine_of_malformed (p := p) malformed)
  · refine exec_refused (c := .startRoutine dt { port := p, ref := r, payload := [byteOf (axisNumber x), byteOf k.number] }) rfl rfl
      ready ?_
    rw [← s.delivered_slot dt p]
    exact handleStartRoutine_of_taken (p := p) can ((s.delivered_holds dt p p).trans holder) (by rwa [State.delivered_slot])
  · have unready := startConditions_fail fails
    refine exec_refused (c := .startRoutine dt { port := p, ref := r, payload := [byteOf (axisNumber x), byteOf k.number] }) rfl rfl
      ready ?_
    refine handleStartRoutine_of_unready (p := p) can ((s.delivered_holds dt p p).trans holder)
      ((s.delivered_slot dt p).trans free) ?_
    rwa [State.delivered_sessionReady, State.delivered_wheelsStopped, State.delivered_kindReady]
  · have answered (t : State) (a : Answer)
        (h : handleStartRoutine p [byteOf (axisNumber x), byteOf k.number] (s.delivered dt p) = (t, a)) (n : t.now = s.now + dt) :=
      exec_answered (c := .startRoutine dt { port := p, ref := r, payload := [byteOf (axisNumber x), byteOf k.number] }) rfl rfl
        ready h n
    have conditions : (s.sessionReady && s.wheelsStopped && s.kindReady x k) = true := by
      have kind : s.kindReady x k = true := by
        cases x
        case tilt => exact (s.kindReady_tilt k).mpr (tilt rfl)
        case steer => rfl
      simp only [Bool.and_eq_true]
      exact ⟨⟨s.sessionReady_iff.mpr ⟨queue, staging, batch, grade, still⟩, s.wheelsStopped_iff.mpr stopped⟩, kind⟩
    have handled := handleStartRoutine_of_ready (p := p) (x := x) (k := k) (s := s.delivered dt p) can
      ((s.delivered_holds dt p p).trans holder) ((s.delivered_slot dt p).trans free)
      (by rwa [State.delivered_sessionReady, State.delivered_wheelsStopped, State.delivered_kindReady])
    have request (t : State) (h : Framed (s.delivered dt p) t) := h.requestFrame 0x30 r .ok []
    have logged (es : List Event) (t : State) (h : LoggedFirst (s.delivered dt p) es t) := h.answered 0x30 r .ok []
    have axis := s.delivered_axis dt p x
    have now := s.delivered_now dt p
    have params := s.delivered_params dt p
    have latch := s.delivered_latch dt p
    have store := s.delivered_store dt p
    generalize s.delivered dt p = v at *
    rw [← latch] at closed idle tilt
    have engaged (e : x = .tilt) : v.latch.state = .engaged := (tilt e).1
    have instant' : v.params.noInstantTrip := by rwa [params]
    obtain ⟨q, slot, begun⟩ := v.startRoutine_slot x k
    obtain ⟨mode, returns, result⟩ := v.startRoutine_axis x k
    obtain ⟨framed, store'⟩ := v.startRoutine_framed x k
    have settled := State.settle_consequence (v.startRoutine x k)
    obtain ⟨seated, releases, rests⟩ := State.startRoutine_settle (k := k) instant' engaged closed idle
    obtain ⟨mode', returns', result'⟩ := seated.axis_mode x
    have framed' := framed.trans settled.framed
    refine ⟨_, q, answered _ _ handled (framed'.now.trans now), ?_, begun.axis, begun.kind, begun.held,
      begun.phase.trans (firstPhase_eq can), begun.phaseStart.trans now, begun.reference.trans (by rw [axis]), begun.v1, begun.v2,
      begun.v3, begun.centre.trans (by rw [params]; rfl), ?_, ?_, ?_, fun tilt kind first => ⟨?_, ?_⟩, fun first => ?_,
      State.answered_replied .., request _ framed', ?_, ?_⟩
    · rw [State.answered_slot]
      exact seated.slot.trans slot
    · rw [State.answered_axis]
      exact mode'.trans mode
    · rw [State.answered_axis, ← axis]
      exact returns'.trans returns
    · rw [State.answered_axis]
      exact result'.trans result
    · rw [State.answered_latch]
      exact releases tilt kind (by rwa [latch])
    · subst tilt
      obtain ⟨-, log⟩ := State.startRoutine_release kind (engaged rfl) closed idle (by rwa [latch])
      refine logged _ _ (LoggedFirst.of_logEvents framed'.now ?_)
      exact (log ▸ settled.framed.records :)
    · rw [State.answered_latch, ← latch]
      exact rests (by rwa [latch])
    · rw [SameSettings, State.answered_params, seated.params, State.startRoutine_params, params]
    · rw [State.answered_store]
      exact settled.outside.store.trans (store'.trans store)

end Sys2Proof.Machine
end

section
/-! PROOFS. A phase that waits for the latch: it begins, it waits, it completes (R98, R105). -/

namespace Sys2Proof.Machine

/-! ## What nothing has moved -/

theorem Unmoved.standing {steady : Prop} {s t : State} (h : Unmoved steady s t) :
    t.now = s.now ∧ (∀ x, t.axis x = s.axis x) ∧ t.params = s.params ∧ t.slot = s.slot ∧ t.solve = s.solve := by
  obtain ⟨u, l, m, parts, -⟩ := h.parts
  subst parts
  exact ⟨rfl, fun x => by cases x <;> rfl, rfl, rfl, rfl⟩

theorem Unmoved.latch {steady : Prop} {s t : State} (h : Unmoved steady s t) : t.latch.state = s.latch.state ∧
    t.latch.set = s.latch.set ∧ t.latch.pulse = s.latch.pulse := by
  obtain ⟨u, l, m, parts, -⟩ := h.parts
  subst parts
  exact ⟨rfl, rfl, rfl⟩

/-- Nothing waits to be handed on where nothing waited with the same readings. -/
theorem State.waitingChanges_congr {s t : State} (waits : s.waitingChanges = []) (inputs : t.inputs = s.inputs)
    (speed : t.speed = s.speed) (params : t.params = s.params) (latch : t.latch.state = s.latch.state)
    (hold : t.auth.hold.isSome = s.auth.hold.isSome) (tilt : t.tilt.meas = s.tilt.meas) : t.waitingChanges = [] := by
  rw [State.waitingChanges_eq_nil_iff] at waits ⊢
  obtain ⟨none, listed⟩ := waits
  rw [inputs]
  exact ⟨none, fun c handed => (State.condNow_congr (s := s) (t := t) (fun _ => by rw [inputs]) speed params (fun _ => latch) hold
    tilt handed).trans (listed c handed)⟩

/-! ## The phase of a direction (R98) -/

/-- The phase that waits for a set of a direction. -/
def Direction.phase : Direction → Phase
  | .release => .release
  | .engage => .engage

theorem Direction.phase_awaits (d : Direction) : d.phase.awaits = some d.reached := by cases d <;> rfl

/-- The routine `r` as its phase that waits for a set of direction `d` begins: a release takes the present measurement as its
target (R98). -/
def Routine.awaiting (r : Routine) (d : Direction) (now : Nat) (m : Int) : Routine :=
  match d with
  | .release => { r.fresh .release now m with target := m }
  | .engage => r.fresh .engage now m

theorem Routine.awaiting_begun (r : Routine) (d : Direction) (now : Nat) (m : Int) :
    r.Begun d.phase now m (r.awaiting d now m) := by
  cases d <;> exact ⟨rfl, rfl, rfl, rfl, rfl, rfl, rfl, rfl, rfl, rfl, rfl, rfl, rfl⟩

theorem Routine.awaiting_target (r : Routine) (d : Direction) (now : Nat) (m : Int) :
    (r.awaiting d now m).target = if d = .release then m else r.target := by cases d <;> rfl

theorem State.beginPhase_awaiting (d : Direction) (r : Routine) (s : State) : s.beginPhase r d.phase =
    (s.setSlot (.routine (r.awaiting d s.now (s.axis r.axis).meas))).askSet d := by cases d <;> rfl

theorem State.askSet_of_reached {d : Direction} {s : State} (there : s.latch.state = d.reached) : s.askSet d = s :=
  if_pos (by simp [there])

theorem State.askSet_of_set {d : Direction} {s : State} (set : s.latch.set ≠ none) : s.askSet d = s :=
  if_pos (by simp [Option.isSome_iff_ne_none.mpr set])

theorem State.askSet_engage {s : State} (apart : s.latch.state ≠ .engaged) (idle : s.latch.set = none)
    (first : s.latch.first = none) : s.askSet .engage = s.beginEngage .routine :=
  if_neg (by simp [apart, idle, first, Direction.reached])

/-! ## The latch controller under a tilt routine (R123) -/

theorem State.ownRules_of_onTilt {s : State} (tilt : s.slot.onTilt = true) : s.ownRules = false := by
  rw [State.ownRules, tilt]
  exact Bool.and_false _

/-- Under a tilt routine a latch that is ENGAGED or RELEASED stays. -/
theorem State.decideLatch_of_onTilt {s : State} {d : Direction} (tilt : s.slot.onTilt = true) (state : s.latch.state = d.reached) :
    s.decideLatch = none := by
  by_cases first : s.latch.first = none
  · cases d
    · rw [State.decideLatch_engaged first state, State.ownRules_of_onTilt tilt]
      rfl
    · rw [State.decideLatch_released first state, State.ownRules_of_onTilt tilt]
      rfl
  · exact State.decideLatch_of_first first

/-! ## A phase that completes while the part settles (R98) -/

/-- The end of a routine speaks of the state before it only by the return mode. -/
theorem RoutineClosed.behind {r : Routine} {o : RoutineOutcome} {s v t : State} (h : RoutineClosed r o v t)
    (returns : (v.axis r.axis).returnMode = (s.axis r.axis).returnMode) : RoutineClosed r o s t where
  slot := h.slot
  mode := returns ▸ h.mode
  drive := h.drive
  setpoint := h.setpoint
  result := h.result

/-- A phase whose latch state is there completes in the first round of settling. -/
theorem State.settleN_completes (k : Nat) {s : State} {q : Routine} {d : Direction} (slot : s.slot = .routine q)
    (tilt : q.axis = .tilt) (runs : q.held = none) (phase : q.phase = d.phase) (there : s.latch.state = d.reached)
    (instant : s.params.noInstantTrip) : ∃ u, Unmoved False s u ∧ s.settleN (k + 1) = (u.completePhase q).settleN k ∧
      u = s.handOn.weighUncommanded := by
  have onTilt : s.slot.onTilt = true := by rw [slot]; exact decide_eq_true tilt
  have undecided (t : State) (h : Unmoved False s t) : t.decideLatch = none :=
    State.decideLatch_of_onTilt (by rw [h.seated.slot]; exact onTilt) (h.latch_state.trans there)
  have handed : Unmoved False s s.handOn := ((Stable.of_undecided undecided).handOnN 32 instant nofun (.refl _ s)).1
  have weighed := handed.weigh
  have ready : s.handOn.weighUncommanded.routineReady = some q := by
    rw [State.routineReady, weighed.seated.slot.trans slot]
    exact if_pos (by simp [runs, phase, d.phase_awaits, weighed.latch_state, there])
  refine ⟨_, weighed, ?_, rfl⟩
  rw [State.settleN, undecided _ weighed, ready]

/-- The engage phase of a tilt routine is its last (R100, R101). -/
theorem State.completePhase_engage {q : Routine} (phase : q.phase = .engage) (s : State) :
    s.completePhase q = s.finishRoutine q q.finalOutcome false :=
  State.completePhase_of_last (by rw [phase]; rfl) s

/-- The routine's end stands through the rounds that follow (R103). -/
theorem State.finishRoutine_settleN (k : Nat) (r : Routine) (o : RoutineOutcome) {s : State} (instant : s.params.noInstantTrip) :
    RoutineClosed r o s ((s.finishRoutine r o false).settleN k) ∧
      ((s.finishRoutine r o false).settleN k).params = (if o = .pass then r.writes s.params else s.params) := by
  have closed := State.finishRoutine_closed r o s
  have instant' := SameSettings.noInstantTrip (State.finishRoutine_consequence r o false s).settings instant
  exact ⟨closed.settleN k instant',
    ((State.settleN_calm k _ instant' (notWaiting_of_free closed.slot)).2.params).trans (State.finishRoutine_params r o s)⟩

theorem State.beginPhase_sweepLeft_drive {q : Routine} (tilt : q.axis = .tilt) (s : State) :
    (s.beginPhase q .sweepLeft).tilt.drive = fixedDrive s.params := by
  have driven := congrArg AxisCtl.drive (State.setDrive_axis q.axis (fixedDrive s.params)
    (s.setSlot (.routine (q.fresh .sweepLeft s.now (s.axis q.axis).meas))))
  change ((s.beginPhase q .sweepLeft).axis q.axis).drive = fixedDrive s.params at driven
  rwa [tilt] at driven

/-- RELEASED, a RELEASE phase goes on to the next phase, and the latch stays (R98, R100, R101). -/
theorem State.settleN_released (k : Nat) {s : State} {q : Routine} (slot : s.slot = .routine q) (tilt : q.axis = .tilt)
    (runs : q.held = none) (phase : q.phase = .release) (kind : q.kind = .home ∨ q.kind = .friction)
    (there : s.latch.state = .released) (instant : s.params.noInstantTrip) :
    ∃ q', (s.settleN (k + 1)).latch.state = .released ∧ (s.settleN (k + 1)).latch.set = s.latch.set ∧
      (s.settleN (k + 1)).params = s.params ∧ (s.settleN (k + 1)).slot = .routine q' ∧
      q.Begun (if q.kind = .home then .sweepLeft else .rampLeft) s.now s.tilt.meas q' ∧
      (q.kind = .home → (s.settleN (k + 1)).tilt.drive = fixedDrive s.params) := by
  obtain ⟨u, unmoved, settled, -⟩ := State.settleN_completes k (d := .release) slot tilt runs phase there instant
  obtain ⟨now', axis', params', -⟩ := unmoved.standing
  obtain ⟨state', set', -⟩ := unmoved.latch
  have next : nextPhase q.axis q.kind q.phase = some (if q.kind = .home then .sweepLeft else .rampLeft) := by
    rw [phase]
    obtain e | e := kind <;> rw [e] <;> rfl
  have awaits : Phase.awaits (if q.kind = .home then .sweepLeft else .rampLeft) = none := by split <;> rfl
  rw [settled, State.completePhase_of_next next]
  obtain ⟨q', slot', begun⟩ := u.beginPhase_slot q (if q.kind = .home then .sweepLeft else .rampLeft)
  have meas : (u.axis q.axis).meas = s.tilt.meas := by rw [axis', tilt]; rfl
  rw [now', meas] at begun
  have latch := State.beginPhase_latch awaits q u
  have params := State.beginPhase_params q (if q.kind = .home then .sweepLeft else .rampLeft) u
  have drive (home : q.kind = .home) :
      (u.beginPhase q (if q.kind = .home then .sweepLeft else .rampLeft)).tilt.drive = fixedDrive s.params := by
    rw [if_pos home, State.beginPhase_sweepLeft_drive tilt, params']
  generalize u.beginPhase q (if q.kind = .home then .sweepLeft else .rampLeft) = w at *
  have onTilt : w.slot.onTilt = true := by rw [slot']; exact decide_eq_true (begun.axis.trans tilt)
  have state : w.latch.state = .released := by rw [latch]; exact state'.trans there
  have stands : Unmoved False w (w.settleN k) :=
    State.settleN_unmoved k (by rw [params, params']; exact instant)
      (notWaiting_of_phase slot' (by rw [begun.phase]; exact awaits)) nofun
      fun t h => State.decideLatch_of_onTilt (d := .release) (by rw [h.seated.slot]; exact onTilt) (h.latch_state.trans state)
  obtain ⟨-, set, -⟩ := stands.latch
  obtain ⟨-, axis, -⟩ := stands.standing
  exact ⟨q', stands.latch_state.trans state, set.trans ((congrArg LatchUnit.set latch).trans set'),
    stands.seated.params.trans (params.trans params'), stands.seated.slot.trans slot', begun,
    fun home => (congrArg AxisCtl.drive (axis .tilt)).trans (drive home)⟩

/-- ENGAGED, an ENGAGE phase ends its routine (R98, R100, R101, R103). -/
theorem State.settleN_engaged (k : Nat) {s : State} {q : Routine} (slot : s.slot = .routine q) (tilt : q.axis = .tilt)
    (runs : q.held = none) (phase : q.phase = .engage) (there : s.latch.state = .engaged) (instant : s.params.noInstantTrip) :
    RoutineClosed q q.finalOutcome s (s.settleN (k + 1)) ∧
      (s.settleN (k + 1)).params = (if q.finalOutcome = .pass then q.writes s.params else s.params) ∧
      (s.handOn.log = s.log → LoggedFirst s [.routineEnd .tilt q.kind q.finalOutcome] (s.settleN (k + 1))) := by
  obtain ⟨u, unmoved, settled, weighed⟩ := State.settleN_completes k (d := .engage) slot tilt runs phase there instant
  obtain ⟨now, axis, params, -⟩ := unmoved.standing
  have finished := State.finishRoutine_consequence q q.finalOutcome false u
  have rounds := State.settleN_consequence k (u.finishRoutine q q.finalOutcome false)
  obtain ⟨closed, params'⟩ := State.finishRoutine_settleN k q q.finalOutcome (s := u) (by rw [params]; exact instant)
  rw [settled, State.completePhase_engage phase]
  refine ⟨closed.behind (by rw [axis]), by rw [params', params], fun silent => ?_⟩
  have log : u.log = s.log := by
    obtain ⟨b, e⟩ := s.handOn.weighUncommanded_eq
    rw [weighed, e]
    exact silent
  have ends : LoggedFirst u [.routineEnd .tilt q.kind q.finalOutcome] ((u.finishRoutine q q.finalOutcome false).settleN k) := by
    refine .of_logEvents (finished.trans rounds).now ?_
    have records := rounds.grows.1
    rw [State.finishRoutine_log, tilt] at records
    exact records
  exact ends.behind (es := []) log ((finished.trans rounds).now.trans now)

/-! ## What a tilt routine writes (R100, R101) -/

theorem clampSym_thousand (n : Int) : clampSym 1000 n = max (-1000) (min 1000 n) := by
  rw [clampSym, clamp_eq (by decide)]

theorem Routine.writes_home_tilt {r : Routine} {mid : Int} (kind : r.kind = .home) (axis : r.axis = .tilt) (v3 : r.v3 = some mid)
    (p : Params) : r.writes p = { p with tiltCentre := max (-1000) (min 1000 (p.tiltCentre + mid)) } := by
  rw [Routine.writes, kind, axis, v3]
  dsimp only
  rw [clampSym_thousand]
  rfl

theorem Routine.writes_friction_tilt {r : Routine} {left right : Int} (kind : r.kind = .friction) (axis : r.axis = .tilt)
    (v1 : r.v1 = some left) (v2 : r.v2 = some right) (p : Params) :
    r.writes p = { p with frictionTilt := max 0 (min 300 (max left right)) } := by
  rw [Routine.writes, kind, axis, v1, v2]
  dsimp only
  rw [clamp_eq (by decide)]
  rfl

theorem Routine.finalOutcome_of_decided {r : Routine} (decided : r.outcome ≠ .none) : r.finalOutcome = r.outcome := if_neg decided

/-- What a routine writes, and what its record says, the beginning of a phase leaves. -/
theorem Routine.Begun.finalOutcome {r q : Routine} {ph : Phase} {now : Nat} {m : Int} (h : r.Begun ph now m q) :
    q.finalOutcome = r.finalOutcome := by rw [Routine.finalOutcome, h.outcome, Routine.finalOutcome]

theorem Routine.Begun.writes {r q : Routine} {ph : Phase} {now : Nat} {m : Int} (h : r.Begun ph now m q) (p : Params) :
    q.writes p = r.writes p := by rw [Routine.writes, h.kind, h.axis, h.v1, h.v2, h.v3, Routine.writes]

/-- The end of a routine speaks of the routine by its axis, kind and findings only. -/
theorem RoutineClosed.of_begun {r q : Routine} {ph : Phase} {now : Nat} {m : Int} {o : RoutineOutcome} {s t : State}
    (h : RoutineClosed q o s t) (begun : r.Begun ph now m q) : RoutineClosed r o s t where
  slot := h.slot
  mode := begun.axis ▸ h.mode
  drive := begun.axis ▸ h.drive
  setpoint := begun.axis ▸ h.setpoint
  result := by rw [← begun.axis, h.result, begun.kind, begun.v1, begun.v2, begun.v3]

end Sys2Proof.Machine
end

section
/-! PROOFS. SUSPEND_ROUTINE, RESUME_ROUTINE and ABORT_ROUTINE (R104, R105, R107). -/

namespace Sys2Proof.Machine

/-! ## A set that a phase asks for (R98, R114) -/

/-- The latch state under a set of a direction. -/
def Direction.going : Direction → LatchState
  | .release => .releasing
  | .engage => .engaging

theorem Direction.reached_ne_going (d e : Direction) : d.reached ≠ e.going := by
  cases d <;> cases e <;> exact nofun

/-- The first attempt of a set that a routine's phase asks for. -/
def Direction.asked (d : Direction) : AttemptSet := { direction := d, attempt := 1, stage := .waitCoil, origin := .routine }

/-- The state after a phase has asked for its set, on an idle coil and with the switch apart from the target. -/
def State.setAsked (d : Direction) (s : State) : State :=
  (s.setLatch d.going).setLatchUnit ((s.setLatch d.going).latch.opened s.params d.asked s.now)

theorem State.askSet_of_apart {d : Direction} {s : State} (state : s.latch.state ≠ d.reached) (set : s.latch.set = none)
    (first : s.latch.first = none) (pulse : s.latch.pulse = none) (closed : s.latch.closed ≠ d.target) :
    s.askSet d = s.setAsked d := by
  cases d
  case release =>
    rw [State.askSet_release state set first]
    exact State.beginDirectRelease_of_apart pulse (Bool.eq_true_of_not_eq_false closed)
  case engage =>
    rw [State.askSet_engage state set first]
    exact State.beginEngage_of_apart pulse (Bool.eq_false_of_not_eq_true closed)

theorem State.setAsked_latch (d : Direction) (s : State) : (s.setAsked d).latch.state = d.going ∧
    (s.setAsked d).latch.AttemptOpen s.params d .routine s.now := by
  refine ⟨?_, (s.setLatch d.going).latch.opened_attemptOpen s.params d .routine s.now⟩
  show (s.setLatch d.going).latch.state = d.going
  rw [State.setLatch_latch]

theorem State.setAsked_slot (d : Direction) (s : State) : (s.setAsked d).slot = s.slot := (State.setLatch_latchMove _ s).slot

theorem State.setAsked_params (d : Direction) (s : State) : (s.setAsked d).params = s.params := State.setLatch_params _ s

theorem State.setAsked_log (d : Direction) (s : State) : (s.setAsked d).log = (s.logEvent (.lockState d.going)).log :=
  State.setLatch_log _ s

/-- The lean is captured where the latch lets the tilt go (R33). -/
theorem State.setAsked_solve {s : State} (engaged : s.latch.state = .engaged) :
    (s.setAsked .release).solve = { s.solve with captured := s.tilt.meas, phiS := s.tilt.meas } :=
  State.setLatch_solve_of_captures (l := .releasing) (by rw [engaged]; rfl)

/-! ## A phase that waits for the latch begins again (R105) -/

/-- The routine back in its slot, with its phase begun and the resumption logged. -/
def State.reseated (r : Routine) (d : Direction) (s : State) : State :=
  (s.logEvent (.routineResume r.axis)).setSlot (.routine (r.awaiting d s.now (s.axis r.axis).meas))

theorem State.resume_eq {r : Routine} {d : Direction} (phase : r.phase = d.phase) (s : State) :
    s.resume r = ((s.reseated r d).askSet d).settle := by
  rw [State.resume, phase, State.beginPhase_awaiting, State.logEvent_axis]
  rfl

/-- A set that runs, and the routine that waits for it, stand (R98). -/
theorem State.resume_of_set {r : Routine} {d : Direction} {s : State} (phase : r.phase = d.phase) (set : s.latch.set ≠ none)
    (state : s.latch.state = .releasing ∨ s.latch.state = .engaging) (instant : s.params.noInstantTrip) :
    Unmoved False (s.reseated r d) (s.resume r) := by
  rw [State.resume_eq phase, State.askSet_of_set (s := s.reseated r d) set]
  refine State.settle_unmoved_of_phase instant (q := r.awaiting d s.now (s.axis r.axis).meas) rfl ?_ (.inr state)
  rw [(r.awaiting_begun d s.now (s.axis r.axis).meas).phase, d.phase_awaits]
  show some d.reached ≠ some s.latch.state
  obtain e | e := state
  · rw [e]; cases d <;> exact nofun
  · rw [e]; cases d <;> exact nofun

/-- A phase whose latch state is elsewhere asks for its own set, and waits for it (R98). -/
theorem State.resume_of_apart {r : Routine} {d : Direction} {s : State} (phase : r.phase = d.phase)
    (state : s.latch.state ≠ d.reached) (set : s.latch.set = none) (first : s.latch.first = none) (pulse : s.latch.pulse = none)
    (closed : s.latch.closed ≠ d.target) (instant : s.params.noInstantTrip) :
    Unmoved False ((s.reseated r d).setAsked d) (s.resume r) := by
  rw [State.resume_eq phase, State.askSet_of_apart (s := s.reseated r d) state set first pulse closed]
  obtain ⟨going, -⟩ := (s.reseated r d).setAsked_latch d
  refine State.settle_unmoved_of_phase (by rw [State.setAsked_params]; exact instant) (q := r.awaiting d s.now (s.axis r.axis).meas)
    ((s.reseated r d).setAsked_slot d) ?_ (.inr ?_)
  · rw [(r.awaiting_begun d s.now (s.axis r.axis).meas).phase, d.phase_awaits, going]
    exact fun e => d.reached_ne_going d (Option.some.inj e)
  · rw [going]
    cases d
    · exact .inr rfl
    · exact .inl rfl

/-- A phase whose latch state is there settles as it is (R98). -/
theorem State.resume_of_reached {r : Routine} {d : Direction} {s : State} (phase : r.phase = d.phase)
    (there : s.latch.state = d.reached) : s.resume r = (s.reseated r d).settle := by
  rw [State.resume_eq phase, State.askSet_of_reached (s := s.reseated r d) there]

theorem Routine.Begun.again {r q q' : Routine} {ph ph' : Phase} {now now' : Nat} {m m' : Int} (h : r.Begun ph now m q)
    (k : q.Begun ph' now' m' q') : r.Begun ph' now' m' q' :=
  ⟨k.axis.trans h.axis, k.kind.trans h.kind, k.centre.trans h.centre, k.phase, k.held, k.phaseStart, k.reference, k.rampDrive,
    k.maxDisp, k.v1.trans h.v1, k.v2.trans h.v2, k.v3.trans h.v3, k.outcome.trans h.outcome⟩

/-- A RELEASE phase that begins again with the latch RELEASED goes on to the next phase (R98, R100, R101). -/
theorem State.resume_released {r : Routine} {s : State} (phase : r.phase = .release) (tilt : r.axis = .tilt)
    (there : s.latch.state = .released) (kind : r.kind = .home ∨ r.kind = .friction) (instant : s.params.noInstantTrip) :
    (s.resume r).latch.state = .released ∧ (s.resume r).params = s.params ∧
      ∃ q, (s.resume r).slot = .routine q ∧ r.Begun (if r.kind = .home then .sweepLeft else .rampLeft) s.now s.tilt.meas q := by
  have begun := r.awaiting_begun .release s.now (s.axis r.axis).meas
  obtain ⟨q, state, -, params, slot, next, -⟩ := State.settleN_released 7 (s := s.reseated r .release)
    (q := r.awaiting .release s.now (s.axis r.axis).meas) rfl tilt rfl rfl kind there instant
  rw [State.resume_of_reached (d := .release) phase there]
  exact ⟨state, params, q, slot, begun.again next⟩

/-- An ENGAGE phase that begins again with the latch ENGAGED ends its routine (R98, R100, R101). -/
theorem State.resume_engaged {r : Routine} {s : State} (phase : r.phase = .engage) (tilt : r.axis = .tilt)
    (there : s.latch.state = .engaged) (instant : s.params.noInstantTrip) :
    RoutineClosed r r.finalOutcome s (s.resume r) ∧
      (s.resume r).params = (if r.finalOutcome = .pass then r.writes s.params else s.params) ∧
      (s.waitingChanges = [] → LoggedFirst s [.routineResume .tilt, .routineEnd .tilt r.kind r.finalOutcome] (s.resume r)) := by
  have begun := r.awaiting_begun .engage s.now (s.axis r.axis).meas
  obtain ⟨closed, params, logged⟩ := State.settleN_engaged 7 (s := s.reseated r .engage)
    (q := r.awaiting .engage s.now (s.axis r.axis).meas) rfl tilt rfl rfl there instant
  rw [State.resume_of_reached (d := .engage) phase there]
  refine ⟨(closed.of_begun begun).behind ?_, params, fun waits => ?_⟩
  · exact congrArg AxisCtl.returnMode (State.logEvent_axis (.routineResume r.axis) s r.axis)
  · have silent : (s.reseated r .engage).waitingChanges = [] := State.waitingChanges_congr waits rfl rfl rfl rfl rfl rfl
    have ends := logged (congrArg State.log (State.handOnN_of_nothing_waits 32 silent))
    refine ends.behind (es := [.routineResume .tilt]) ?_ (State.settle_consequence (s.reseated r .engage)).now
    rw [← tilt]
    rfl

/-! ## Checks and answers (R104, R105, R107) -/

theorem Slot.routine?_eq_none {y : Slot} (other : ∀ r, y ≠ .routine r) : y.routine? = none := by
  cases y
  case routine r => exact absurd rfl (other r)
  case free | service | storeProgramming => rfl

theorem handleSuspendRoutine_of_payload {p : Port} {bytes : List Byte} {s : State} (some : bytes ≠ []) :
    handleSuspendRoutine p bytes s = refuse s .badArg [] := by
  simp [handleSuspendRoutine, List.isEmpty_eq_false_iff.mpr some]

theorem handleResumeRoutine_of_payload {p : Port} {bytes : List Byte} {s : State} (some : bytes ≠ []) :
    handleResumeRoutine p bytes s = refuse s .badArg [] := by
  simp [handleResumeRoutine, List.isEmpty_eq_false_iff.mpr some]

theorem handleAbortRoutine_of_payload {p : Port} {bytes : List Byte} {s : State} (some : bytes ≠ []) :
    handleAbortRoutine p bytes s = refuse s .badArg [] := by
  simp [handleAbortRoutine, List.isEmpty_eq_false_iff.mpr some]

theorem handleSuspendRoutine_of_none {p : Port} {s : State} (holder : s.holds p = true) (other : ∀ r, s.slot ≠ .routine r) :
    handleSuspendRoutine p [] s = refuse s .notNow [] := by
  simp [handleSuspendRoutine, holder, Slot.routine?_eq_none other]

theorem handleAbortRoutine_of_none {p : Port} {s : State} (holder : s.holds p = true) (other : ∀ r, s.slot ≠ .routine r) :
    handleAbortRoutine p [] s = refuse s .notNow [] := by
  simp [handleAbortRoutine, holder, Slot.routine?_eq_none other]

theorem handleResumeRoutine_of_unready {p : Port} {s : State} (holder : s.holds p = true)
    (unready : ∀ r, s.slot = .routine r → (r.held.isSome && s.still && s.wheelsStopped) = false) :
    handleResumeRoutine p [] s = refuse s .notNow [] := by
  unfold handleResumeRoutine
  rw [holder]
  cases slot : s.slot
  case routine r =>
    show (if (r.held.isSome && s.still && s.wheelsStopped) = true then _ else _) = _
    rw [unready r slot]
    rfl
  case free | service | storeProgramming => rfl

theorem handleSuspendRoutine_of_running {p : Port} {r : Routine} {s : State} (holder : s.holds p = true) (slot : s.slot = .routine r)
    (runs : r.held = none) : handleSuspendRoutine p [] s = (s.suspend r, okAnswer []) := by
  simp [handleSuspendRoutine, holder, slot, Slot.routine?, runs]

theorem handleSuspendRoutine_of_held {p : Port} {r : Routine} {s : State} (holder : s.holds p = true) (slot : s.slot = .routine r)
    (held : r.held ≠ none) : handleSuspendRoutine p [] s = (s, okAnswer []) := by
  simp [handleSuspendRoutine, holder, slot, Slot.routine?, Option.isSome_iff_ne_none.mpr held]

theorem handleResumeRoutine_of_held {p : Port} {r : Routine} {s : State} (holder : s.holds p = true) (slot : s.slot = .routine r)
    (held : r.held ≠ none) (still : s.still = true) (stopped : s.wheelsStopped = true) :
    handleResumeRoutine p [] s = (s.resume r, okAnswer []) := by
  simp [handleResumeRoutine, holder, slot, Slot.routine?, Option.isSome_iff_ne_none.mpr held, still, stopped]

theorem handleAbortRoutine_of_routine {p : Port} {r : Routine} {s : State} (holder : s.holds p = true) (slot : s.slot = .routine r) :
    handleAbortRoutine p [] s = ((s.finishRoutine r .aborted false).settle, okAnswer []) := by
  simp [handleAbortRoutine, holder, slot, Slot.routine?]

/-! ## From the owner's state to the reply's -/

theorem RoutineClosed.answered {r : Routine} {o : RoutineOutcome} {s t : State} (h : RoutineClosed r o s t) (p : Port)
    (kind ref : Byte) (status : Status) (payload : List Byte) : RoutineClosed r o s (t.answered p kind ref status payload) where
  slot := (State.answered_slot ..).trans h.slot
  mode := by rw [State.answered_axis, h.mode]
  drive := by rw [State.answered_axis, h.drive]
  setpoint := by rw [State.answered_setpoint, State.answered_axis, h.setpoint]
  result := by rw [State.answered_axis, h.result]

theorem State.resume_consequence (r : Routine) (s : State) : Consequence s (s.resume r) :=
  ((State.logEvent_consequence _ s).trans (State.beginPhase_consequence r r.phase _)).trans (State.settle_consequence _)

theorem State.resume_logged (r : Routine) (s : State) : LoggedFirst s [.routineResume r.axis] (s.resume r) :=
  .of_logEvents (s.resume_consequence r).now
    (((State.beginPhase_consequence r r.phase _).trans (State.settle_consequence _)).grows.1 :)

theorem phase_of_waiting {r : Routine} (waits : r.phase = .release ∨ r.phase = .engage) : ∃ d : Direction, r.phase = d.phase :=
  waits.elim (fun e => ⟨.release, e⟩) fun e => ⟨.engage, e⟩

end Sys2Proof.Machine
end

section
/-! PROOFS. Routines suspend, resume and abort (R104, R105, R107). -/

namespace Sys2Proof.Machine

/-! ## What a resumed tilt phase comes to, by the latch as it stands (R98, R105) -/

theorem Routine.awaiting_spec {r : Routine} {d : Direction} (phase : r.phase = d.phase) (tilt : r.axis = .tilt) (now : Nat) (m : Int) :
    (r.awaiting d now m).axis = .tilt ∧ (r.awaiting d now m).kind = r.kind ∧ (r.awaiting d now m).phase = r.phase ∧
      (r.awaiting d now m).held = none ∧ (r.awaiting d now m).phaseStart = now ∧
      (r.phase = .release → (r.awaiting d now m).target = m) ∧ (r.phase = .engage → (r.awaiting d now m).target = r.target) := by
  have begun := r.awaiting_begun d now m
  refine ⟨begun.axis.trans tilt, begun.kind, begun.phase.trans phase.symm, begun.held, begun.phaseStart, fun release => ?_, fun engage => ?_⟩
  · rw [r.awaiting_target]
    cases d
    · exact nomatch release.symm.trans phase
    · rfl
  · rw [r.awaiting_target]
    cases d
    · rfl
    · exact nomatch engage.symm.trans phase

/-- The set that a resumed phase asks for, logged behind the resumption. -/
theorem State.setAsked_reseated_logged {r : Routine} {d : Direction} {s t : State} (tilt : r.axis = .tilt) (now : t.now = s.now)
    (grows : ((s.reseated r d).setAsked d).log.records <+: t.log.records) :
    LoggedFirst s [.routineResume .tilt, .lockState d.going] t := by
  refine .of_logEvents now ?_
  rw [State.setAsked_log] at grows
  rw [← tilt]
  exact grows

theorem conditions_of_unready {r : Routine} {s : State}
    (unready : r.held = none ∨ s.still = false ∨ ∃ w, (s.speed.wheel w).speed ≠ 0) :
    (r.held.isSome && s.still && s.wheelsStopped) = false := by
  obtain e | e | ⟨w, moves⟩ := unready
  · simp [e]
  · simp [e]
  · rw [Bool.eq_false_iff.mpr fun stopped => moves (s.wheelsStopped_iff.mp stopped w), Bool.and_false]

/-- The refusals of the three requests (R104, R105, R107). -/
theorem routineRequests_refused (dt : Nat) (p : Port) (ref : Byte) (bytes : List Byte) (s : State) (short : bytes.length ≤ 38)
    (ready : Ready s p) :
    (bytes ≠ [] →
      exec (.suspendRoutine dt { port := p, ref := ref, payload := bytes }) s =
        .next ((s.delivered dt p).answered p 0x31 ref .badArg []) ∧
      exec (.resumeRoutine dt { port := p, ref := ref, payload := bytes }) s =
        .next ((s.delivered dt p).answered p 0x32 ref .badArg []) ∧
      exec (.abortRoutine dt { port := p, ref := ref, payload := bytes }) s =
        .next ((s.delivered dt p).answered p 0x33 ref .badArg [])) ∧
    (s.holds p = true → (∀ r, s.slot ≠ .routine r) →
      exec (.suspendRoutine dt { port := p, ref := ref, payload := [] }) s =
        .next ((s.delivered dt p).answered p 0x31 ref .notNow []) ∧
      exec (.abortRoutine dt { port := p, ref := ref, payload := [] }) s =
        .next ((s.delivered dt p).answered p 0x33 ref .notNow [])) ∧
    (s.holds p = true →
      (∀ r, s.slot = .routine r → r.held = none ∨ s.still = false ∨ ∃ w, (s.speed.wheel w).speed ≠ 0) →
      exec (.resumeRoutine dt { port := p, ref := ref, payload := [] }) s =
        .next ((s.delivered dt p).answered p 0x32 ref .notNow [])) := by
  have holds := s.delivered_holds dt p p
  have slot := s.delivered_slot dt p
  refine ⟨fun some => ⟨?_, ?_, ?_⟩, fun holder other => ⟨?_, ?_⟩, fun holder unready => ?_⟩
  · exact exec_refused (c := .suspendRoutine dt { port := p, ref := ref, payload := bytes }) rfl (decide_eq_true short) ready
      (handleSuspendRoutine_of_payload (p := p) some)
  · exact exec_refused (c := .resumeRoutine dt { port := p, ref := ref, payload := bytes }) rfl (decide_eq_true short) ready
      (handleResumeRoutine_of_payload (p := p) some)
  · exact exec_refused (c := .abortRoutine dt { port := p, ref := ref, payload := bytes }) rfl (decide_eq_true short) ready
      (handleAbortRoutine_of_payload (p := p) some)
  · exact exec_refused (c := .suspendRoutine dt { port := p, ref := ref, payload := [] }) rfl rfl ready
      (handleSuspendRoutine_of_none (p := p) (s := s.delivered dt p) (holds.trans holder) (by rw [slot]; exact other))
  · exact exec_refused (c := .abortRoutine dt { port := p, ref := ref, payload := [] }) rfl rfl ready
      (handleAbortRoutine_of_none (p := p) (s := s.delivered dt p) (holds.trans holder) (by rw [slot]; exact other))
  · refine exec_refused (c := .resumeRoutine dt { port := p, ref := ref, payload := [] }) rfl rfl ready
      (handleResumeRoutine_of_unready (p := p) (s := s.delivered dt p) (holds.trans holder) fun r e => ?_)
    have still := s.delivered_still dt p
    have stopped := s.delivered_wheelsStopped dt p
    rw [still, stopped]
    exact conditions_of_unready (unready r (slot.symm.trans e))

/-- Settles O43. -/
theorem routinesSuspendResumeAbort : Obligations.RoutinesSuspendResumeAbort := by
  refine ⟨routineRequests_refused, ?waiting, ?others⟩
  case waiting =>
    intro dt p ref r s ready holder slot tilt held still stopped instant waits
    obtain ⟨d, phase⟩ := phase_of_waiting waits
    have answered (t : State) (a : Answer) (h : handleResumeRoutine p [] (s.delivered dt p) = (t, a)) (n : t.now = s.now + dt) :=
      exec_answered (c := .resumeRoutine dt { port := p, ref := ref, payload := [] }) rfl rfl ready h n
    have handled := handleResumeRoutine_of_held (p := p) (r := r) (s := s.delivered dt p) ((s.delivered_holds dt p p).trans holder)
      ((s.delivered_slot dt p).trans slot) held ((s.delivered_still dt p).trans still)
      ((s.delivered_wheelsStopped dt p).trans (s.wheelsStopped_iff.mpr stopped))
    have request (t : State) (h : Framed (s.delivered dt p) t) := h.requestFrame 0x32 ref .ok []
    have logged (es : List Event) (t : State) (h : LoggedFirst (s.delivered dt p) es t) := h.answered 0x32 ref .ok []
    have axis := s.delivered_axis dt p .tilt
    have now := s.delivered_now dt p
    have params := s.delivered_params dt p
    have latch := s.delivered_latch dt p
    have quiet (h : s.waitingChanges = []) : (s.delivered dt p).waitingChanges = [] :=
      State.waitingChanges_congr h (s.delivered_inputs dt p) (s.delivered_speed dt p) params (congrArg _ latch)
        (s.delivered_hold_isSome dt p) (congrArg _ axis)
    generalize s.delivered dt p = v at *
    have tiltMeas : v.tilt.meas = s.tilt.meas := congrArg AxisCtl.meas axis
    have meas : (v.axis r.axis).meas = s.tilt.meas := by rw [tilt]; exact tiltMeas
    have instant' : v.params.noInstantTrip := by rwa [params]
    have consequence := v.resume_consequence r
    refine ⟨_, answered _ _ handled (consequence.now.trans now), logged _ _ (tilt ▸ v.resume_logged r), State.answered_replied ..,
      request _ consequence.framed, fun state set => ?_, fun release state kind => ?_, fun release state set first closed pulse => ?_,
      fun engage state => ?_, fun engage state set first closed pulse => ?_⟩ <;>
      simp only [State.answered_latch, State.answered_params, State.answered_slot, State.answered_solve]
    · rw [← latch] at state set ⊢
      have unmoved := State.resume_of_set phase set state instant'
      obtain ⟨state', set', pulse'⟩ := unmoved.latch
      obtain ⟨axis', kind', phase', held', start', release', engage'⟩ := Routine.awaiting_spec phase tilt v.now (v.axis r.axis).meas
      exact ⟨state', set', pulse', unmoved.seated.params.trans params, _, unmoved.seated.slot, axis', kind', phase', held',
        start'.trans now, fun e => (release' e).trans meas, engage'⟩
    · rw [← latch] at state
      obtain ⟨state', params', q, slot', begun⟩ := State.resume_released release tilt state kind instant'
      exact ⟨state', params'.trans params, q, slot', begun.axis.trans tilt, begun.kind, begun.phase, begun.held,
        begun.phaseStart.trans now, begun.reference.trans tiltMeas⟩
    · rw [← latch] at state set first closed pulse
      have unmoved := State.resume_of_apart (d := .release) release (state ▸ nofun) set first pulse (closed ▸ nofun) instant'
      have begun := r.awaiting_begun .release v.now (v.axis r.axis).meas
      obtain ⟨state', open'⟩ := (v.reseated r .release).setAsked_latch .release
      obtain ⟨going, set', pulse'⟩ := unmoved.latch
      have solve' := unmoved.solve.trans (State.setAsked_solve (s := v.reseated r .release) state)
      have consequence' := State.settle_consequence ((v.reseated r .release).setAsked .release)
      have grows : ((v.reseated r .release).setAsked .release).log.records <+: (v.resume r).log.records := by
        rw [State.resume_eq (d := .release) release,
          State.askSet_of_apart (s := v.reseated r .release) (state ▸ nofun) set first pulse (closed ▸ nofun)]
        exact consequence'.grows.1
      refine ⟨going.trans state', ⟨?_, ?_⟩, ?_, ?_, ?_, logged _ _ (State.setAsked_reseated_logged tilt consequence.now grows), _,
        unmoved.seated.slot.trans ((v.reseated r .release).setAsked_slot .release), begun.axis.trans tilt, begun.kind, begun.phase,
        begun.held, meas⟩
      · rw [← params, ← now]
        exact pulse'.trans open'.1
      · rw [← params, ← now]
        exact set'.trans open'.2
      · rw [solve']
        exact tiltMeas
      · rw [solve']
        exact tiltMeas
      · exact unmoved.seated.params.trans ((State.setAsked_params _ _).trans params)
    · rw [← latch] at state
      obtain ⟨closed, params', ends⟩ := State.resume_engaged engage tilt state instant'
      have returns : (v.axis r.axis).returnMode = (s.axis r.axis).returnMode := by
        rw [tilt]
        exact congrArg AxisCtl.returnMode axis
      rw [params] at params'
      refine ⟨fun decided => ⟨?_, fun waits => ?_⟩, fun mid home v3 pass => ?_, fun home span => ?_,
        fun left right friction v1 v2 undecided => ⟨?_, fun waits => ?_, ?_⟩⟩
      · rw [Routine.finalOutcome_of_decided decided] at closed
        exact (closed.behind returns).answered ..
      · have ends := ends (quiet waits)
        rw [Routine.finalOutcome_of_decided decided] at ends
        exact logged _ _ ends
      · rw [params', Routine.finalOutcome_of_decided (by rw [pass]; exact nofun), if_pos pass]
        exact Routine.writes_home_tilt home tilt v3 _
      · rw [params', Routine.finalOutcome_of_decided (by rw [span]; exact nofun), if_neg (by rw [span]; exact nofun)]
      · rw [Routine.finalOutcome_of_none undecided] at closed
        exact (closed.behind returns).answered ..
      · have ends := ends (quiet waits)
        rw [Routine.finalOutcome_of_none undecided, friction] at ends
        exact logged _ _ ends
      · rw [params', Routine.finalOutcome_of_none undecided, if_pos rfl]
        exact Routine.writes_friction_tilt friction tilt v1 v2 _
    · rw [← latch] at state set first closed pulse
      have unmoved := State.resume_of_apart (d := .engage) engage (state ▸ nofun) set first pulse (closed ▸ nofun) instant'
      have begun := r.awaiting_begun .engage v.now (v.axis r.axis).meas
      obtain ⟨state', open'⟩ := (v.reseated r .engage).setAsked_latch .engage
      obtain ⟨going, set', pulse'⟩ := unmoved.latch
      have consequence' := State.settle_consequence ((v.reseated r .engage).setAsked .engage)
      have grows : ((v.reseated r .engage).setAsked .engage).log.records <+: (v.resume r).log.records := by
        rw [State.resume_eq (d := .engage) engage,
          State.askSet_of_apart (s := v.reseated r .engage) (state ▸ nofun) set first pulse (closed ▸ nofun)]
        exact consequence'.grows.1
      refine ⟨going.trans state', ⟨?_, ?_⟩, ?_, logged _ _ (State.setAsked_reseated_logged tilt consequence.now grows), _,
        unmoved.seated.slot.trans ((v.reseated r .engage).setAsked_slot .engage), begun.axis.trans tilt, begun.kind, begun.phase,
        begun.held, rfl⟩
      · rw [← params, ← now]
        exact pulse'.trans open'.1
      · rw [← params, ← now]
        exact set'.trans open'.2
      · exact unmoved.seated.params.trans ((State.setAsked_params _ _).trans params)
  case others =>
    intro dt p ref r s ready holder slot
    have holder' := (s.delivered_holds dt p p).trans holder
    have slot' := (s.delivered_slot dt p).trans slot
    have now := s.delivered_now dt p
    have params := s.delivered_params dt p
    have axis := s.delivered_axis dt p r.axis
    refine ⟨fun runs => ?_, fun held => ?_, fun held still stopped phase instant => ?_, fun instant => ?_⟩
    · have suspended : (s.delivered dt p).suspend r = (((s.delivered dt p).setSlot (.routine
          { r with held := some (s.axis r.axis).meas, rampSince := none, rampDrive := 0, maxDisp := 0 })).setDrive r.axis
          (loopDrive s.params r.axis 0)).logEvent (.routineSuspend r.axis) := by
        rw [← params, ← axis]
        rfl
      rw [← suspended]
      exact exec_answered (c := .suspendRoutine dt { port := p, ref := ref, payload := [] }) rfl rfl ready
        (handleSuspendRoutine_of_running (p := p) holder' slot' runs) (suspended ▸ (State.setDrive_now r.axis _ _).trans now)
    · exact exec_answered (c := .suspendRoutine dt { port := p, ref := ref, payload := [] }) rfl rfl ready
        (handleSuspendRoutine_of_held (p := p) holder' slot' held) now
    · have answered (t : State) (a : Answer) (h : handleResumeRoutine p [] (s.delivered dt p) = (t, a)) (n : t.now = s.now + dt) :=
        exec_answered (c := .resumeRoutine dt { port := p, ref := ref, payload := [] }) rfl rfl ready h n
      have handled := handleResumeRoutine_of_held (p := p) holder' slot' held ((s.delivered_still dt p).trans still)
        ((s.delivered_wheelsStopped dt p).trans stopped)
      have request (t : State) (h : Framed (s.delivered dt p) t) := h.requestFrame 0x32 ref .ok []
      have logged (es : List Event) (t : State) (h : LoggedFirst (s.delivered dt p) es t) := h.answered 0x32 ref .ok []
      generalize s.delivered dt p = v at *
      have consequence := v.resume_consequence r
      obtain ⟨q, begins, begun⟩ := (v.logEvent (.routineResume r.axis)).beginPhase_slot r r.phase
      rw [State.logEvent_axis, axis] at begun
      have params' := (v.logEvent (.routineResume r.axis)).beginPhase_params r r.phase
      have seated := State.settle_seated ((v.logEvent (.routineResume r.axis)).beginPhase r r.phase)
        (by rw [params']; exact (params ▸ instant :)) (notWaiting_of_phase begins (by rw [begun.phase]; exact phase))
      refine ⟨_, q, answered _ _ handled (consequence.now.trans now), (State.answered_slot ..).trans (seated.slot.trans begins),
        begun.axis, begun.kind, begun.phase, begun.held, begun.phaseStart.trans now, begun.reference, begun.rampDrive, begun.maxDisp,
        begun.v1, begun.v2, logged _ _ (v.resume_logged r), State.answered_replied .., request _ consequence.framed, ?_⟩
      rw [State.answered_params]
      exact seated.params.trans (params'.trans params)
    · have answered (t : State) (a : Answer) (h : handleAbortRoutine p [] (s.delivered dt p) = (t, a)) (n : t.now = s.now + dt) :=
        exec_answered (c := .abortRoutine dt { port := p, ref := ref, payload := [] }) rfl rfl ready h n
      have handled := handleAbortRoutine_of_routine (p := p) holder' slot'
      have request (t : State) (h : Framed (s.delivered dt p) t) := h.requestFrame 0x33 ref .ok []
      have logged (es : List Event) (t : State) (h : LoggedFirst (s.delivered dt p) es t) := h.answered 0x33 ref .ok []
      generalize s.delivered dt p = v at *
      obtain ⟨ended, params', consequence⟩ := State.finishRoutine_ended r .aborted (s := v) (by rwa [params])
      refine ⟨_, answered _ _ handled (consequence.now.trans now),
        ⟨(ended.toRoutineClosed.behind (congrArg _ axis)).answered .., logged _ _ ended.logged⟩, State.answered_replied ..,
        request _ consequence.framed, ?_⟩
      rw [State.answered_params]
      exact params'.trans params

end Sys2Proof.Machine
end

section
/-! PROOFS. A set that runs stands while the part settles, whatever follows inside the part (R114, R117). -/

namespace Sys2Proof.Machine

/-! ## What every operation inside the part keeps -/

/-- A property that stands through whatever follows from a command inside the part, but for phases of routines that complete:
conditions and trips taken, records logged, an uncommanded closing weighed, decisions of the latch controller, the ends of a
session and of a hold. -/
structure Lasting (P : State → Prop) : Prop where
  inputs : ∀ (s : State) (u : InputUnit), P s → P (s.setInputs u)
  log : ∀ (s : State) (e : Event), P s → P (s.logEvent e)
  weigh : ∀ s : State, P s → P s.weighUncommanded
  decide : ∀ s t : State, s.decideLatch = some t → P s → P t
  session : ∀ s : State, P s → P s.abortSession
  hold : ∀ (s : State) (reason : EndReason), P s → P (s.dropHold reason)

namespace Lasting

variable {P : State → Prop}

theorem hearLatch (h : Lasting P) {s : State} (p : P s) : P s.hearLatch := by
  have weighed := h.weigh s p
  unfold State.hearLatch
  dsimp only
  refine h.inputs _ _ ?_
  cases decided : s.weighUncommanded.decideLatch
  case none => exact weighed
  case some t => exact h.decide _ t decided weighed

theorem restPreload (h : Lasting P) {s : State} (p : P s) : P s.restPreload := by
  obtain same | decided := s.restPreload_cases
  · rwa [same]
  · exact h.decide s _ decided p

theorem handGrade (h : Lasting P) (old : Grade) {s : State} (p : P s) : P (s.handGrade old) := by
  have heard : P (if old ≠ .lockdown && s.grade = .lockdown then s.hearLatch else s) := by
    split
    · exact h.hearLatch p
    · exact p
  unfold State.handGrade
  dsimp only
  split
  · exact h.inputs _ _ (h.session _ (h.hold _ .safe heard))
  · exact heard

theorem fireTrip (h : Lasting P) (id : TripId) (sev : Severity) {s : State} (p : P s) : P (s.fireTrip id sev) := by
  unfold State.fireTrip
  split
  · exact p
  · exact h.handGrade _ (h.log _ _ (h.inputs s _ p))

theorem evaluateCombiner (h : Lasting P) (q : Bool) (i : CombinerId) {s : State} (p : P s) : P (s.evaluateCombiner q i) := by
  have put (r : CombinerRec) : P (s.setInputs (s.inputs.setCombiner i r)) := h.inputs s _ p
  unfold State.evaluateCombiner
  dsimp only
  split
  · exact h.log _ _ (put _)
  · exact put _

theorem evaluateTripUnit (h : Lasting P) (x : TripUnit) {s : State} (p : P s) : P (s.evaluateTripUnit x) := by
  have put (r : TripUnitRec) : P (s.setInputs (s.inputs.setTripUnit x r)) := h.inputs s _ p
  unfold State.evaluateTripUnit
  dsimp only
  split
  · exact h.fireTrip _ _ (h.inputs _ _ (put _))
  · exact put _

theorem evaluateInputs (h : Lasting P) (q old : Bool) {s : State} (p : P s) : P (s.evaluateInputs q old) := by
  have three := h.evaluateCombiner q .c2 (h.evaluateCombiner q .c1 (h.evaluateCombiner q .c0 p))
  have combiners : P (s.evaluateCombiners q old) := by
    unfold State.evaluateCombiners
    dsimp only
    split
    · exact h.hearLatch three
    · exact three
  exact h.evaluateTripUnit .t2 (h.evaluateTripUnit .t1 combiners)

theorem handOnN (h : Lasting P) (k : Nat) {s : State} (p : P s) : P (s.handOnN k) := by
  induction k generalizing s with
  | zero => exact p
  | succ k ih =>
    unfold State.handOnN
    split
    · exact p
    · exact ih (h.evaluateInputs _ _ (h.inputs _ _ (h.inputs s _ p)))

/-- What lasts stands when the part has settled, where no phase completes meanwhile. -/
theorem settleN (h : Lasting P) (unready : ∀ t, P t → t.routineReady = none) (k : Nat) {s : State} (p : P s) : P (s.settleN k) := by
  induction k generalizing s with
  | zero => exact h.restPreload (h.handOnN 32 p)
  | succ k ih =>
    have weighed : P s.handOn.weighUncommanded := h.weigh _ (h.handOnN 32 p)
    unfold State.settleN
    dsimp only
    split
    · next t decided => exact ih (h.decide _ t decided weighed)
    · rw [unready _ weighed]
      exact weighed

end Lasting

/-! ## A set that runs (R98, R114) -/

/-- The latch record as far as a set that runs goes: state, set and pulse. -/
def LatchUnit.underWay (l : LatchUnit) : LatchState × Option AttemptSet × Option Pulse := (l.state, l.set, l.pulse)

/-- A set that runs, RELEASING or ENGAGING, stands with its pulse. -/
structure SetRuns (s t : State) : Prop where
  stands : s.latch.state = .releasing ∨ s.latch.state = .engaging →
    t.latch.state = s.latch.state ∧ t.latch.set = s.latch.set ∧ t.latch.pulse = s.latch.pulse

theorem State.endPermit_underWay (p : Port) (s : State) : (s.endPermit p).latch.underWay = s.latch.underWay := by
  unfold State.endPermit
  split
  · cases p <;> rfl
  · rfl

theorem State.dropHold_underWay (reason : EndReason) (s : State) : (s.dropHold reason).latch.underWay = s.latch.underWay := by
  unfold State.dropHold
  split
  · rfl
  · unfold State.endHoldCore
    refine (State.endPermit_underWay _ _).trans ?_
    exact congrArg LatchUnit.underWay (State.abortSession_latch ((s.logEvent (.holdEnd reason)).setPath .empty))

/-- What a set that runs is made of lasts: no decision is made meanwhile. -/
theorem running_lasting {l : LatchUnit} (going : l.state = .releasing ∨ l.state = .engaging) :
    Lasting fun t => t.latch.underWay = l.underWay where
  inputs _ _ h := h
  log _ _ h := h
  weigh s h := by
    obtain ⟨b, weighed⟩ := s.weighUncommanded_eq
    rw [weighed]
    exact h
  decide s t decided h := by
    rw [State.decideLatch_under_way (by rwa [show s.latch.state = l.state from congrArg Prod.fst h])] at decided
    cases decided
  session s h := (congrArg LatchUnit.underWay s.abortSession_latch).trans h
  hold s reason h := (s.dropHold_underWay reason).trans h

/-- No phase completes while a set runs: each waits for a state that the set has yet to reach (R98). -/
theorem State.routineReady_under_way {s : State} (going : s.latch.state = .releasing ∨ s.latch.state = .engaging) :
    s.routineReady = none := by
  cases slot : s.slot
  case routine q =>
    refine State.routineReady_of_waiting slot ?_
    obtain e | e := going <;> rw [e] <;> cases q.phase <;> exact nofun
  case free | service | storeProgramming =>
    rw [State.routineReady, slot]

/-- Settling leaves a set that runs, with its pulse and the latch state. -/
theorem State.settleN_setRuns (k : Nat) (s : State) : SetRuns s (s.settleN k) := ⟨fun going => by
  have stands := (running_lasting going).settleN (fun t h => State.routineReady_under_way
    (by rwa [show t.latch.state = s.latch.state from congrArg Prod.fst h])) k (s := s) rfl
  exact ⟨congrArg Prod.fst stands, congrArg (fun x => x.2.1) stands, congrArg (fun x => x.2.2) stands⟩⟩

/-- Where a set runs and no trip fires at once, settling moves nothing. -/
theorem State.settle_unmoved_under_way {s : State} (instant : s.params.noInstantTrip)
    (going : s.latch.state = .releasing ∨ s.latch.state = .engaging) : Unmoved False s s.settle :=
  State.settleN_unmoved_of_unready 8 instant (fun _ h => State.routineReady_under_way (by rwa [h.latch_state])) nofun
    fun _ h => State.decideLatch_under_way (by rwa [h.latch_state])

end Sys2Proof.Machine
end

section
/-! PROOFS. A latch at rest, and a jam that comes free (R116, R119 to R121, R124). -/

namespace Sys2Proof.Machine

/-! ## A latch that its controller leaves alone -/

/-- A condition of R116 fails, and stands: the combined demand counts only where it is `steady`. -/
inductive State.NoLean (steady : Prop) (s : State) : Prop where
  | slow (fast : s.fast = false)
  | untracked (mode : s.tilt.mode ≠ .track)
  | grave (grade : s.grade = .lockdown)
  | demanded (st : steady) (demand : s.lockDemand = true)

theorem State.NoLean.mayLean {steady : Prop} {s : State} (h : s.NoLean steady) : s.mayLean = false := by
  obtain e | e | e | ⟨-, e⟩ := h <;> simp [State.mayLean, e]

theorem State.NoLean.unmoved {steady : Prop} {s t : State} (h : s.NoLean steady) (u : Unmoved steady s t) : t.NoLean steady := by
  obtain ⟨-, -, tilt, -, grade, -⟩ := u.weighs
  obtain ⟨-, fast, -, -, -, -, -, demand⟩ := u.conditions
  cases h
  case slow e => exact .slow (fast.trans e)
  case untracked e => exact .untracked (by rwa [tilt])
  case grave e => exact .grave (grade.trans e)
  case demanded st e => exact .demanded st ((demand st).trans e)

theorem Unmoved.permitReleases {steady : Prop} {s t : State} (h : Unmoved steady s t) : t.permitReleases = s.permitReleases := by
  obtain ⟨-, -, tilt, -, grade, -⟩ := h.weighs
  obtain ⟨-, -, still, -, permit, -⟩ := h.conditions
  rw [State.permitReleases, permit, tilt, still, grade, State.permitReleases]

theorem Unmoved.mayEngage {steady : Prop} {s t : State} (h : Unmoved steady s t) : t.mayEngage = s.mayEngage := by
  obtain ⟨-, -, -, -, grade, -⟩ := h.weighs
  obtain ⟨slow, -, -, -, permit, upright, -⟩ := h.conditions
  rw [State.mayEngage, slow, permit, grade, upright, State.mayEngage]

theorem Unmoved.latch_eq {steady : Prop} {s t : State} (h : Unmoved steady s t) : ∃ m, t.latch = { s.latch with uncommanded := m } := by
  obtain ⟨u, l, m, parts, -⟩ := h.parts
  exact ⟨m, by rw [parts]; rfl⟩

/-- The latch controller has nothing to decide, whatever conditions are taken. -/
inductive State.Idles (steady : Prop) (s : State) : Prop where
  | engaged (state : s.latch.state = .engaged) (permit : s.permitReleases = false) (lean : s.NoLean steady)
  | released (state : s.latch.state = .released) (engage : s.mayEngage = false)
  | jammed (state : s.latch.state = .jammed)
      (holds : s.slow = false ∨ s.latch.closed = false ∨ s.latch.pulsing .release = true)
  | unlatchedFault (state : s.latch.state = .unlatchedFault) (lean : s.NoLean steady)
  | going (state : s.latch.state = .releasing ∨ s.latch.state = .engaging)

theorem State.Idles.undecided {steady : Prop} {s : State} (h : s.Idles steady) : s.decideLatch = none := by
  rw [State.decideLatch_eq_none_iff, State.decides]
  cases h
  case engaged state permit lean => simp [state, permit, lean.mayLean]
  case released state engage => simp [state, engage]
  case jammed state holds => obtain e | e | e := holds <;> simp [state, e]
  case unlatchedFault state lean => simp [state, lean.mayLean]
  case going state => obtain e | e := state <;> simp [e]

theorem State.Idles.unmoved {steady : Prop} {s t : State} (h : s.Idles steady) (u : Unmoved steady s t) : t.Idles steady := by
  have stands := u.latch_state
  obtain ⟨m, latch⟩ := u.latch_eq
  obtain ⟨slow, -⟩ := u.conditions
  cases h
  case engaged state permit lean => exact .engaged (stands.trans state) (u.permitReleases.trans permit) (lean.unmoved u)
  case released state engage => exact .released (stands.trans state) (u.mayEngage.trans engage)
  case jammed state holds => exact .jammed (stands.trans state) (by rw [slow, latch]; exact holds)
  case unlatchedFault state lean => exact .unlatchedFault (stands.trans state) (lean.unmoved u)
  case going state => exact .going (by rwa [stands])

/-- An idle latch stands while the part settles. -/
theorem State.Idles.settleN {steady : Prop} {s : State} (h : s.Idles steady) (k : Nat) (instant : s.params.noInstantTrip)
    (phases : s.NotWaiting) (demand : steady → s.Steadied) : Unmoved steady s (s.settleN k) :=
  State.settleN_unmoved k instant phases demand fun _ u => (h.unmoved u).undecided

theorem State.mayEngage_of_apart {s : State} (apart : (s.slow = false ∧ s.grade ≠ .lockdown) ∨
    s.params.uprightWindow < mag s.tilt.meas ∨ s.params.uprightWindow < mag s.solve.phiS) : s.mayEngage = false := by
  obtain ⟨fast, calm⟩ | leans | leans := apart
  · simp [State.mayEngage, fast, calm]
  · simp [State.mayEngage, State.uprightNow, Int.not_le.mpr leans]
  · simp [State.mayEngage, State.uprightNow, Int.not_le.mpr leans]

/-! ## A jam that comes free (R120) -/

/-- JAMMED under the conditions of its way out, or already ENGAGED and at rest there; `l` holds the set and the pulse. -/
structure State.Frees (l : LatchUnit) (s : State) : Prop where
  state : s.latch.state = .jammed ∨ s.latch.state = .engaged
  slow : s.slow = true
  closed : s.latch.closed = true
  pulsing : s.latch.pulsing .release = false
  first : s.latch.first = none
  fast : s.fast = false
  permit : s.permit = false
  set : s.latch.set = l.set
  pulse : s.latch.pulse = l.pulse

theorem State.Frees.decide {l : LatchUnit} {s t : State} (h : s.Frees l) (decided : s.decideLatch = some t) :
    s.latch.state = .jammed ∧ t = s.setLatch .engaged := by
  obtain jam | engaged := h.state
  · rw [State.decideLatch_jammed h.first jam, h.slow, h.closed, h.pulsing] at decided
    exact ⟨jam, (Option.some.inj decided).symm⟩
  · rw [State.decideLatch_engaged_of_noRelease engaged (State.permitReleases_of_absent h.permit)
      (State.mayLean_of_slowness h.fast)] at decided
    cases decided

theorem State.setLatch_speeds (l : LatchState) (s : State) : (s.setLatch l).slow = s.slow ∧ (s.setLatch l).fast = s.fast := by
  have move := State.setLatch_latchMove l s
  exact ⟨by rw [State.slow, move.speed, move.params, State.slow], by rw [State.fast, move.speed, move.params, State.fast]⟩

theorem State.setLatch_permit (l : LatchState) (s : State) : (s.setLatch l).permit = s.permit := by
  rw [State.permit, State.setLatch_latch, State.permit]

theorem State.Frees.freed {l : LatchUnit} {s : State} (h : s.Frees l) : (s.setLatch .engaged).Frees l := by
  have latch := State.setLatch_latch .engaged s
  obtain ⟨slow, fast⟩ := State.setLatch_speeds .engaged s
  refine ⟨.inr (by rw [latch]), slow.trans h.slow, ?_, ?_, ?_, fast.trans h.fast, (State.setLatch_permit _ s).trans h.permit, ?_, ?_⟩ <;>
    rw [latch]
  · exact h.closed
  · exact h.pulsing
  · exact h.first
  · exact h.set
  · exact h.pulse

theorem State.Frees.of_eq {l : LatchUnit} {s t : State} (h : s.Frees l) (speed : t.speed = s.speed := by rfl)
    (params : t.params = s.params := by rfl) (latch : ∃ m, t.latch = { s.latch with uncommanded := m }) : t.Frees l := by
  obtain ⟨m, latch⟩ := latch
  obtain ⟨state, slow, closed, pulsing, first, fast, permit, set, pulse⟩ := h
  refine ⟨?_, ?_, ?_, ?_, ?_, ?_, ?_, ?_, ?_⟩
  · rwa [latch]
  · rwa [State.slow, speed, params]
  · rwa [latch]
  · rwa [latch]
  · rwa [latch]
  · rwa [State.fast, speed, params]
  · rwa [State.permit, latch]
  · rwa [latch]
  · rwa [latch]

theorem State.frees_stable (l : LatchUnit) : Stable False (State.Frees l) where
  inputs s u _ _ _ h := h.of_eq (latch := ⟨s.latch.uncommanded, rfl⟩)
  log s e h := h.of_eq (latch := ⟨s.latch.uncommanded, rfl⟩)
  weigh s h := by
    obtain ⟨b, weighed⟩ := s.weighUncommanded_eq
    rw [weighed]
    exact h.of_eq (latch := ⟨b, rfl⟩)
  decide s t decided h := by
    obtain ⟨-, rfl⟩ := h.decide decided
    exact h.freed

/-- Where it is ENGAGED it stays so. -/
theorem State.freed_stable (l : LatchUnit) : Stable False (fun s => s.Frees l ∧ s.latch.state = .engaged) where
  inputs s u switches trips combined h := ⟨(State.frees_stable l).inputs s u switches trips combined h.1, h.2⟩
  log s e h := ⟨(State.frees_stable l).log s e h.1, h.2⟩
  weigh s h := by
    refine ⟨(State.frees_stable l).weigh s h.1, ?_⟩
    obtain ⟨b, weighed⟩ := s.weighUncommanded_eq
    rw [weighed]
    exact h.2
  decide s t decided h := by
    obtain ⟨jam, -⟩ := h.1.decide decided
    exact nomatch jam.symm.trans h.2

/-- A jam under the conditions of its way out is ENGAGED when the part has settled. -/
theorem State.settleN_frees (k : Nat) {s : State} (instant : s.params.noInstantTrip) (phases : s.NotWaiting)
    (h : s.Frees s.latch) (jam : s.latch.state = .jammed) :
    (s.settleN (k + 1)).Frees s.latch ∧ (s.settleN (k + 1)).latch.state = .engaged ∧
      (s.waitingChanges = [] → LoggedFirst s [.lockState .engaged] (s.settleN (k + 1))) := by
  have handed : s.handOn.Frees s.latch := ((State.frees_stable s.latch).handOnN 32 instant nofun h).1
  obtain ⟨quiet, seated⟩ := State.handOn_calm s instant
  have move := s.handOn.weighUncommanded_latchMove
  have weighed := (State.frees_stable s.latch).weigh _ handed
  have silent (waits : s.waitingChanges = []) : s.handOn.weighUncommanded = s.weighUncommanded :=
    congrArg State.weighUncommanded (State.handOnN_of_nothing_waits 32 waits)
  have instant' : s.handOn.weighUncommanded.params.noInstantTrip := by
    rw [move.params, seated.params]
    exact instant
  have phases' : s.handOn.weighUncommanded.NotWaiting := phases.of_slot (move.slot.trans seated.slot)
  rw [State.settleN]
  generalize s.handOn.weighUncommanded = w at *
  obtain jam' | engaged := weighed.state
  · have decided : w.decideLatch = some (w.setLatch .engaged) := by
      rw [State.decideLatch_jammed weighed.first jam', weighed.slow, weighed.closed, weighed.pulsing]
      rfl
    have move' := State.setLatch_latchMove .engaged w
    rw [decided]
    obtain ⟨frees, state⟩ := (State.freed_stable s.latch).settleN k (move'.params ▸ instant') (phases'.of_slot move'.slot) nofun
      ⟨weighed.freed, by rw [State.setLatch_latch]⟩
    refine ⟨frees, state, fun waits => ?_⟩
    have settled := State.settleN_consequence k (w.setLatch .engaged)
    have log : (w.setLatch .engaged).log = (s.logEvent (.lockState .engaged)).log := by
      rw [State.setLatch_log, silent waits]
      obtain ⟨b, e⟩ := s.weighUncommanded_eq
      rw [e]
      rfl
    have now : w.now = s.now := by rw [silent waits, s.weighUncommanded_latchMove.now]
    exact .of_logEvents (settled.now.trans (move'.now.trans now)) (log ▸ settled.grows.1 :)
  · rw [State.decideLatch_engaged_of_noRelease engaged (State.permitReleases_of_absent weighed.permit)
      (State.mayLean_of_slowness weighed.fast), phases'.ready]
    refine ⟨weighed, engaged, fun waits => ?_⟩
    rw [silent waits] at engaged
    obtain ⟨b, e⟩ := s.weighUncommanded_eq
    rw [e] at engaged
    exact nomatch jam.symm.trans engaged

end Sys2Proof.Machine
end

section
/-! PROOFS. Pulses, windows and the preload run to their end (R113, R114, R117, R120). -/

namespace Sys2Proof.Machine

/-! ## PRELOAD_EXPIRY (R117) -/

theorem exec_preloadExpiry {dt e : Nat} {s : State} (timer : s.latch.preloadEnd = some e) : exec (.preloadExpiry dt) s =
    if s.latch.state = .releasePreload ∧ e ≤ s.now + dt then .next (s.advance dt).endPreload.settle else .next (s.advance dt) := by
  show execPreloadExpiry dt s = _
  unfold execPreloadExpiry
  have due : dueBy (s.advance dt).latch.preloadEnd (s.advance dt).now = decide (e ≤ s.now + dt) := by
    show dueBy s.latch.preloadEnd (s.now + dt) = _
    rw [timer]
    rfl
  dsimp only
  rw [due]
  simp only [Bool.and_eq_true, decide_eq_true_eq]
  rfl

/-- The preload over, with the switch CLOSED and the coil idle: the release set's first attempt is open. -/
theorem State.endPreload_settle {s : State} (idle : s.latch.pulse = none) (closed : s.latch.closed = true)
    (leaning : s.latch.state = .releasePreload) (instant : s.params.noInstantTrip) :
    s.endPreload.settle.latch.state = .releasing ∧ s.endPreload.settle.latch.preloadEnd = none ∧
      s.endPreload.settle.latch.AttemptOpen s.params .release .own s.now ∧
      LoggedFirst s [.lockState .releasing] s.endPreload.settle ∧ s.endPreload.settle.solve = s.solve := by
  have parts := State.endPreload_of_apart idle closed
  have going : s.endPreload.latch.state = .releasing := by
    rw [parts]
    show ((s.setLatchUnit _).setLatch .releasing).latch.state = _
    rw [State.setLatch_latch]
  have move := s.endPreload_latchMove
  have unmoved := State.settle_unmoved_under_way (s := s.endPreload) (by rw [move.params]; exact instant) (.inl going)
  obtain ⟨m, latch⟩ := unmoved.latch_eq
  have settled := State.settle_consequence s.endPreload
  refine ⟨unmoved.latch_state.trans going, ?_, ?_, .of_logEvents (settled.now.trans move.now) ?_, unmoved.solve.trans ?_⟩
  · rw [latch, parts]
    show ((s.setLatchUnit _).setLatch .releasing).latch.preloadEnd = none
    rw [State.setLatch_latch]
    rfl
  · rw [latch, parts]
    exact ⟨rfl, rfl⟩
  · have log : s.endPreload.log = (s.logEvent (.lockState .releasing)).log := by
      rw [parts]
      exact State.setLatch_log .releasing _
    exact (log ▸ settled.grows.1 :)
  · rw [parts]
    refine State.setLatch_solve_of_stays (s := s.setLatchUnit { s.latch with preloadEnd := none }) (l := .releasing) ?_
    show capturesLean s.latch.state .releasing = false
    rw [leaning]
    rfl

/-! ## PULLIN_END and PULSE_END (R113) -/

/-- A command that finds the pulse `q` at its end. -/
def Pulse.EndedBy (q : Pulse) (dt : Nat) (c : Instr) : Prop :=
  (c = .pullinEnd dt ∧ q.phase = .pullIn ∧ q.holdMs = 0) ∨ (c = .pulseEnd dt ∧ q.phase = .hold)

theorem State.pulseDue_of_due {s : State} {q : Pulse} {ph : PulsePhase} (pulse : s.latch.pulse = some q) (phase : q.phase = ph)
    (due : q.phaseEnd ≤ s.now) : s.pulseDue ph = some q := by
  rw [State.pulseDue, pulse, Option.filter_some, if_pos (by simp [phase, due])]

theorem State.pulseDue_of_early {s : State} {q : Pulse} {ph : PulsePhase} (pulse : s.latch.pulse = some q)
    (early : q.phase ≠ ph ∨ s.now < q.phaseEnd) : s.pulseDue ph = none := by
  rw [State.pulseDue, pulse, Option.filter_some, if_neg]
  obtain other | early := early
  · simp [other]
  · simp [Nat.not_le.mpr early]

theorem exec_of_endedBy {q : Pulse} {dt : Nat} {c : Instr} {s : State} (ended : q.EndedBy dt c) (pulse : s.latch.pulse = some q)
    (due : q.phaseEnd ≤ s.now + dt) : exec c s = .next (s.advance dt).pulseOver.settle := by
  obtain ⟨rfl, phase, zero⟩ | ⟨rfl, phase⟩ := ended
  · show execPullinEnd dt s = _
    unfold execPullinEnd
    dsimp only
    rw [State.pulseDue_of_due (s := s.advance dt) pulse phase due]
    exact if_pos zero
  · show execPulseEnd dt s = _
    unfold execPulseEnd
    dsimp only
    rw [State.pulseDue_of_due (s := s.advance dt) pulse phase due]

/-- The latch record when a pulse has left the coil. -/
def LatchUnit.coilFree (l : LatchUnit) : LatchUnit := { l with pulse := none }

theorem State.pulseOver_of_noSet {s : State} (set : s.latch.set = none) : s.pulseOver = s.setLatchUnit s.latch.coilFree := by
  unfold State.pulseOver
  dsimp only
  split
  next => rfl
  next x e => exact nomatch set.symm.trans e

theorem State.pulseOver_of_set {s : State} {x : AttemptSet} (set : s.latch.set = some x) : s.pulseOver =
    match x.stage with
    | .waitCoil => (s.setLatchUnit s.latch.coilFree).openWindow x
    | .waitPulse => (s.setLatchUnit s.latch.coilFree).setSet (some { x with stage := .pause (s.now + 50000) })
    | .window _ => s.setLatchUnit s.latch.coilFree
    | .pause _ => s.setLatchUnit s.latch.coilFree := by
  unfold State.pulseOver
  dsimp only
  split
  next e => exact nomatch set.symm.trans e
  next y e =>
    cases set.symm.trans e
    cases x.stage <;> rfl

/-- Where no pulse waits for the coil, the latch state stands as the pulse leaves it. -/
theorem State.pulseOver_state {s : State} (waits : ∀ x, s.latch.set = some x → x.stage ≠ .waitCoil) :
    s.pulseOver.latch.state = s.latch.state := by
  cases set : s.latch.set with
  | none =>
    rw [State.pulseOver_of_noSet set]
    rfl
  | some x =>
    rw [State.pulseOver_of_set set]
    cases stage : x.stage with
    | waitCoil => exact absurd stage (waits x set)
    | waitPulse => rfl
    | window => rfl
    | pause => rfl

theorem State.pulseOver_phase {s : State} {x : AttemptSet} (set : s.latch.set = some x) :
    ((∃ n, x.stage = .window n ∨ x.stage = .pause n) → s.pulseOver.latch.pulse = none ∧ s.pulseOver.latch.set = some x) ∧
      (x.stage = .waitPulse → s.pulseOver.latch.pulse = none ∧
        s.pulseOver.latch.set = some { x with stage := .pause (s.now + 50000) }) := by
  rw [State.pulseOver_of_set set]
  refine ⟨fun ⟨n, stage⟩ => ?_, fun stage => ?_⟩
  · obtain e | e := stage <;> rw [e] <;> exact ⟨rfl, set⟩
  · rw [stage]
    exact ⟨rfl, rfl⟩

/-- A pulse that waited for the coil starts as it comes free (R113). -/
theorem State.pulseOver_waitCoil {s : State} {x : AttemptSet} (set : s.latch.set = some x) (waits : x.stage = .waitCoil)
    (apart : s.latch.closed ≠ x.direction.target) :
    s.pulseOver = s.setLatchUnit (s.latch.coilFree.opened s.params x s.now) := by
  rw [State.pulseOver_of_set set, waits]
  exact State.openWindow_of_apart (s := s.setLatchUnit s.latch.coilFree) apart

/-! ## With no set, the latch state that stands (R116, R119 to R121) -/

/-- A latch that no rule moves when a pulse ends (R116, R119, R120, R121, R124). -/
theorem State.idles_of_noSet {s : State}
    (rests : (s.latch.state = .engaged ∧ s.fast = false ∧ s.permit = false) ∨
      (s.latch.state = .released ∧ ((s.slow = false ∧ s.grade ≠ .lockdown) ∨
        s.params.uprightWindow < mag s.tilt.meas ∨ s.params.uprightWindow < mag s.solve.phiS)) ∨
      (s.latch.state = .unlatchedFault ∧ s.fast = false) ∨ (s.latch.state = .jammed ∧ s.slow = false)) : s.Idles False := by
  obtain ⟨state, fast, permit⟩ | ⟨state, apart⟩ | ⟨state, fast⟩ | ⟨state, slow⟩ := rests
  · exact .engaged state (State.permitReleases_of_absent permit) (.slow fast)
  · exact .released state (State.mayEngage_of_apart apart)
  · exact .unlatchedFault state (.slow fast)
  · exact .jammed state (.inl slow)

/-- Settles O46. -/
theorem pulsesRunToTheirEnd : Obligations.PulsesRunToTheirEnd := by
  refine ⟨fun dt e s timer => ⟨fun leaning due closed idle instant => ?_, fun early => ?_⟩, fun dt q s pulse => ⟨fun phase due holds => ?_,
    fun c ended due going => ?_, fun c ended due set instant phases => ?_, fun x c ended due set waits going apart => ?_,
    fun early => ?_, fun early => ?_⟩⟩
  · obtain ⟨state, preload, ⟨pulse, set⟩, logged, solve⟩ := State.endPreload_settle (s := s.advance dt) idle closed leaning instant
    have consequence := (State.endPreload_consequence (s.advance dt)).trans (State.settle_consequence _)
    exact ⟨_, (exec_preloadExpiry timer).trans (if_pos ⟨leaning, due⟩), state, preload, pulse, set, logged, congrArg SolveUnit.phiS solve,
      congrArg SolveUnit.captured solve, consequence⟩
  · exact (exec_preloadExpiry timer).trans (if_neg fun ⟨leaning, due⟩ => early.elim (fun h => h leaning) (Nat.not_lt.mpr due))
  · show execPullinEnd dt s = _
    unfold execPullinEnd
    dsimp only
    rw [State.pulseDue_of_due (s := s.advance dt) pulse phase due]
    exact if_neg holds
  · have runs := State.settleN_setRuns 8 (s.advance dt).pulseOver
    have consequence := (State.pulseOver_latchMove (s.advance dt)).consequence.trans (State.settle_consequence _)
    refine ⟨_, exec_of_endedBy ended pulse due, consequence, fun set => ?_, fun x set => ⟨fun coil => ?_, fun stage => ?_, fun stage => ?_⟩⟩
    · have parts := State.pulseOver_of_noSet (s := s.advance dt) set
      rw [parts] at runs ⊢
      obtain ⟨state', set', pulse'⟩ := runs.stands going
      exact ⟨pulse', set'.trans set, state'⟩
    · have state := State.pulseOver_state (s := s.advance dt) fun y e => by
        cases set.symm.trans e
        exact coil
      obtain ⟨state', -⟩ := runs.stands (by rw [state]; exact going)
      exact state'.trans state
    · have state := State.pulseOver_state (s := s.advance dt) fun y e coil => by
        cases set.symm.trans e
        obtain ⟨n, e | e⟩ := stage <;> exact nomatch e.symm.trans coil
      obtain ⟨-, set', pulse'⟩ := runs.stands (by rw [state]; exact going)
      obtain ⟨pulse'', set''⟩ := (State.pulseOver_phase (s := s.advance dt) set).1 stage
      exact ⟨pulse'.trans pulse'', set'.trans set''⟩
    · have state := State.pulseOver_state (s := s.advance dt) fun y e coil => by
        cases set.symm.trans e
        exact nomatch stage.symm.trans coil
      obtain ⟨-, set', pulse'⟩ := runs.stands (by rw [state]; exact going)
      obtain ⟨pulse'', set''⟩ := (State.pulseOver_phase (s := s.advance dt) set).2 stage
      exact ⟨pulse'.trans pulse'', set'.trans set''⟩
  · have parts := State.pulseOver_of_noSet (s := s.advance dt) set
    have consequence := (State.pulseOver_latchMove (s.advance dt)).consequence.trans (State.settle_consequence _)
    refine ⟨_, exec_of_endedBy ended pulse due, consequence, fun rests => ?_, fun jam slow closed first fast permit => ?_⟩
    · rw [parts]
      have idles := State.idles_of_noSet (s := (s.advance dt).setLatchUnit s.latch.coilFree) rests
      have unmoved := idles.settleN 8 instant phases nofun
      obtain ⟨state', set', pulse'⟩ := unmoved.latch
      exact ⟨pulse', set'.trans set, state'⟩
    · rw [parts]
      have frees : ((s.advance dt).setLatchUnit s.latch.coilFree).Frees s.latch.coilFree :=
        ⟨.inl jam, slow, closed, rfl, first, fast, permit, rfl, rfl⟩
      obtain ⟨freed, state', logged⟩ := State.settleN_frees 7
        (s := (s.advance dt).setLatchUnit s.latch.coilFree) instant phases frees jam
      refine ⟨freed.pulse, freed.set.trans set, state', fun waits => ?_⟩
      exact logged (State.waitingChanges_congr waits rfl rfl rfl rfl rfl rfl)
  · have parts := State.pulseOver_waitCoil (s := s.advance dt) set waits apart
    have runs := State.settleN_setRuns 8 (s.advance dt).pulseOver
    rw [parts] at runs
    obtain ⟨-, set', pulse'⟩ := runs.stands going
    refine ⟨_, exec_of_endedBy ended pulse due, ?_, ?_, ?_⟩ <;> rw [parts]
    · exact set'
    · exact congrArg (Option.map Pulse.phaseEnd) pulse'
    · exact congrArg (Option.map Pulse.direction) pulse'
  · show execPullinEnd dt s = _
    unfold execPullinEnd
    dsimp only
    rw [State.pulseDue_of_early (s := s.advance dt) pulse early]
  · show execPulseEnd dt s = _
    unfold execPulseEnd
    dsimp only
    rw [State.pulseDue_of_early (s := s.advance dt) pulse early]

end Sys2Proof.Machine
end

section
/-! PROOFS. FIRST_CONFIRM_DEBOUNCE (R130). -/

namespace Sys2Proof.Machine

/-! ## Ends of sessions and of the hold -/

theorem Consequence.uprightWindow {s t : State} (c : Consequence s t) : t.params.uprightWindow = s.params.uprightWindow :=
  (congrArg Params.uprightWindow c.settings :)

/-- With no PERMIT, an end of a hold brings none (R124). -/
theorem PermitsEnd.permit {s t : State} (h : PermitsEnd s t) (absent : s.permit = false) : t.permit = false := by
  simp only [State.permit, Bool.or_eq_false_iff, decide_eq_false_iff_not] at absent ⊢
  obtain ⟨a, b⟩ := absent
  exact ⟨h.absent (p := .a) a, h.absent (p := .b) b⟩

theorem State.endPermit_slot (p : Port) (s : State) : (s.endPermit p).slot = s.slot := by
  obtain ⟨l, -, e⟩ := s.endPermit_eq p
  rw [e]
  rfl

theorem State.endPermit_tilt (p : Port) (s : State) : (s.endPermit p).tilt = s.tilt := by
  obtain ⟨l, -, e⟩ := s.endPermit_eq p
  rw [e]
  rfl

/-- No phase that waits for the latch is left where a session has been aborted. -/
theorem State.abortSession_notWaiting {s : State} (phases : s.NotWaiting) : s.abortSession.NotWaiting := by
  unfold State.abortSession
  split
  · exact notWaiting_of_free rfl
  · exact notWaiting_of_free rfl
  · exact phases
  · exact phases

theorem State.dropHold_notWaiting {s : State} (phases : s.NotWaiting) (reason : EndReason) : (s.dropHold reason).NotWaiting := by
  unfold State.dropHold
  split
  · exact phases
  · unfold State.endHoldCore
    exact (State.abortSession_notWaiting (s := (s.logEvent (.holdEnd reason)).setPath .empty) phases).of_slot (State.endPermit_slot _ _)

theorem State.setDrive_off {s : State} (off : s.tilt.drive = 0) (x : Axis) : (s.setDrive x 0).tilt.drive = 0 := by
  cases x
  · rfl
  · exact off

theorem State.leaveSession_off {s : State} (off : s.tilt.drive = 0) (x : Axis) : (s.leaveSession x).tilt.drive = 0 := by
  cases x
  · rfl
  · exact off

theorem State.setResult_drive (x : Axis) (r : ResultRec) (s : State) : (s.setResult x r).tilt.drive = s.tilt.drive := by
  cases x <;> rfl

theorem State.closeRoutine_off {s : State} (off : s.tilt.drive = 0) (r : Routine) (o : RoutineOutcome) :
    (s.closeRoutine r o).tilt.drive = 0 := by
  unfold State.closeRoutine
  exact State.leaveSession_off (s := (s.setResult r.axis _).logEvent _) ((State.setResult_drive r.axis _ s).trans off) r.axis

/-- A tilt drive that is off stays off as a session is aborted. -/
theorem State.abortSession_off {s : State} (off : s.tilt.drive = 0) : s.abortSession.tilt.drive = 0 := by
  unfold State.abortSession
  split
  · rw [State.finishRoutine_eq, if_neg nofun]
    exact State.closeRoutine_off (State.setDrive_off off _) _ _
  · exact State.leaveSession_off (State.setDrive_off off _) _
  · exact off
  · exact off

theorem State.dropHold_off {s : State} (off : s.tilt.drive = 0) (reason : EndReason) : (s.dropHold reason).tilt.drive = 0 := by
  unfold State.dropHold
  split
  · exact off
  · unfold State.endHoldCore
    dsimp only
    rw [State.endPermit_tilt]
    exact State.abortSession_off (s := (s.logEvent (.holdEnd reason)).setPath .empty) off

theorem State.dropHold_state (reason : EndReason) (s : State) : (s.dropHold reason).latch.state = s.latch.state :=
  congrArg Prod.fst (s.dropHold_underWay reason)

/-! ## A latch that whatever follows leaves where it is -/

/-- ENGAGED, slow enough not to lean, without a PERMIT; where `off`, with the tilt drive off (R91, R116, R124). -/
structure State.Locked (off : Prop) (s : State) : Prop where
  state : s.latch.state = .engaged
  fast : s.fast = false
  permit : s.permit = false
  phases : s.NotWaiting
  drive : off → s.tilt.drive = 0

theorem State.Locked.undecided {off : Prop} {s : State} (h : s.Locked off) : s.decideLatch = none :=
  State.decideLatch_engaged_of_noRelease h.state (State.permitReleases_of_absent h.permit) (State.mayLean_of_slowness h.fast)

theorem locked_lasting (off : Prop) : Lasting (State.Locked off) where
  inputs _ _ h := ⟨h.state, h.fast, h.permit, h.phases, h.drive⟩
  log _ _ h := ⟨h.state, h.fast, h.permit, h.phases, h.drive⟩
  weigh s h := by
    obtain ⟨b, weighed⟩ := s.weighUncommanded_eq
    rw [weighed]
    exact ⟨h.state, h.fast, h.permit, h.phases, h.drive⟩
  decide s t decided h := by
    rw [h.undecided] at decided
    cases decided
  session s h :=
    { state := (congrArg LatchUnit.state s.abortSession_latch).trans h.state
      fast := s.abortSession_consequence.fast.trans h.fast
      permit := (PermitsEnd.of s.abortSession_latch).permit h.permit
      phases := State.abortSession_notWaiting h.phases
      drive := fun o => State.abortSession_off (h.drive o) }
  hold s reason h :=
    { state := (s.dropHold_state reason).trans h.state
      fast := (s.dropHold_consequence reason).fast.trans h.fast
      permit := (s.dropHold_permitsEnd reason).permit h.permit
      phases := State.dropHold_notWaiting h.phases reason
      drive := fun o => State.dropHold_off (h.drive o) reason }

/-- RELEASED, with the tilt axis leaning (R119). -/
structure State.Leaning (s : State) : Prop where
  state : s.latch.state = .released
  leans : s.params.uprightWindow < mag s.tilt.meas
  phases : s.NotWaiting

theorem State.Leaning.undecided {s : State} (h : s.Leaning) : s.decideLatch = none := by
  rw [State.decideLatch_eq_none_iff, State.decides, h.state, State.mayEngage_of_apart (.inr (.inl h.leans))]
  simp

theorem Consequence.leans {s t : State} (c : Consequence s t) (leans : s.params.uprightWindow < mag s.tilt.meas) :
    t.params.uprightWindow < mag t.tilt.meas := by
  have meas : t.tilt.meas = s.tilt.meas := c.axis_meas .tilt
  rwa [c.uprightWindow, meas]

theorem leaning_lasting : Lasting State.Leaning where
  inputs _ _ h := ⟨h.state, h.leans, h.phases⟩
  log _ _ h := ⟨h.state, h.leans, h.phases⟩
  weigh s h := by
    obtain ⟨b, weighed⟩ := s.weighUncommanded_eq
    rw [weighed]
    exact ⟨h.state, h.leans, h.phases⟩
  decide s t decided h := by
    rw [h.undecided] at decided
    cases decided
  session s h := ⟨(congrArg LatchUnit.state s.abortSession_latch).trans h.state, s.abortSession_consequence.leans h.leans,
    State.abortSession_notWaiting h.phases⟩
  hold s reason h := ⟨(s.dropHold_state reason).trans h.state, (s.dropHold_consequence reason).leans h.leans,
    State.dropHold_notWaiting h.phases reason⟩

/-! ## The first latch state (R130) -/

/-- The state as the first debounce is over, before the latch has its state. -/
def State.firstOver (closed : Bool) (s : State) : State :=
  s.setLatchUnit { s.latch with first := none, closed := closed, differSince := none }

theorem State.firstLatch_eq (closed : Bool) (s : State) : s.firstLatch closed =
    (((s.firstOver closed).takeLatch (if closed then .engaged else .released)).askWaiting).settle := rfl

theorem State.askWaiting_of_notWaiting {s : State} (phases : s.NotWaiting) : s.askWaiting = s := by
  unfold State.askWaiting
  split
  next r slot =>
    obtain held | awaits := phases r slot
    · exact if_pos (Option.isSome_iff_ne_none.mpr held)
    · split
      · rfl
      · rw [if_neg (fun e => by rw [e] at awaits; cases awaits), if_neg (fun e => by rw [e] at awaits; cases awaits)]
  next => rfl
  next => rfl
  next => rfl

theorem State.askWaiting_release {s : State} {r : Routine} (slot : s.slot = .routine r) (runs : r.held = none)
    (phase : r.phase = .release) : s.askWaiting = s.askSet .release := by
  rw [State.askWaiting, slot]
  simp [runs, phase]

/-- CLOSED, slow and without a PERMIT the latch is ENGAGED, and its tilt drive off in TRACK (R91, R130). -/
theorem State.firstLatch_locked {s : State} (fast : s.fast = false) (permit : s.permit = false) (phases : s.NotWaiting) :
    (s.firstLatch true).Locked (s.tilt.mode = .track) := by
  have move := (s.firstOver true).takeLatch_latchMove .engaged
  have latch := (s.firstOver true).takeLatch_latch .engaged
  have phases' : ((s.firstOver true).takeLatch .engaged).NotWaiting := phases.of_slot move.slot
  rw [State.firstLatch_eq]
  show (((s.firstOver true).takeLatch .engaged).askWaiting.settle).Locked _
  rw [State.askWaiting_of_notWaiting phases']
  refine (locked_lasting _).settleN (fun t h => h.phases.ready) 8 ⟨by rw [latch], move.consequence.fast.trans fast, ?_, phases', fun track => ?_⟩
  · rw [State.permit, latch]
    exact permit
  · rw [State.takeLatch_tilt, AxisCtl.latchClosed, if_pos (by simp [State.firstOver, track])]

/-- OPEN and leaning it is RELEASED (R119, R130). -/
theorem State.firstLatch_leaning {s : State} (leans : s.params.uprightWindow < mag s.tilt.meas) (phases : s.NotWaiting) :
    (s.firstLatch false).Leaning := by
  have move := (s.firstOver false).takeLatch_latchMove .released
  have phases' : ((s.firstOver false).takeLatch .released).NotWaiting := phases.of_slot move.slot
  rw [State.firstLatch_eq]
  show (((s.firstOver false).takeLatch .released).askWaiting.settle).Leaning
  rw [State.askWaiting_of_notWaiting phases']
  exact leaning_lasting.settleN (fun t h => h.phases.ready) 8
    ⟨by rw [State.takeLatch_latch], move.consequence.leans leans, phases'⟩

/-- A RELEASE phase that waited asks for its set (R98, R130). -/
theorem State.firstLatch_asks {s : State} {r : Routine} (slot : s.slot = .routine r) (runs : r.held = none)
    (phase : r.phase = .release) (idle : s.latch.set = none) : (s.firstLatch true).latch.state = .releasing := by
  have move := (s.firstOver true).takeLatch_latchMove .engaged
  have latch := (s.firstOver true).takeLatch_latch .engaged
  rw [State.firstLatch_eq]
  show (((s.firstOver true).takeLatch .engaged).askWaiting.settle).latch.state = _
  rw [State.askWaiting_release (move.slot.trans slot) runs phase,
    State.askSet_release (by rw [latch]; exact nofun) (by rw [latch]; exact idle) (by rw [latch]; rfl)]
  have going := State.beginDirectRelease_state (o := .routine) (s := (s.firstOver true).takeLatch .engaged) (by rw [latch]; rfl)
  obtain ⟨state, -⟩ := (State.settleN_setRuns 8 (((s.firstOver true).takeLatch .engaged).beginDirectRelease .routine)).stands (.inl going)
  exact state.trans going

theorem State.firstLatch_consequence (closed : Bool) (s : State) : Consequence (s.firstOver closed) (s.firstLatch closed) :=
  (((s.firstOver closed).takeLatch_latchMove _).trans (State.askWaiting_latchMove _)).consequence.trans (State.settle_consequence _)

theorem exec_firstConfirmDebounce {dt : Nat} {closed : Bool} {x : FirstDebounce} {s : State} (first : s.latch.first = some x) :
    exec (.firstConfirmDebounce dt closed) s = .next (((s.advance dt).setConfirmPin closed).firstSample x closed) := by
  show execFirstConfirmDebounce dt closed s = _
  unfold execFirstConfirmDebounce
  dsimp only
  split
  next e => exact nomatch first.symm.trans e
  next y e => cases first.symm.trans e; rfl

/-- Settles O13. -/
theorem firstConfirmDebounceGivesTheLatchState : Obligations.FirstConfirmDebounceGivesTheLatchState := by
  intro dt closed x s first
  have run := exec_firstConfirmDebounce (dt := dt) (closed := closed) first
  refine ⟨fun same due => ?_, fun same early => ?_, fun differs => ?_⟩
  · set b := (s.advance dt).setConfirmPin closed
    have sampled : b.firstSample x closed = b.firstLatch closed := (if_neg (not_not.mpr same)).trans (if_pos due)
    have consequence := b.firstLatch_consequence closed
    obtain ⟨pending, pins, portA, portB, store⟩ := consequence.outside
    obtain ⟨closed', -, first', -⟩ := consequence.latchClock
    rw [sampled] at run
    refine ⟨_, run, first', closed', pins, portA, portB, store, consequence.targets, consequence.rider, consequence.angles,
      consequence.switches, consequence.settings, consequence.grows, fun shut fast permit phases => ?_, fun openLevel leans phases => ?_,
      fun r slot runs phase shut idle => ?_⟩
    · have locked := State.firstLatch_locked (s := b) fast permit phases
      rw [← shut] at locked
      exact ⟨locked.state, locked.drive⟩
    · have leaning := State.firstLatch_leaning (s := b) leans phases
      rw [← openLevel] at leaning
      exact leaning.state
    · have asked := State.firstLatch_asks (s := b) slot runs phase idle
      rwa [← shut] at asked
  · exact run.trans (congrArg _ ((if_neg (not_not.mpr same)).trans (if_neg (Nat.not_le.mpr early))))
  · exact run.trans (congrArg _ (if_pos differs))

end Sys2Proof.Machine
end

section
/-! PROOFS. What an edge of the confirm switch does to the latch (R112, R114, R115, R120 to R122). -/

namespace Sys2Proof.Machine

/-! ## The mark of an uncommanded closing (R122) -/

theorem State.setLatch_uncommanded (l : LatchState) (s : State) : (s.setLatch l).latch.uncommanded = false := by
  rw [State.setLatch_latch]

theorem State.startAttempt_uncommanded {s : State} (clear : s.latch.uncommanded = false) (x : AttemptSet) :
    (s.startAttempt x).latch.uncommanded = false := by
  by_cases idle : s.latch.pulse = none
  · rw [State.startAttempt_of_idle idle]
    by_cases there : s.latch.closed = x.direction.target
    · rw [State.openWindow_of_reached there, State.succeedSet_latch]
    · rw [State.openWindow_of_apart there]
      exact clear
  · rw [State.startAttempt_of_pulse idle]
    exact clear

theorem State.endPreload_uncommanded (s : State) : s.endPreload.latch.uncommanded = false :=
  State.startAttempt_uncommanded (State.setLatch_uncommanded .releasing _) _

/-- After a decision no uncommanded closing is weighed. -/
theorem State.decideLatch_uncommanded {s t : State} (decided : s.decideLatch = some t) : t.latch.uncommanded = false := by
  obtain rfl | rfl | rfl | rfl | ⟨l, rfl⟩ := State.decideLatch_cases decided
  · exact State.startAttempt_uncommanded (State.setLatch_uncommanded .releasing _) _
  · unfold State.beginRelease
    dsimp only
    split
    · exact State.endPreload_uncommanded _
    · exact State.setLatch_uncommanded .releasePreload s
  · exact State.setLatch_uncommanded .engaged _
  · exact State.startAttempt_uncommanded (State.setLatch_uncommanded .engaging s) _
  · exact State.setLatch_uncommanded l s

/-- Hearing of a change of R116's conditions ends the mark (R122). -/
theorem State.hearLatch_uncommanded {s : State} (lean : s.mayLean = false) : s.hearLatch.latch.uncommanded = false := by
  have weighed : s.weighUncommanded.latch.uncommanded = false := by
    unfold State.weighUncommanded
    split
    next => rfl
    next stays => simpa [lean] using stays
  unfold State.hearLatch
  show (s.weighUncommanded.decideLatch.getD s.weighUncommanded).latch.uncommanded = false
  cases decided : s.weighUncommanded.decideLatch
  case none => exact weighed
  case some t => exact State.decideLatch_uncommanded decided

/-! ## What a move of the latch controller leaves weighing -/

theorem LatchMove.weighs {s t : State} (h : LatchMove s t) :
    t.fast = s.fast ∧ t.slow = s.slow ∧ t.permit = s.permit ∧ t.grade = s.grade := by
  refine ⟨h.consequence.fast, ?_, ?_, ?_⟩
  · rw [State.slow, h.speed, h.params, State.slow]
  · rw [State.permit, h.itemA, h.itemB, State.permit]
  · rw [State.grade, h.trips, State.grade]

/-- The demand stands where what it rests on stands. -/
theorem State.Steadied.of_same {s t : State} (h : s.Steadied) (inputs : t.inputs = s.inputs := by rfl)
    (speed : t.speed = s.speed := by rfl) (params : t.params = s.params := by rfl)
    (hold : t.auth.hold.isSome = s.auth.hold.isSome := by rfl) (tilt : t.tilt.meas = s.tilt.meas := by rfl) : t.Steadied := by
  refine h.imp (params ▸ id) fun fixed => fixed.of_eq (inputs ▸ fixed.changes) (fun _ => by rw [inputs]) speed params hold tilt
    (fun _ _ => by rw [inputs]) fun _ => by rw [inputs]

theorem Unmoved.mayLean {s t : State} (h : Unmoved True s t) : t.mayLean = s.mayLean := by
  obtain ⟨-, -, tilt, -, grade, -⟩ := h.weighs
  obtain ⟨-, fast, -, -, -, -, -, demand⟩ := h.conditions
  rw [State.mayLean, fast, tilt, grade, demand trivial, State.mayLean]

/-! ## A closing that nobody asked for (R122) -/

/-- ENGAGED by an uncommanded closing: the mark stands while the conditions of R116 do. -/
structure State.Marked (w t : State) : Prop where
  unmoved : Unmoved True w t
  mark : w.ownRules = true → w.mayLean = true → t.latch.uncommanded = true

theorem State.Marked.undecided {w t : State} (h : w.Marked t) (state : w.latch.state = .engaged) (permit : w.permit = false) :
    t.decideLatch = none := by
  obtain ⟨-, -, -, -, -, -, own, -⟩ := h.unmoved.conditions
  rw [State.decideLatch_eq_none_iff, State.decides, h.unmoved.latch_state.trans state, h.unmoved.permitReleases,
    State.permitReleases_of_absent permit, own, h.unmoved.mayLean]
  cases rules : w.ownRules
  · simp
  · cases lean : w.mayLean
    · simp
    · simp [h.mark rules lean]

theorem State.marked_stable {w : State} (state : w.latch.state = .engaged) (permit : w.permit = false) : Stable True w.Marked where
  inputs t u switches trips combined h := ⟨h.unmoved.setInputs switches trips combined, h.mark⟩
  log t e h := ⟨h.unmoved.logEvent e, h.mark⟩
  weigh t h := by
    refine ⟨h.unmoved.weigh, fun rules lean => ?_⟩
    obtain ⟨-, -, -, -, -, -, own, -⟩ := h.unmoved.conditions
    have stays : t.weighUncommanded = t := by
      refine if_neg ?_
      rw [own, h.unmoved.mayLean, rules, lean]
      simp
    rw [stays]
    exact h.mark rules lean
  decide t u decided h := by
    rw [h.undecided state permit] at decided
    cases decided

/-- A marked closing stays ENGAGED, at speed too. -/
theorem State.settle_marked {w : State} (state : w.latch.state = .engaged) (permit : w.permit = false)
    (mark : w.latch.uncommanded = true) (instant : w.params.noInstantTrip) (phases : w.NotWaiting) (demand : w.Steadied) :
    Unmoved True w w.settle :=
  ((State.marked_stable state permit).settleN 8 instant phases (fun _ => demand) ⟨.refl _ w, fun _ _ => mark⟩).unmoved

/-! ## An edge within a set (R114, R115) -/

/-- The confirm level has taken a value (R112). -/
def State.edged (c : Bool) (s : State) : State := s.setLatchUnit { s.latch with closed := c, differSince := none }

theorem State.confirmChanged_of_target {s : State} {x : AttemptSet} {c : Bool} (set : s.latch.set = some x)
    (target : c = x.direction.target) : s.confirmChanged c = (s.edged c).edgeInSet x := by
  unfold State.confirmChanged
  dsimp only
  split
  next y e =>
    cases set.symm.trans e
    exact if_pos target
  next e => exact nomatch set.symm.trans e

/-- An edge away from the target, or before the pulse has the coil, leaves set and state alone. -/
theorem State.confirmChanged_of_apart {s : State} {x : AttemptSet} {c : Bool} (set : s.latch.set = some x)
    (apart : x.stage = .waitCoil ∨ c ≠ x.direction.target) : s.confirmChanged c = s.edged c := by
  by_cases target : c = x.direction.target
  · rw [State.confirmChanged_of_target set target, State.edgeInSet, apart.resolve_right (not_not.mpr target)]
  · unfold State.confirmChanged
    dsimp only
    split
    next y e =>
      cases set.symm.trans e
      exact if_neg target
    next e => exact nomatch set.symm.trans e

theorem State.confirmChanged_of_noSet {s : State} (set : s.latch.set = none) (c : Bool) :
    s.confirmChanged c = if c then (s.edged c).confirmClosed else (s.edged c).confirmOpened := by
  unfold State.confirmChanged
  dsimp only
  split
  next y e => exact nomatch set.symm.trans e
  next => rfl

theorem State.edgeInSet_window {s : State} {x : AttemptSet} {n : Nat} (stage : x.stage = .window n) :
    s.edgeInSet x = s.succeedSet x.direction := by rw [State.edgeInSet, stage]

theorem State.edgeInSet_late {s : State} {x : AttemptSet} (stage : x.stage = .waitPulse ∨ ∃ n, x.stage = .pause n) :
    s.edgeInSet x = (s.succeedSet x.direction).logEvent (.lockLate x.direction.reached) := by
  obtain e | ⟨n, e⟩ := stage <;> rw [State.edgeInSet, e]

theorem State.edgeInSet_latch {s : State} {x : AttemptSet} (stage : x.stage ≠ .waitCoil) :
    (s.edgeInSet x).latch.state = x.direction.reached ∧ (s.edgeInSet x).latch.set = none := by
  have succeeds : (s.succeedSet x.direction).latch.state = x.direction.reached ∧ (s.succeedSet x.direction).latch.set = none := by
    rw [State.succeedSet_latch]
    exact ⟨rfl, rfl⟩
  cases e : x.stage
  case waitCoil => exact absurd e stage
  case window n =>
    rw [State.edgeInSet_window e]
    exact succeeds
  case waitPulse =>
    rw [State.edgeInSet_late (.inl e)]
    exact succeeds
  case pause n =>
    rw [State.edgeInSet_late (.inr ⟨n, e⟩)]
    exact succeeds

/-! ## Slips (R122, R102) -/

/-- The latch in UNLATCHED_FAULT with its LOCK_FAULT (SLIP) logged. -/
def State.slipped (s : State) : State :=
  ((s.setLatchUnit { s.latch with preloadEnd := none }).setLatch .unlatchedFault).logEvent (.lockFault .slip)

theorem State.slipped_latchMove (s : State) : LatchMove s s.slipped :=
  .trans (.trans (t := s.setLatchUnit { s.latch with preloadEnd := none }) .of (State.setLatch_latchMove _ _))
    (State.logEvent_latchMove _ _)

theorem State.slipped_latch (s : State) :
    s.slipped.latch = { s.latch with preloadEnd := none, state := .unlatchedFault, uncommanded := false } :=
  State.setLatch_latch .unlatchedFault _

/-- A second record behind the one that a move of the latch controller logs. -/
theorem LatchMove.logEvent_log {s t : State} {e : Event} (move : LatchMove s t) (log : t.log = (s.logEvent e).log) (f : Event) :
    (t.logEvent f).log = (s.logEvents [e, f]).log := by
  show t.log.append _ t.params.attnMaskA t.params.attnMaskB = _
  rw [log, move.params, move.now]
  rfl

theorem State.slipped_log (s : State) : s.slipped.log = (s.logEvents [.lockState .unlatchedFault, .lockFault .slip]).log := by
  have move : LatchMove s (s.setLatchUnit { s.latch with preloadEnd := none }) := .of
  exact (move.trans (State.setLatch_latchMove .unlatchedFault _)).logEvent_log (State.setLatch_log ..) (.lockFault .slip)

/-- A slip ends a LOCK_TEST, and nothing else. -/
theorem State.slip_cases (s : State) : s.slip = s.slipped ∨ ∃ r, s.slip = s.slipped.finishRoutine r .failSlip false := by
  unfold State.slip
  dsimp only
  split
  next r _ =>
    split
    · exact .inr ⟨_, rfl⟩
    · exact .inl rfl
  next => exact .inl rfl
  next => exact .inl rfl
  next => exact .inl rfl

theorem State.slip_spec (s : State) : Consequence s.slipped s.slip ∧ s.slip.latch = s.slipped.latch ∧
    (s.NotWaiting → s.slip.NotWaiting) := by
  obtain e | ⟨r, e⟩ := s.slip_cases <;> rw [e]
  · exact ⟨.refl _, rfl, fun phases => phases.of_slot s.slipped_latchMove.slot⟩
  · exact ⟨State.finishRoutine_consequence .., State.finishRoutine_latch .., fun _ => notWaiting_of_free rfl⟩

theorem State.slip_consequence (s : State) : Consequence s s.slip := s.slipped_latchMove.consequence.trans s.slip_spec.1

/-- A slip is the first that is logged, and the latch stays in UNLATCHED_FAULT where it is too slow to lean. -/
theorem State.slip_settle (s : State) :
    LoggedFirst s [.lockState .unlatchedFault, .lockFault .slip] s.slip.settle ∧
      (s.params.noInstantTrip → s.NotWaiting → s.fast = false → s.latch.set = none →
        s.slip.settle.latch.state = .unlatchedFault ∧ s.slip.settle.latch.set = none ∧ s.slip.settle.latch.preloadEnd = none) := by
  obtain ⟨consequence, latch, phases'⟩ := s.slip_spec
  have slipped := s.slipped_latch
  have all := s.slip_consequence
  have settled := State.settle_consequence s.slip
  refine ⟨.of_logEvents (settled.now.trans all.now) ?_, fun instant phases fast set => ?_⟩
  · rw [← s.slipped_log]
    exact consequence.grows.1.trans settled.grows.1
  · have idles : s.slip.Idles False := .unlatchedFault (by rw [latch, slipped]) (.slow (all.fast.trans fast))
    have unmoved := idles.settleN 8 (SameSettings.noInstantTrip all.settings instant) (phases' phases) nofun
    obtain ⟨m, e⟩ := unmoved.latch_eq
    show (s.slip.settleN 8).latch.state = _ ∧ (s.slip.settleN 8).latch.set = _ ∧ (s.slip.settleN 8).latch.preloadEnd = _
    rw [e, latch, slipped]
    exact ⟨rfl, set, rfl⟩

end Sys2Proof.Machine
end

section
/-! PROOFS. CONFIRM_EDGE (R112, R114, R115, R120 to R122, R98). -/

namespace Sys2Proof.Machine

/-- What has been logged stands first through the settling that follows. -/
theorem LoggedFirst.settle {s w : State} {es : List Event} (log : w.log = (s.logEvents es).log) (now : w.now = s.now) :
    LoggedFirst s es w.settle :=
  .of_logEvents ((State.settle_consequence w).now.trans now) (log ▸ (State.settle_consequence w).grows.1)

/-! ## At the target of a set (R114, R115) -/

theorem State.edgeInSet_window_logged {s : State} {x : AttemptSet} {n : Nat} (stage : x.stage = .window n) :
    LoggedFirst s [.lockState x.direction.reached] (s.edgeInSet x).settle :=
  .settle (by rw [State.edgeInSet_window stage]; exact State.succeedSet_log ..) (s.edgeInSet_latchMove x).now

theorem State.edgeInSet_late_logged {s : State} {x : AttemptSet} (stage : x.stage = .waitPulse ∨ ∃ n, x.stage = .pause n) :
    LoggedFirst s [.lockState x.direction.reached, .lockLate x.direction.reached] (s.edgeInSet x).settle := by
  refine .settle ?_ (s.edgeInSet_latchMove x).now
  rw [State.edgeInSet_late stage]
  exact (State.succeedSet_latchMove x.direction s).logEvent_log (State.succeedSet_log ..) _

/-- ENGAGED, too slow to lean and without a PERMIT, or RELEASED and not to be engaged, the latch stays while it settles. -/
theorem State.settle_reached {s w : State} {d : Direction} (move : LatchMove s w) (state : w.latch.state = d.reached)
    (set : w.latch.set = none) (instant : s.params.noInstantTrip) (phases : s.NotWaiting)
    (engaged : d = .engage → s.fast = false ∧ s.permit = false)
    (released : d = .release → s.params.uprightWindow < mag s.tilt.meas ∨ (s.slow = false ∧ s.grade ≠ .lockdown)) :
    w.settle.latch.state = d.reached ∧ w.settle.latch.set = none := by
  obtain ⟨fast, slow, permit, grade⟩ := move.weighs
  have idles : w.Idles False := by
    cases d
    case engage =>
      obtain ⟨still, absent⟩ := engaged rfl
      exact .engaged state (State.permitReleases_of_absent (permit.trans absent)) (.slow (fast.trans still))
    case release =>
      refine .released state (State.mayEngage_of_apart ?_)
      obtain leans | ⟨moves, calm⟩ := released rfl
      · exact .inr (.inl (move.consequence.leans leans))
      · exact .inl ⟨slow.trans moves, fun grave => calm (grade.symm.trans grave)⟩
  have unmoved := idles.settleN 8 (by rw [move.params]; exact instant) (phases.of_slot move.slot) nofun
  obtain ⟨state', set', -⟩ := unmoved.latch
  exact ⟨state'.trans state, set'.trans set⟩

/-! ## Outside a set (R120, R121, R122) -/

theorem State.confirmOpened_of_held {s : State} (state : s.latch.state = .engaged ∨ s.latch.state = .releasePreload)
    (pulsing : s.latch.pulsing .release = false) : s.confirmOpened = s.slip := by
  obtain e | e := state <;> rw [State.confirmOpened, e] <;> simp [pulsing]

theorem State.confirmOpened_of_jam_late {s : State} (state : s.latch.state = .jammed) (late : s.latch.lastPulse .release = true) :
    s.confirmOpened = (s.setLatch .released).logEvent (.lockLate .released) := by
  rw [State.confirmOpened, state]
  exact if_pos late

theorem LatchUnit.lastPulse_of_not_pulsing {l : LatchUnit} {d : Direction} (pulsing : l.pulsing d = false) :
    l.lastPulse d = false := by
  rw [LatchUnit.pulsing] at pulsing
  rw [LatchUnit.lastPulse]
  cases h : l.pulse with
  | none => rfl
  | some p =>
    rw [h] at pulsing
    simp only [Option.any_some, decide_eq_false_iff_not] at pulsing
    simp [pulsing]

theorem State.confirmOpened_of_jam {s : State} (state : s.latch.state = .jammed) (pulsing : s.latch.pulsing .release = false) :
    s.confirmOpened = s.slip := by
  rw [State.confirmOpened, state]
  simp [pulsing, LatchUnit.lastPulse_of_not_pulsing pulsing]

/-- ENGAGED with a LOCK_FAULT for a closing that nobody asked for. -/
def State.closedUncommanded (s : State) : State := ((s.setLatch .engaged).logEvent (.lockFault .uncommanded)).markUncommanded

theorem State.confirmClosed_of_released {s : State} (state : s.latch.state = .released) (pulsing : s.latch.pulsing .engage = false) :
    s.confirmClosed = s.closedUncommanded := by
  rw [State.confirmClosed, state]
  simp [pulsing, State.closedUncommanded]

theorem State.closedUncommanded_latchMove (s : State) : LatchMove s s.closedUncommanded :=
  .trans (.trans (State.setLatch_latchMove .engaged s) (State.logEvent_latchMove (.lockFault .uncommanded) _)) .of

theorem State.closedUncommanded_latch (s : State) :
    s.closedUncommanded.latch = { s.latch with state := .engaged, uncommanded := true } := by
  show { (s.setLatch .engaged).latch with uncommanded := true } = _
  rw [State.setLatch_latch]

theorem State.confirmClosed_of_fault {s : State} (state : s.latch.state = .unlatchedFault) : s.confirmClosed =
    if s.latch.lastPulse .engage then (s.setLatch .engaged).logEvent (.lockLate .engaged) else s.setLatch .engaged := by
  rw [State.confirmClosed, state]

/-- An uncommanded closing is logged first, and stays ENGAGED where nothing but the latch controller's own rules can move it. -/
theorem State.closedUncommanded_settle (s : State) :
    LoggedFirst s [.lockState .engaged, .lockFault .uncommanded] s.closedUncommanded.settle ∧
      (s.params.noInstantTrip → s.NotWaiting → s.Steadied → s.permit = false →
        s.closedUncommanded.settle.latch.state = .engaged ∧ s.closedUncommanded.settle.latch.set = s.latch.set ∧
        s.closedUncommanded.settle.latch.preloadEnd = s.latch.preloadEnd ∧
        s.closedUncommanded.settle.latch.pulse = s.latch.pulse) := by
  have move := s.closedUncommanded_latchMove
  have latch := s.closedUncommanded_latch
  refine ⟨.settle ?_ move.now, fun instant phases demand absent => ?_⟩
  · exact (State.setLatch_latchMove .engaged s).logEvent_log (State.setLatch_log ..) _
  · obtain ⟨-, -, permit, -⟩ := move.weighs
    have taken : s.closedUncommanded.Steadied :=
      (demand.move (State.setLatch_latchMove .engaged s) (State.setLatch_turn .engaged s).inputs).of_same
    have unmoved := State.settle_marked (w := s.closedUncommanded) (by rw [latch]) (permit.trans absent) (by rw [latch])
      (by rw [move.params]; exact instant) (phases.of_slot move.slot) taken
    obtain ⟨m, e⟩ := unmoved.latch_eq
    rw [e, latch]
    exact ⟨rfl, rfl, rfl, rfl⟩

/-- A closing of UNLATCHED_FAULT engages, late under the last engage pulse (R121). -/
theorem State.confirmClosed_of_fault_logged {s : State} (state : s.latch.state = .unlatchedFault) :
    LoggedFirst s (.lockState .engaged :: if s.latch.lastPulse .engage then [.lockLate .engaged] else []) s.confirmClosed.settle := by
  refine .settle ?_ s.confirmClosed_latchMove.now
  rw [State.confirmClosed_of_fault state]
  split
  · exact (State.setLatch_latchMove .engaged s).logEvent_log (State.setLatch_log ..) _
  · exact State.setLatch_log ..

theorem State.confirmClosed_of_fault_latch {s : State} (state : s.latch.state = .unlatchedFault) :
    s.confirmClosed.latch = { s.latch with state := .engaged, uncommanded := false } := by
  rw [State.confirmClosed_of_fault state]
  split <;> exact State.setLatch_latch ..

/-! ## What any edge leaves -/

theorem State.confirmChanged_consequence (c : Bool) (s : State) : Consequence (s.edged c) (s.confirmChanged c) := by
  cases set : s.latch.set with
  | none =>
    rw [State.confirmChanged_of_noSet set]
    cases c
    · exact (State.confirmOpened_sound _).consequence
    · exact (State.confirmClosed_latchMove _).consequence
  | some x =>
    by_cases target : c = x.direction.target
    · rw [State.confirmChanged_of_target set target]
      exact (State.edgeInSet_latchMove x _).consequence
    · rw [State.confirmChanged_of_apart set (.inr target)]
      exact .refl _

theorem exec_confirmEdge {dt : Nat} {c : Bool} {s : State} (first : s.latch.first = none) :
    exec (.confirmEdge dt c) s = .next (((s.advance dt).setConfirmPin c).confirmSample c) := by
  show execConfirmEdge dt c s = _
  unfold execConfirmEdge
  exact if_neg (by show ¬s.latch.first.isSome = true; simp [first])

theorem State.confirmSample_of_differs {s : State} {c : Bool} (differs : c ≠ s.latch.closed) : s.confirmSample c =
    match s.latch.differSince with
    | none => s.setLatchUnit { s.latch with differSince := some s.now }
    | some t => if t + 5000 ≤ s.now then (s.confirmChanged c).settle else s := by
  unfold State.confirmSample
  rw [if_neg differs]
  cases s.latch.differSince <;> rfl

/-! ## A phase that waited for the state (R98) -/

/-- A set that reaches its target completes the RELEASE phase that waited for it. -/
theorem State.succeedSet_released {s : State} {r : Routine} (slot : s.slot = .routine r) (tilt : r.axis = .tilt)
    (runs : r.held = none) (phase : r.phase = .release) (kind : r.kind = .home ∨ r.kind = .friction)
    (instant : s.params.noInstantTrip) :
    ∃ q, (s.succeedSet .release).settle.latch.state = .released ∧ (s.succeedSet .release).settle.latch.set = none ∧
      (s.succeedSet .release).settle.params = s.params ∧ (s.succeedSet .release).settle.slot = .routine q ∧
      r.Begun (if r.kind = .home then .sweepLeft else .rampLeft) s.now s.tilt.meas q ∧
      (r.kind = .home → (s.succeedSet .release).settle.tilt.drive = fixedDrive s.params) := by
  have move := State.succeedSet_latchMove .release s
  have latch := State.succeedSet_latch .release s
  obtain ⟨q, state, set, params, slot', begun, drive⟩ := State.settleN_released 7 (move.slot.trans slot) tilt runs phase kind
    (by rw [latch]; rfl) (by rw [move.params]; exact instant)
  rw [move.now, move.tilt_meas] at begun
  exact ⟨q, state, set.trans (by rw [latch]), params.trans move.params, slot', begun, fun home => (drive home).trans (by rw [move.params])⟩

/-- And the ENGAGE phase, which ends its routine. -/
theorem State.succeedSet_engaged {s : State} {r : Routine} (slot : s.slot = .routine r) (tilt : r.axis = .tilt)
    (runs : r.held = none) (phase : r.phase = .engage) (instant : s.params.noInstantTrip) :
    RoutineClosed r r.finalOutcome s (s.succeedSet .engage).settle ∧
      (s.succeedSet .engage).settle.params = (if r.finalOutcome = .pass then r.writes s.params else s.params) ∧
      (s.params.noActions →
        LoggedFirst s [.lockState .engaged, .routineEnd .tilt r.kind r.finalOutcome] (s.succeedSet .engage).settle) := by
  have move := State.succeedSet_latchMove .engage s
  have latch := State.succeedSet_latch .engage s
  have instant' : (s.succeedSet .engage).params.noInstantTrip := by rw [move.params]; exact instant
  obtain ⟨closed, params, logged⟩ := State.settleN_engaged 7 (move.slot.trans slot) tilt runs phase (by rw [latch]; rfl) instant'
  rw [move.params] at params
  refine ⟨closed.behind ?_, params, fun none => ?_⟩
  · rw [tilt]
    exact (congrArg AxisCtl.returnMode move.tilt :)
  · have silent : (s.succeedSet .engage).handOn.log = (s.succeedSet .engage).log :=
      State.handOn_log_of_noActions (by rw [move.params]; exact none) instant'
    exact (logged silent).behind (es := [.lockState .engaged]) (State.succeedSet_log ..)
      ((State.settle_consequence _).now.trans move.now)

end Sys2Proof.Machine
end

section
/-! PROOFS. Confirm edges move the latch (R112, R114, R115, R120 to R122, R98). -/

namespace Sys2Proof.Machine

/-- What an edge of the confirm switch does to the latch and logs, from the state `u` in which the level has just been taken. -/
structure State.EdgeTaken (c : Bool) (u t : State) : Prop where
  window : ∀ x, u.latch.set = some x → (∃ n, x.stage = .window n) → c = x.direction.target →
    LoggedFirst u [.lockState x.direction.reached] t
  late : ∀ x, u.latch.set = some x → x.stage = .waitPulse ∨ (∃ n, x.stage = .pause n) → c = x.direction.target →
    LoggedFirst u [.lockState x.direction.reached, .lockLate x.direction.reached] t
  reached : ∀ x, u.latch.set = some x → x.stage ≠ .waitCoil → c = x.direction.target → u.params.noInstantTrip → u.NotWaiting →
    (x.direction = .engage → u.fast = false ∧ u.permit = false) →
    (x.direction = .release → u.params.uprightWindow < mag u.tilt.meas ∨ (u.slow = false ∧ u.grade ≠ .lockdown)) →
    t.latch.state = x.direction.reached ∧ t.latch.set = none
  apart : ∀ x, u.latch.set = some x → x.stage = .waitCoil ∨ c ≠ x.direction.target → u.params.noInstantTrip →
    u.latch.state = .releasing ∨ u.latch.state = .engaging →
    t.latch.state = u.latch.state ∧ t.latch.set = some x ∧ t.latch.pulse = u.latch.pulse
  slips : u.latch.set = none → c = false → u.latch.pulsing .release = false →
    u.latch.state = .engaged ∨ u.latch.state = .releasePreload ∨ u.latch.state = .jammed →
    LoggedFirst u [.lockState .unlatchedFault, .lockFault .slip] t ∧
      (u.params.noInstantTrip → u.NotWaiting → u.fast = false →
        t.latch.state = .unlatchedFault ∧ t.latch.set = none ∧ t.latch.preloadEnd = none)
  freed : u.latch.set = none → c = false → u.latch.state = .jammed → u.latch.lastPulse .release = true →
    LoggedFirst u [.lockState .released, .lockLate .released] t ∧
      (u.params.noInstantTrip → u.NotWaiting →
        u.params.uprightWindow < mag u.tilt.meas ∨ (u.slow = false ∧ u.grade ≠ .lockdown) →
        t.latch.state = .released ∧ t.latch.set = none)
  uncommanded : u.latch.set = none → u.latch.state = .released → c = true → u.latch.pulsing .engage = false →
    LoggedFirst u [.lockState .engaged, .lockFault .uncommanded] t ∧
      (u.params.noInstantTrip → u.NotWaiting → u.Steadied → u.permit = false →
        t.latch.state = .engaged ∧ t.latch.set = none ∧ t.latch.preloadEnd = u.latch.preloadEnd ∧ t.latch.pulse = u.latch.pulse)
  engages : u.latch.set = none → u.latch.state = .unlatchedFault → c = true →
    LoggedFirst u (.lockState .engaged :: if u.latch.lastPulse .engage then [.lockLate .engaged] else []) t ∧
      (u.params.noInstantTrip → u.NotWaiting → u.fast = false → u.permit = false →
        t.latch.state = .engaged ∧ t.latch.set = none)

/-- Where a set is under way: the edge is the set's. -/
theorem State.edgeTaken_of_set {c : Bool} {s : State} {x : AttemptSet} (set : s.latch.set = some x) :
    (s.edged c).EdgeTaken c (s.confirmChanged c).settle := by
  have same (y : AttemptSet) (h : (s.edged c).latch.set = some y) : y = x := Option.some.inj (h.symm.trans set)
  have none (h : (s.edged c).latch.set = none) : False := nomatch set.symm.trans h
  refine ⟨fun y h ⟨n, stage⟩ target => ?_, fun y h stage target => ?_, fun y h stage target instant phases engaged released => ?_,
    fun y h apart instant going => ?_, fun h => (none h).elim, fun h => (none h).elim, fun h => (none h).elim, fun h => (none h).elim⟩
  · obtain rfl := same y h
    rw [State.confirmChanged_of_target set target]
    exact State.edgeInSet_window_logged stage
  · obtain rfl := same y h
    rw [State.confirmChanged_of_target set target]
    exact State.edgeInSet_late_logged stage
  · obtain rfl := same y h
    rw [State.confirmChanged_of_target set target]
    obtain ⟨state, idle⟩ := State.edgeInSet_latch (s := s.edged c) stage
    exact State.settle_reached (State.edgeInSet_latchMove y _) state idle instant phases engaged released
  · obtain rfl := same y h
    rw [State.confirmChanged_of_apart set apart]
    obtain ⟨state, stands, pulse⟩ := (State.settle_unmoved_under_way instant going).latch
    exact ⟨state, stands.trans h, pulse⟩

/-- Where no set is under way: the edge is the latch state's. -/
theorem State.edgeTaken_of_noSet {c : Bool} {s : State} (set : s.latch.set = none) :
    (s.edged c).EdgeTaken c (s.confirmChanged c).settle := by
  have none (x : AttemptSet) (h : (s.edged c).latch.set = some x) : False := nomatch set.symm.trans h
  have changed := State.confirmChanged_of_noSet set c
  refine ⟨fun y h => (none y h).elim, fun y h => (none y h).elim, fun y h => (none y h).elim, fun y h => (none y h).elim,
    fun h opens pulsing state => ?_, fun h opens jam late => ?_, fun h released closes pulsing => ?_, fun h fault closes => ?_⟩
  · have opened : (s.edged c).confirmOpened = (s.edged c).slip := by
      obtain e | e | e := state
      · exact State.confirmOpened_of_held (.inl e) pulsing
      · exact State.confirmOpened_of_held (.inr e) pulsing
      · exact State.confirmOpened_of_jam e pulsing
    rw [changed, if_neg (by simp [opens]), opened]
    obtain ⟨logged, stays⟩ := (s.edged c).slip_settle
    exact ⟨logged, fun instant phases fast => stays instant phases fast h⟩
  · rw [changed, if_neg (by simp [opens]), State.confirmOpened_of_jam_late jam late]
    have move := (State.setLatch_latchMove .released (s.edged c)).trans (State.logEvent_latchMove (.lockLate .released) _)
    have latch := State.setLatch_latch .released (s.edged c)
    refine ⟨.settle ((State.setLatch_latchMove .released _).logEvent_log (State.setLatch_log ..) _) move.now,
      fun instant phases apart => ?_⟩
    exact State.settle_reached (d := .release) move (congrArg LatchUnit.state latch) ((congrArg LatchUnit.set latch).trans h) instant
      phases nofun fun _ => apart
  · rw [changed, if_pos closes, State.confirmClosed_of_released released pulsing]
    obtain ⟨logged, stays⟩ := (s.edged c).closedUncommanded_settle
    refine ⟨logged, fun instant phases demand absent => ?_⟩
    rw [h] at stays
    exact stays instant phases demand absent
  · rw [changed, if_pos closes]
    have latch := State.confirmClosed_of_fault_latch fault
    refine ⟨State.confirmClosed_of_fault_logged fault, fun instant phases fast permit => ?_⟩
    exact State.settle_reached (d := .engage) (State.confirmClosed_latchMove _) (congrArg LatchUnit.state latch)
      ((congrArg LatchUnit.set latch).trans h) instant phases (fun _ => ⟨fast, permit⟩) nofun

theorem State.edgeTaken (c : Bool) (s : State) : (s.edged c).EdgeTaken c (s.confirmChanged c).settle := by
  cases set : s.latch.set with
  | none => exact State.edgeTaken_of_noSet set
  | some x => exact State.edgeTaken_of_set set

/-- Settles O45. -/
theorem confirmEdgesMoveTheLatch : Obligations.ConfirmEdgesMoveTheLatch := by
  refine ⟨fun s still => State.hearLatch_uncommanded ?_, fun dt s first => ?_, fun dt e c s first differs => ⟨fun since due => ?_,
    fun since early => ?_, fun since => ?_⟩⟩
  · obtain slow | demand | grave | untracked := still
    · exact (State.NoLean.slow (steady := True) slow).mayLean
    · exact (State.NoLean.demanded trivial demand).mayLean
    · exact (State.NoLean.grave (steady := True) grave).mayLean
    · exact (State.NoLean.untracked (steady := True) untracked).mayLean
  · exact (exec_confirmEdge first).trans (congrArg _ (if_pos rfl))
  · set b := (s.advance dt).setConfirmPin c
    have sampled : b.confirmSample c = (b.confirmChanged c).settle := by
      rw [State.confirmSample_of_differs (s := b) differs, show b.latch.differSince = some e from since]
      exact if_pos due
    have run := exec_confirmEdge (dt := dt) (c := c) first
    rw [sampled] at run
    have taken := State.edgeTaken c b
    have consequence := (State.confirmChanged_consequence c b).trans (State.settle_consequence _)
    obtain ⟨pending, pins, portA, portB, store⟩ := consequence.outside
    obtain ⟨closed, since', -⟩ := consequence.latchClock
    refine ⟨_, run, closed, since', pins, taken.window, taken.late, fun x set stage target alone => ⟨fun engage fast permit => ?_,
      fun release apart => ?_⟩, taken.apart, fun set state opens pulsing => ?_, fun set jam opens => ⟨fun late => ?_, fun pulsing => ?_⟩,
      fun set released closes pulsing => ?_, fun set fault closes => ?_, fun x r set ⟨n, window⟩ target instant slot tilt runs => ?_, portA, portB, store,
      consequence.speed, consequence.targets, consequence.rider, consequence.angles, consequence.switches, consequence.settings,
      consequence.grows⟩
    · have there := taken.reached x set stage target alone.trips alone.phases (fun _ => ⟨fast, permit⟩)
        (fun release => nomatch engage.symm.trans release)
      rwa [engage] at there
    · have there := taken.reached x set stage target alone.trips alone.phases (fun engage => nomatch release.symm.trans engage)
        (fun _ => apart)
      rwa [release] at there
    · obtain ⟨logged, stays⟩ := taken.slips set opens pulsing (state.imp id .inl)
      exact ⟨logged, fun alone fast => stays alone.trips alone.phases fast⟩
    · obtain ⟨logged, stays⟩ := taken.freed set opens jam late
      exact ⟨logged, fun alone apart => stays alone.trips alone.phases apart⟩
    · obtain ⟨logged, stays⟩ := taken.slips set opens pulsing (.inr (.inr jam))
      refine ⟨logged, fun alone fast => ?_⟩
      obtain ⟨state, idle, -⟩ := stays alone.trips alone.phases fast
      exact ⟨state, idle⟩
    · obtain ⟨logged, stays⟩ := taken.uncommanded set released closes pulsing
      exact ⟨logged, fun alone permit => stays alone.trips alone.phases (alone.combiners.steadied.of_same) permit⟩
    · obtain ⟨logged, stays⟩ := taken.engages set fault closes
      exact ⟨logged, fun alone fast permit => stays alone.trips alone.phases fast permit⟩
    · have changed : b.confirmChanged c = (b.edged c).succeedSet x.direction := by
        rw [State.confirmChanged_of_target (s := b) set target, State.edgeInSet_window window]
      rw [changed]
      refine ⟨fun release phase kind => ?_, fun engage phase => ?_⟩
      · rw [release]
        obtain ⟨q, state, idle, params, slot', begun, drive⟩ := State.succeedSet_released (s := b.edged c) slot tilt runs phase kind instant
        exact ⟨state, idle, params, drive, q, slot', begun.axis.trans tilt, begun.kind, begun.phase, begun.held, begun.outcome,
          begun.phaseStart, begun.reference⟩
      · rw [engage]
        obtain ⟨closed, params, logged⟩ := State.succeedSet_engaged (s := b.edged c) slot tilt runs phase instant
        have ended : RoutineClosed r r.finalOutcome s ((b.edged c).succeedSet .engage).settle := closed.behind (by rw [tilt]; rfl)
        refine ⟨fun mid home v3 pass => ?_, fun home span => ?_, fun left right friction v1 v2 undecided => ?_,
          fun quiet waits decided => ?_⟩
        · have outcome : r.finalOutcome = .pass := (Routine.finalOutcome_of_decided (by rw [pass]; exact nofun)).trans pass
          rw [outcome] at ended params
          exact ⟨ended, (params.trans (if_pos rfl)).trans (Routine.writes_home_tilt home tilt v3 _)⟩
        · have outcome : r.finalOutcome = .failSpan := (Routine.finalOutcome_of_decided (by rw [span]; exact nofun)).trans span
          rw [outcome] at ended params
          exact ⟨ended, params.trans (if_neg nofun)⟩
        · have outcome : r.finalOutcome = .pass := Routine.finalOutcome_of_none undecided
          rw [outcome] at ended params
          exact ⟨ended, (params.trans (if_pos rfl)).trans (Routine.writes_friction_tilt friction tilt v1 v2 _)⟩
        · have logged := logged quiet
          rwa [Routine.finalOutcome_of_decided decided] at logged
  · refine (exec_confirmEdge first).trans (congrArg _ ?_)
    rw [State.confirmSample_of_differs (s := (s.advance dt).setConfirmPin c) differs,
      show ((s.advance dt).setConfirmPin c).latch.differSince = some e from since]
    exact if_neg (Nat.not_le.mpr early)
  · refine (exec_confirmEdge first).trans (congrArg _ ?_)
    rw [State.confirmSample_of_differs (s := (s.advance dt).setConfirmPin c) differs,
      show ((s.advance dt).setConfirmPin c).latch.differSince = none from since]
    rfl

end Sys2Proof.Machine
end

section
/-! PROOFS. What a write of an item leaves of the limits, and a part whose combiners are fixed (R133, R136, R163). -/

namespace Sys2Proof.Machine

/-! ## The limits that conditions and decisions read -/

/-- The speed, lean and angle limits of two sets are the same. -/
structure Params.SameLimits (p q : Params) : Prop where
  vEng : q.vEng = p.vEng
  vRel : q.vRel = p.vRel
  leanLimit : q.leanLimit = p.leanLimit
  uprightWindow : q.uprightWindow = p.uprightWindow

theorem Params.write_combiner_limits {p q : Params} {i : CombinerId} {value : List Byte}
    (written : p.write (.combiner i) value = some q) : p.SameLimits q := by
  obtain ⟨x, -, rfl⟩ := Params.write_combiner.mp written
  cases i <;> exact ⟨rfl, rfl, rfl, rfl⟩

theorem Params.write_tripUnit_limits {p q : Params} {u : TripUnit} {value : List Byte}
    (written : p.write (.tripUnit u) value = some q) : p.SameLimits q ∧ ∀ i, q.combiner i = p.combiner i := by
  obtain ⟨x, -, rfl⟩ := Params.write_tripUnit.mp written
  cases u <;> exact ⟨⟨rfl, rfl, rfl, rfl⟩, fun i => by cases i <;> rfl⟩

theorem Params.write_mask_limits {p q : Params} {m : MaskParam} {value : List Byte}
    (written : p.write (.mask m) value = some q) : p.SameLimits q ∧ ∀ i, q.combiner i = p.combiner i := by
  obtain ⟨lo, hi, -, -, rfl⟩ := Params.write_mask written
  cases m <;> exact ⟨⟨rfl, rfl, rfl, rfl⟩, fun i => by cases i <;> rfl⟩

theorem State.setParams_condNow {s : State} {p : Params} (limits : s.params.SameLimits p) (c : Cond) :
    (s.setParams p).condNow c = s.condNow c := by
  cases c
  case slow =>
    show (s.setParams p).slow = s.slow
    rw [State.slow, State.setParams_params, limits.vEng]
    rfl
  case leanHigh =>
    show (s.setParams p).leanHigh = s.leanHigh
    rw [State.leanHigh, State.setParams_params, limits.leanLimit]
    rfl
  all_goals rfl

theorem State.setParams_waits {s : State} {p : Params} (limits : s.params.SameLimits p) (waits : s.waitingChanges = []) :
    (s.setParams p).waitingChanges = [] := by
  obtain ⟨none, listed⟩ := s.waitingChanges_eq_nil_iff.mp waits
  exact (State.waitingChanges_eq_nil_iff _).mpr ⟨none, fun c handed => (State.setParams_condNow limits c).trans (listed c handed)⟩

theorem State.setParams_undecided {s : State} {p : Params} (limits : s.params.SameLimits p)
    (combiners : ∀ i, p.combiner i = s.params.combiner i) (undecided : s.decideLatch = none) :
    (s.setParams p).decideLatch = none := by
  have c0 : p.c0 = s.params.c0 := combiners .c0
  have c1 : p.c1 = s.params.c1 := combiners .c1
  have c2 : p.c2 = s.params.c2 := combiners .c2
  have slow : (s.setParams p).slow = s.slow := State.setParams_condNow limits .slow
  have fast : (s.setParams p).fast = s.fast := by rw [State.fast, State.setParams_params, limits.vRel]; rfl
  have upright : (s.setParams p).uprightNow = s.uprightNow := by
    rw [State.uprightNow, State.setParams_params, limits.uprightWindow]; rfl
  have demand : (s.setParams p).lockDemand = s.lockDemand := by
    rw [State.lockDemand, State.combined, State.setParams_params, c0, c1, c2]; rfl
  rw [State.decideLatch_eq_none_iff] at *
  rw [← undecided]
  unfold State.decides State.mayLean State.preloadOff State.mayEngage
  rw [slow, fast, upright, demand]
  rfl

/-- A change of the input unit that leaves what the conditions and the combiners read leaves nothing to wait and to decide. -/
theorem State.setInputs_rests_on {s : State} {u : InputUnit} (same : s.inputs.SameReadings u) (changes : u.changes = s.inputs.changes)
    (trips : u.trips = s.inputs.trips) (waits : s.waitingChanges = []) (undecided : s.decideLatch = none) :
    (s.setInputs u).waitingChanges = [] ∧ (s.setInputs u).decideLatch = none := by
  obtain ⟨none, listed⟩ := s.waitingChanges_eq_nil_iff.mp waits
  have alike : WeighAlike s (s.setInputs u) :=
    ⟨rfl, rfl, rfl, rfl, rfl, congrArg gradeOf trips, State.combined_congr rfl same.combiner, rfl⟩
  refine ⟨(State.waitingChanges_eq_nil_iff _).mpr ⟨changes.trans none, fun c handed => ?_⟩, alike.undecided undecided⟩
  rw [State.condNow_congr (s := s) (t := s.setInputs u) same.switch rfl rfl (fun _ => rfl) rfl rfl handed, listed c handed]
  exact (same.cond c).symm

/-! ## An evaluation of the combiners is their evaluation for good -/

theorem InputUnit.evaluate_again (u : InputUnit) (cfg : CombinerCfg) (r : CombinerRec) :
    u.evaluate cfg (u.evaluate cfg r) = u.evaluate cfg r := by
  have again (fn : CombinerFn) (stored a b : Bool) :
      fn.nextStored (fn.nextStored stored a b) a b = fn.nextStored stored a b := by
    cases fn <;> cases a <;> cases b <;> rfl
  simp only [InputUnit.evaluate, again]

/-- No combiner selects its own output or a higher one's (R136), nor LOCKED. -/
def Params.Unlocked (p : Params) : Prop :=
  ∀ k, ∀ c ∈ [(p.combiner k).a.cond, (p.combiner k).b.cond, (p.combiner k).c.cond], c ≠ .locked ∧ c ∉ k.barred

theorem InputUnit.evaluated_stands {p : Params} (own : p.Unlocked) (u : InputUnit) (i : CombinerId) :
    (u.evaluated p).evaluate (p.combiner i) ((u.evaluated p).combiner i) = (u.evaluated p).combiner i := by
  have selects := own i
  simp only [List.mem_cons, List.not_mem_nil, or_false, forall_eq_or_imp, forall_eq] at selects
  obtain ⟨⟨-, a⟩, ⟨-, b⟩, -, c⟩ := selects
  have again (v : InputUnit) (r : CombinerRec) (read : ∀ c, c ∉ i.barred → (u.evaluated p).cond c = v.cond c) :
      (u.evaluated p).evaluate (p.combiner i) (v.evaluate (p.combiner i) r) = v.evaluate (p.combiner i) r := by
    rw [InputUnit.evaluate_congr (u := v) _ (read _ a) (read _ b) (read _ c), InputUnit.evaluate_again]
  cases i
  case c0 =>
    refine again u u.c0 fun c free => ?_
    cases c
    case c0 | c1 | c2 => exact absurd (by decide) free
    all_goals rfl
  case c1 =>
    refine again { u with c0 := u.evaluate p.c0 u.c0 } u.c1 fun c free => ?_
    cases c
    case c1 | c2 => exact absurd (by decide) free
    all_goals rfl
  case c2 =>
    set v : InputUnit := { u with c0 := u.evaluate p.c0 u.c0 }
    refine again { v with c1 := v.evaluate p.c1 u.c1 } u.c2 fun c free => ?_
    cases c
    case c2 => exact absurd (by decide) free
    all_goals rfl

/-! ## A fixed part keeps its combiners -/

/-- The part is fixed, with these combiners. -/
structure State.FixedAs (u : InputUnit) (s : State) : Prop where
  fixed : s.Fixed
  combiner : ∀ i, s.inputs.combiner i = u.combiner i

namespace State.FixedAs

variable {u : InputUnit} {s t : State}

theorem move (h : s.FixedAs u) (move : LatchMove s t) (same : t.inputs = s.inputs) : t.FixedAs u :=
  ⟨h.fixed.move move same, same ▸ h.combiner⟩

/-- The input unit takes readings that stand; what waits is of LOCKED. -/
theorem setInputs (h : s.FixedAs u) {v : InputUnit} (same : s.inputs.SameReadings v) (changes : ∀ x ∈ v.changes, x.1 = .locked) :
    (s.setInputs v).FixedAs u :=
  ⟨h.fixed.of_eq changes same.switch rfl rfl rfl rfl (fun c _ => same.cond c) same.combiner,
    fun i => (same.combiner i).trans (h.combiner i)⟩

theorem announce (h : s.FixedAs u) : s.announce.FixedAs u :=
  h.setInputs (InputUnit.changes_sameReadings ..) h.fixed.waiting

theorem decide (h : s.FixedAs u) (decided : s.decideLatch = some t) : t.FixedAs u :=
  h.move (State.decideLatch_latchMove decided) (State.decideLatch_turn decided).inputs

theorem weigh (h : s.FixedAs u) : s.weighUncommanded.FixedAs u :=
  h.move s.weighUncommanded_latchMove s.weighUncommanded_inputs

theorem hearLatch (h : s.FixedAs u) : s.hearLatch.FixedAs u := by
  unfold State.hearLatch
  refine FixedAs.announce ?_
  cases decided : s.weighUncommanded.decideLatch with
  | none => exact h.weigh
  | some t => exact h.weigh.decide decided

/-- LOCKED is taken. -/
theorem takeLocked (h : s.FixedAs u) (b : Bool) (instant : s.params.noInstantTrip) : (s.takeCond .locked b).FixedAs u := by
  obtain ⟨quiet, seated⟩ := State.takeCond_calm .locked b s instant
  have stands := State.Takes.taken (.inr ⟨h.fixed, rfl⟩) (b := b)
  obtain ⟨v, took, same, changes, -⟩ := State.takeCond_taken (s := s) .locked b instant
  rw [s.afterCond_combined, stands, if_neg (by simp)] at took changes
  rw [s.afterCond_inputs] at changes
  have consequence := State.takeCond_consequence .locked b s
  have inputs : (s.takeCond .locked b).inputs = v := by rw [took]; rfl
  have combiner (i : CombinerId) : (s.takeCond .locked b).inputs.combiner i = s.inputs.combiner i := by
    rw [inputs, same.combiner, h.fixed.afterChange]
    cases i <;> rfl
  refine ⟨h.fixed.of_eq ?_ consequence.switches quiet.speed seated.params (by rw [quiet.auth])
    (consequence.axis_meas .tilt) (fun x other => ?_) combiner, fun i => (combiner i).trans (h.combiner i)⟩
  · rw [inputs, changes]
    exact h.fixed.changes
  · rw [inputs, same.cond, h.fixed.afterChange, CondList.cond_put_locked _ b other]

theorem handOnN (k : Nat) (h : s.FixedAs u) (instant : s.params.noInstantTrip) : (s.handOnN k).FixedAs u := by
  induction k generalizing s with
  | zero => exact h
  | succ k ih =>
    unfold State.handOnN
    split
    · exact h
    · next x rest waits =>
      have locked := h.fixed.waiting
      rw [waits] at locked
      have put : (s.setChanges rest).FixedAs u :=
        h.setInputs (InputUnit.changes_sameReadings ..) fun y mem => locked y (List.mem_cons_of_mem _ mem)
      have head : x.1 = .locked := locked x List.mem_cons_self
      have calm := State.takeCond_calm .locked x.2 (s.setChanges rest) instant
      rw [head]
      exact ih (put.takeLocked x.2 instant) (calm.1.settings.noInstantTrip instant)

theorem settleN (k : Nat) (h : s.FixedAs u) (instant : s.params.noInstantTrip) (phases : s.NotWaiting) :
    (s.settleN k).FixedAs u := by
  induction k generalizing s with
  | zero =>
    have handed := h.handOnN 32 instant
    obtain same | decided := s.handOn.restPreload_cases
    · rw [State.settleN, same]
      exact handed
    · exact handed.decide decided
  | succ k ih =>
    have weighed := (h.handOnN 32 instant).weigh
    obtain ⟨quiet, seated⟩ := State.handOn_calm s instant
    have move := s.handOn.weighUncommanded_latchMove
    have instant' : s.handOn.weighUncommanded.params.noInstantTrip := by
      rw [move.params, seated.params]
      exact instant
    have phases' : s.handOn.weighUncommanded.NotWaiting := phases.of_slot (move.slot.trans seated.slot)
    rw [State.settleN]
    split
    · next t decided =>
      have move' := State.decideLatch_latchMove decided
      exact ih (State.FixedAs.decide weighed decided) (move'.params ▸ instant') (phases'.of_slot move'.slot)
    · rw [phases'.ready]
      exact weighed

theorem steadied (h : s.FixedAs u) : s.Steadied := .inr h.fixed

end State.FixedAs

end Sys2Proof.Machine
end

section
/-! PROOFS. A preload under a lock demand, and what the write of a combiner's item brings about (R117, R138). -/

namespace Sys2Proof.Machine

/-! ## A preload under the combined demand -/

/-- The combined demand stands over a preload, or over the ENGAGED that its abandoning left. -/
structure State.Demanded (s : State) : Prop where
  first : s.latch.first = none
  permit : s.permit = false
  combined : s.combined = true
  state : s.latch.state = .releasePreload ∨ (s.latch.state = .engaged ∧ s.latch.preloadEnd = none)

namespace State.Demanded

variable {s t : State}

theorem lockDemand (h : s.Demanded) : s.lockDemand = true := by simp [State.lockDemand, h.combined]

theorem of_latch (h : s.Demanded) (combined : t.combined = s.combined) {m : Bool}
    (latch : t.latch = { s.latch with uncommanded := m }) : t.Demanded := by
  obtain ⟨first, permit, demand, state⟩ := h
  refine ⟨?_, ?_, combined.trans demand, ?_⟩
  · rwa [latch]
  · rwa [State.permit, latch]
  · rwa [latch]

theorem weigh (h : s.Demanded) : s.weighUncommanded.Demanded := by
  obtain ⟨b, weighed⟩ := s.weighUncommanded_eq
  rw [weighed]
  exact h.of_latch rfl (m := b) rfl

/-- The one decision is to abandon the preload. -/
theorem decide (h : s.Demanded) (decided : s.decideLatch = some t) :
    t.Demanded ∧ t.latch.state = .engaged := by
  obtain ⟨first, permit, combined, preload | ⟨engaged, -⟩⟩ := id h
  · have off : s.preloadOff = true := by simp [State.preloadOff, h.lockDemand]
    rw [State.decideLatch_releasePreload first preload, if_pos off] at decided
    obtain rfl := Option.some.inj decided
    have latch := s.abandonPreload_latch
    have demand : s.abandonPreload.combined = s.combined := State.combined_congr s.abandonPreload_latchMove.params fun _ => by
      rw [s.abandonPreload_turn.inputs]
    refine ⟨⟨?_, ?_, demand.trans combined, .inr ⟨?_, ?_⟩⟩, ?_⟩
    · rwa [latch]
    · rwa [State.permit, latch]
    all_goals rw [latch]
  · rw [State.decideLatch_engaged_of_noRelease engaged (State.permitReleases_of_absent permit)
      (by simp [State.mayLean, h.lockDemand])] at decided
    cases decided

theorem hearLatch (h : s.Demanded) : s.hearLatch.Demanded := by
  have announced {v : State} (h : v.Demanded) : v.announce.Demanded :=
    h.of_latch (State.combined_congr rfl (InputUnit.changes_sameReadings ..).combiner) (m := v.latch.uncommanded) rfl
  unfold State.hearLatch
  refine announced ?_
  cases decided : s.weighUncommanded.decideLatch with
  | none => exact h.weigh
  | some t => exact (h.weigh.decide decided).1

/-- The part settles with the preload abandoned. -/
theorem settle (h : s.Demanded) (steadied : s.Steadied) (instant : s.params.noInstantTrip) (phases : s.NotWaiting) :
    s.settle.latch.state = .engaged ∧ s.settle.latch.preloadEnd = none := by
  have engaged {v w : State} (h : v.Demanded) (state : v.latch.state = .engaged) (unmoved : Unmoved True v w) :
      w.latch.state = .engaged ∧ w.latch.preloadEnd = none := by
    obtain ⟨m, latch⟩ := unmoved.latch_eq
    rw [latch]
    obtain preload | ⟨-, off⟩ := h.state
    · exact nomatch preload.symm.trans state
    · exact ⟨state, off⟩
  obtain ⟨w, unmoved, steadied', e, -⟩ := State.settleN_succ_of_steadied 7 steadied instant phases
  obtain ⟨m, latch⟩ := unmoved.latch_eq
  have demanded : w.Demanded := h.of_latch (unmoved.combined trivial) latch
  obtain ⟨-, params, -, slot, -⟩ := unmoved.weighs
  rw [State.settle, e]
  cases decided : w.decideLatch with
  | none =>
    refine engaged demanded ?_ (.refl True w)
    obtain preload | ⟨state, -⟩ := demanded.state
    · rw [State.decideLatch_releasePreload demanded.first preload, if_pos (by simp [State.preloadOff, demanded.lockDemand])] at decided
      cases decided
    · exact state
  | some t =>
    obtain ⟨abandoned, state⟩ := demanded.decide decided
    have move := State.decideLatch_latchMove decided
    refine engaged abandoned state (State.Idles.settleN (.engaged state (State.permitReleases_of_absent abandoned.permit)
      (.demanded trivial abandoned.lockDemand)) 7 ?_ (phases.of_slot (move.slot.trans slot))
      fun _ => steadied'.move move (State.decideLatch_turn decided).inputs)
    rw [move.params, params]
    exact instant

end State.Demanded

/-! ## The write of a combiner's item (R136 to R138) -/

theorem combinerEvents_of_outputs (p : Params) {u u' v : InputUnit}
    (same : ∀ i, (u'.combiner i).output = (u.combiner i).output) : combinerEvents p u' v = combinerEvents p u v := by
  simp only [combinerEvents, same]

theorem InputUnit.clearStored_output (u : InputUnit) (i k : CombinerId) :
    ((u.setCombiner i { u.combiner i with stored := false }).combiner k).output = (u.combiner k).output := by
  cases i <;> cases k <;> rfl

/-- The part with the new set, the item's stored state cleared, and the combiners evaluated and logged. -/
def State.combinerPut (i : CombinerId) (p : Params) (s : State) : State := ((s.setParams p).clearStored i).combinersTaken

/-- The input unit when the combiners have been evaluated after such a write. -/
def InputUnit.rewritten (i : CombinerId) (p : Params) (u : InputUnit) : InputUnit :=
  (u.setCombiner i { u.combiner i with stored := false }).evaluated p

theorem State.combinerPut_parts (i : CombinerId) (p : Params) (s : State) :
    ∃ l, s.combinerPut i p = ((s.setParams p).setInputs (s.inputs.rewritten i p)).setLog l :=
  ((s.setParams p).clearStored i).combinersTaken_eq

theorem InputUnit.rewritten_switch (i : CombinerId) (p : Params) (u : InputUnit) (j : Input) :
    (u.rewritten i p).switch j = u.switch j := by cases i <;> cases j <;> rfl

theorem InputUnit.rewritten_conds (i : CombinerId) (p : Params) (u : InputUnit) : (u.rewritten i p).conds = u.conds := by
  cases i <;> rfl

theorem InputUnit.rewritten_changes (i : CombinerId) (p : Params) (u : InputUnit) : (u.rewritten i p).changes = u.changes := by
  cases i <;> rfl

theorem State.combinerPut_logged (i : CombinerId) (p : Params) (s : State) :
    LoggedFirst s (combinerEvents p s.inputs (s.inputs.rewritten i p)) (s.combinerPut i p) := by
  have logged := ((s.setParams p).clearStored i).combinersTaken_logged
  rw [← combinerEvents_of_outputs p (s.inputs.clearStored_output i)]
  exact logged

/-- Where nothing waited and no combiner selects LOCKED, the combiners are fixed after the write. -/
theorem State.combinerPut_fixedAs {i : CombinerId} {p : Params} {s : State} (limits : s.params.SameLimits p) (own : p.Unlocked)
    (waits : s.waitingChanges = []) : (s.combinerPut i p).FixedAs (s.inputs.rewritten i p) := by
  obtain ⟨none, listed⟩ := s.waitingChanges_eq_nil_iff.mp waits
  obtain ⟨l, parts⟩ := s.combinerPut_parts i p
  rw [parts]
  refine ⟨⟨?_, fun c handed _ => ?_, fun k => ?_, InputUnit.evaluated_stands own _⟩, fun _ => rfl⟩
  · show ∀ x ∈ (s.inputs.rewritten i p).changes, _
    rw [InputUnit.rewritten_changes, none]
    exact nofun
  · refine (State.condNow_congr (s := s.setParams p)
      (t := ((s.setParams p).setInputs (s.inputs.rewritten i p)).setLog l) (InputUnit.rewritten_switch i p _) rfl rfl (fun _ => rfl) rfl rfl handed).trans ?_
    rw [State.setParams_condNow limits, listed c handed]
    exact (InputUnit.cond_of_conds (InputUnit.rewritten_conds i p _) handed).symm
  · have selects := own k
    simp only [List.mem_cons, List.not_mem_nil, or_false, forall_eq_or_imp, forall_eq] at selects
    obtain ⟨⟨a, -⟩, ⟨b, -⟩, c, -⟩ := selects
    exact ⟨a, b, c⟩

/-- What the rest of the write does: the latch controller hears of a changed demand, and the trip units are read. -/
theorem State.combinerWrite_eq {i : CombinerId} {p : Params} (old : Bool) (s : State) (instant : p.noInstantTrip) :
    ∃ h u, h = (if (s.combinerPut i p).combined != old then (s.combinerPut i p).hearLatch else s.combinerPut i p) ∧
      (s.setParams p).writeEffect (.combiner i) old = h.setInputs u ∧ h.inputs.SameReadings u ∧ u.changes = h.inputs.changes := by
  have e : ((s.setParams p).writeEffect (.combiner i) old) =
      ((((s.setParams p).clearStored i).evaluateCombiners false old).evaluateTripUnit .t1).evaluateTripUnit .t2 := rfl
  have move := State.evaluateCombiners_latchMove old ((s.setParams p).clearStored i)
  obtain ⟨l, parts⟩ := s.combinerPut_parts i p
  have params : (((s.setParams p).clearStored i).evaluateCombiners false old).params = p := by
    rw [move.params]
    exact (congrArg State.params parts :)
  obtain ⟨u, units, same, changes, -⟩ :=
    State.evaluateTripUnits_of_noInstantTrip (s := ((s.setParams p).clearStored i).evaluateCombiners false old)
      (by rw [params]; exact instant)
  exact ⟨_, u, State.evaluateCombiners_eq old _, e.trans units, same, changes⟩

/-- What a write of combiner `i`'s item leaves when the part has settled: see R136 to R138. -/
structure State.CombinerWritten (i : CombinerId) (p : Params) (s t : State) : Prop where
  logged : LoggedFirst s (combinerEvents p s.inputs (s.inputs.rewritten i p)) t
  combiner : s.waitingChanges = [] → p.Unlocked → ∀ k, t.inputs.combiner k = (s.inputs.rewritten i p).combiner k
  abandons : s.waitingChanges = [] → p.Unlocked → s.latch.state = .releasePreload → s.latch.first = none → s.permit = false →
    t.combined = true → t.latch.state = .engaged ∧ t.latch.preloadEnd = none

theorem State.combinerWritten {i : CombinerId} {p : Params} {s : State} (old : Bool) (limits : s.params.SameLimits p)
    (instant : p.noInstantTrip) (phases : s.NotWaiting) :
    s.CombinerWritten i p ((s.setParams p).writeEffect (.combiner i) old).settle := by
  obtain ⟨h, u, heard, written, same, changes⟩ := State.combinerWrite_eq (i := i) old s instant
  obtain ⟨l, parts⟩ := s.combinerPut_parts i p
  have logged := s.combinerPut_logged i p
  have fixed := fun own waits => State.combinerPut_fixedAs (i := i) (s := s) limits own waits
  have params : (s.combinerPut i p).params = p := by rw [parts]; rfl
  have slot : (s.combinerPut i p).slot = s.slot := by rw [parts]; rfl
  have latch : (s.combinerPut i p).latch = s.latch := by rw [parts]; rfl
  have move : LatchMove (s.combinerPut i p) h := by
    rw [heard]
    exact .ite _ (State.hearLatch_latchMove _) (.refl _)
  have instant' : (h.setInputs u).params.noInstantTrip := (move.params.trans params) ▸ instant
  have phases' : (h.setInputs u).NotWaiting := phases.of_slot (move.slot.trans slot)
  rw [written]
  have before (waits : s.waitingChanges = []) (own : p.Unlocked) : (h.setInputs u).FixedAs (s.inputs.rewritten i p) := by
    have hears : h.FixedAs (s.inputs.rewritten i p) := by
      rw [heard]
      split
      · exact (fixed own waits).hearLatch
      · exact fixed own waits
    exact hears.setInputs same (changes ▸ hears.fixed.changes)
  have settled (waits : s.waitingChanges = []) (own : p.Unlocked) :
      (h.setInputs u).settle.FixedAs (s.inputs.rewritten i p) := (before waits own).settleN 8 instant' phases'
  refine ⟨?_, fun waits own => (settled waits own).combiner, fun waits own preload first absent demand => ?_⟩
  · refine (logged.framed move.consequence.framed).framed (Framed.trans (t := h.setInputs u) ?_ (State.settle_consequence _).framed)
    exact .of (switches := same.switch)
  · have demand' : (s.combinerPut i p).combined = true := by
      rw [← demand]
      refine (State.combined_congr ?_ fun k => ?_).symm
      · exact ((State.settle_seated _ instant' phases').params.trans move.params)
      · rw [(settled waits own).combiner, (fixed own waits).combiner]
    have put : (s.combinerPut i p).Demanded :=
      ⟨by rwa [latch], by rwa [State.permit, latch], demand', .inl (by rwa [latch])⟩
    have hears : h.Demanded := by
      rw [heard]
      split
      · exact put.hearLatch
      · exact put
    have demanded : (h.setInputs u).Demanded :=
      hears.of_latch (State.combined_congr rfl same.combiner) (m := h.latch.uncommanded) rfl
    exact demanded.settle (before waits own).steadied instant' phases'

end Sys2Proof.Machine
end

section
/-! PROOFS. SET_PARAM (R163). -/

namespace Sys2Proof.Machine

/-! ## The checks -/

theorem handleSetParam_of_bad {p : Port} {bytes : List Byte} {s : State}
    (bad : ∀ b value name, bytes = b :: value → ParamName.ofNumber b.toNat = some name → s.params.write name value = none) :
    handleSetParam p bytes s = refuse s .badArg [] := by
  unfold handleSetParam setArgs
  cases bytes with
  | nil => rfl
  | cons b value =>
    dsimp only
    cases number : ParamName.ofNumber b.toNat with
    | none => rfl
    | some name =>
      dsimp only [Option.map_some]
      rw [bad b value name rfl number]

section
variable {p : Port} {b : Byte} {name : ParamName} {value : List Byte} {new : Params} {s : State}

theorem handleSetParam_of_written (number : ParamName.ofNumber b.toNat = some name) (written : s.params.write name value = some new) :
    handleSetParam p (b :: value) s = setChecked p b name value new s := by
  simp [handleSetParam, setArgs, number, written]

theorem setChecked_of_held (other : s.heldByOther p = true) :
    setChecked p b name value new s = refuse s .held [byteOf (portCode (otherPort p))] := by
  simp [setChecked, other, State.holderCode_of_other other]

theorem Slot.code_of_programming {y : Slot} (busy : y.programming = true) : y.code = 5 := by
  cases y
  case storeProgramming n => rfl
  all_goals cases busy

theorem setChecked_of_programming (unheld : s.heldByOther p = false) (busy : s.slot.programming = true) :
    setChecked p b name value new s = refuse s .busy [5] := by
  simp [setChecked, unheld, busy, refuseBusy, Slot.code_of_programming busy, byteOf]

theorem setChecked_of_moving (unheld : s.heldByOther p = false) (idle : s.slot.programming = false)
    (needs : name.needsStill = true) (moves : s.still = false) : setChecked p b name value new s = refuse s .notNow [] := by
  simp [setChecked, unheld, idle, needs, moves]

theorem setChecked_of_passed (unheld : s.heldByOther p = false) (idle : s.slot.programming = false)
    (rests : name.needsStill = false ∨ s.still = true) : setChecked p b name value new s =
      (s.writeParam name new, adjustedIf (new.valueBytes name != value) (b :: new.valueBytes name)) := by
  obtain e | e := rests <;> simp [setChecked, unheld, idle, e]

end

/-! ## What a write leaves -/

/-- The travel counted afresh by a write of PPR (R14). -/
def State.travelled (name : ParamName) (s : State) : State := if name = .num .ppr then s.zeroTravel else s

theorem State.travelled_framed (name : ParamName) (s : State) : Framed s (s.travelled name) := by
  unfold State.travelled
  split <;> exact .of

/-- Beside the travel, what a write makes at the write itself is calm. -/
theorem State.writeEffect_calm (name : ParamName) (demand : Bool) (s : State) :
    Calm (s.travelled name) (s.writeEffect name demand) ∧ Consequence (s.travelled name) (s.writeEffect name demand) := by
  cases name
  case num x => cases x <;> exact ⟨.refl _, .refl _⟩
  case mask m =>
    cases m
    case attnA => exact ⟨s.evaluateLine_calm .a, s.evaluateLine_consequence .a⟩
    case attnB => exact ⟨s.evaluateLine_calm .b, s.evaluateLine_consequence .b⟩
    all_goals exact ⟨.refl _, .refl _⟩
  case combiner i =>
    exact ⟨(s.clearStored_calm i).trans (State.evaluateInputs_calm false demand _),
      ((s.clearStored_sound i).trans (State.evaluateInputs_sound false demand _)).consequence⟩
  case tripUnit u =>
    exact ⟨(s.clearTripUnit_calm u).trans (State.evaluateTripUnit_calm u _),
      ((s.clearTripUnit_sound u).trans (State.evaluateTripUnit_sound u _)).consequence⟩

/-- What a write of a set changes when the part has settled, whatever the parameter. -/
structure State.Written (name : ParamName) (new : Params) (s t : State) : Prop where
  framed : Framed s t
  params : t.params = new
  travel : name = .num .ppr → t.speed.accumulator = 0
  speed : name ≠ .num .ppr → t.speed = s.speed
  store : t.store = s.store
  path : t.path = s.path
  slot : t.slot = s.slot
  trips : t.inputs.trips = s.inputs.trips

theorem State.writeParam_written {name : ParamName} {new : Params} {s : State} (instant : new.noInstantTrip)
    (phases : s.NotWaiting) : s.Written name new (s.writeParam name new) := by
  obtain ⟨calm, consequence⟩ := State.writeEffect_calm name s.combined (s.setParams new)
  have whole : State.writeParam name new s = ((s.setParams new).writeEffect name s.combined).settle := rfl
  have settled := consequence.trans (State.settle_consequence ((s.setParams new).writeEffect name s.combined))
  have framed : Framed s (s.writeParam name new) :=
    (Framed.trans (t := s.setParams new) .of (State.travelled_framed name _)).trans settled.framed
  have base : ((s.setParams new).travelled name).params = new ∧ ((s.setParams new).travelled name).store = s.store ∧
      ((s.setParams new).travelled name).path = s.path ∧ ((s.setParams new).travelled name).slot = s.slot ∧
      ((s.setParams new).travelled name).inputs = s.inputs := by
    unfold State.travelled
    split <;> exact ⟨rfl, rfl, rfl, rfl, rfl⟩
  obtain ⟨params, store, path, slot, inputs⟩ := base
  obtain ⟨quiet, seated⟩ := calm.settle (by rw [params]; exact instant) (phases.of_slot slot)
  refine ⟨framed, seated.params.trans params, fun ppr => ?_, fun other => quiet.speed.trans ?_,
    settled.outside.store.trans store, quiet.path.trans path, seated.slot.trans slot, quiet.trips.trans (by rw [inputs])⟩
  · rw [whole, quiet.speed, State.travelled, if_pos ppr]
    rfl
  · rw [State.travelled, if_neg other]
    rfl

/-! ## Trip units and attention masks (R140, R150) -/

/-- A trip unit's record is replaced where nothing else is to be done. -/
theorem State.settle_of_tripUnit {x : TripUnit} {r : TripUnitRec} {s : State} (phases : s.NotWaiting)
    (waits : s.waitingChanges = []) (undecided : s.decideLatch = none) :
    (s.setInputs (s.inputs.setTripUnit x r)).settle.inputs = s.inputs.setTripUnit x r := by
  obtain ⟨rest, undecided'⟩ := State.setInputs_rests_on (s := s) (InputUnit.setTripUnit_sameReadings s.inputs x r)
    (by cases x <;> rfl) (InputUnit.setTripUnit_trips ..) waits undecided
  rw [State.settle_of_rest rest undecided' phases, State.weighUncommanded_inputs]
  rfl

theorem State.writeParam_tripUnit {x : TripUnit} {value : List Byte} {new : Params} {s : State}
    (written : s.params.write (.tripUnit x) value = some new) (instant : new.noInstantTrip) (phases : s.NotWaiting)
    (waits : s.waitingChanges = []) (undecided : s.decideLatch = none) :
    (s.writeParam (.tripUnit x) new).inputs = s.inputs.setTripUnit x
      (if (new.tripUnit x).enabled = true ∧ s.inputs.tripSelected x (new.tripUnit x) = true then
        { since := some s.now, fired := false } else { since := none, fired := false }) := by
  obtain ⟨limits, combiners⟩ := Params.write_tripUnit_limits written
  set v := s.inputs.setTripUnit x { since := none, fired := false } with hv
  have cleared : s.inputs.SameReadings v := InputUnit.setTripUnit_sameReadings ..
  have read : v.setTripUnit x (v.readTripUnit x (new.tripUnit x) s.now) = s.inputs.setTripUnit x
      (if (new.tripUnit x).enabled = true ∧ s.inputs.tripSelected x (new.tripUnit x) = true then
        { since := some s.now, fired := false } else { since := none, fired := false }) := by
    rw [InputUnit.readTripUnit_eq, cleared.tripSelected]
    cases x <;> rfl
  have effect : (s.setParams new).writeEffect (.tripUnit x) s.combined =
      (s.setParams new).setInputs (v.setTripUnit x (v.readTripUnit x (new.tripUnit x) s.now)) :=
    State.evaluateTripUnit_of_noInstantTrip (s := s.setParams new) (u := v) instant
  rw [State.writeParam, effect, read]
  exact State.settle_of_tripUnit (s := s.setParams new) phases (State.setParams_waits limits waits)
    (State.setParams_undecided limits combiners undecided)

theorem State.setLog_waits {s : State} {l : EventLog} (waits : s.waitingChanges = []) : (s.setLog l).waitingChanges = [] := by
  obtain ⟨none, listed⟩ := s.waitingChanges_eq_nil_iff.mp waits
  refine (State.waitingChanges_eq_nil_iff _).mpr ⟨none, fun c handed => Eq.trans ?_ (listed c handed)⟩
  cases c <;> rfl

/-- The mask of an attention line. -/
def attnParam (q : Port) : MaskParam := if q = .a then .attnA else .attnB

theorem State.writeParam_mask {q : Port} {value : List Byte} {new : Params} {s : State}
    (written : s.params.write (.mask (attnParam q)) value = some new) (phases : s.NotWaiting) (waits : s.waitingChanges = [])
    (undecided : s.decideLatch = none) : (s.writeParam (.mask (attnParam q)) new).log =
      s.log.setLine q ((s.log.line q).onMask (s.log.wants (new.attnMask q))) := by
  obtain ⟨limits, combiners⟩ := Params.write_mask_limits written
  have effect : (s.setParams new).writeEffect (.mask (attnParam q)) s.combined = (s.setParams new).evaluateLine q := by
    cases q <;> rfl
  have rest : ((s.setParams new).evaluateLine q).waitingChanges = [] := State.setLog_waits (State.setParams_waits limits waits)
  have undecided' := State.setParams_undecided limits combiners undecided
  have alike : WeighAlike (s.setParams new) ((s.setParams new).evaluateLine q) := ⟨rfl, rfl, rfl, rfl, rfl, rfl, rfl, rfl⟩
  obtain ⟨b, weighed⟩ := ((s.setParams new).evaluateLine q).weighUncommanded_eq
  rw [State.writeParam, effect, State.settle_of_rest rest (alike.undecided undecided') (phases.of_slot (s := s) rfl), weighed]
  rfl

theorem EventLog.setLine_line (l : EventLog) (q : Port) (x : AttnLine) : (l.setLine q x).line q = x := by cases q <;> rfl

theorem AttnLine.onMask_gapEnd (x : AttnLine) (want : Bool) : (x.onMask want).gapEnd = x.gapEnd := by
  unfold AttnLine.onMask AttnLine.onAppend
  cases want
  · rfl
  · rw [if_pos rfl]
    split <;> rfl

theorem AttnLine.onMask_asserted (x : AttnLine) (want : Bool) : (x.onMask want).asserted =
    if want = true then if x.gapEnd = none then true else x.asserted else false := by
  unfold AttnLine.onMask AttnLine.onAppend
  cases want
  · rfl
  · cases e : x.gapEnd <;> simp

/-! ## What the delivery leaves -/

theorem State.delivered_waits {dt : Nat} {p : Port} {s : State} (waits : s.waitingChanges = []) :
    (s.delivered dt p).waitingChanges = [] := by
  rw [State.waitingChanges_eq_nil_iff] at waits ⊢
  obtain ⟨none, listed⟩ := waits
  rw [State.delivered_inputs]
  refine ⟨none, fun c handed => ?_⟩
  rw [State.condNow_congr (s := s) (t := s.delivered dt p) (fun i => by rw [State.delivered_inputs]) (s.delivered_speed dt p)
    (s.delivered_params dt p) (fun _ => by rw [State.delivered_latch]) (s.delivered_hold_isSome dt p)
    (by rw [State.delivered_tilt]) handed, listed c handed]

theorem State.delivered_alike (dt : Nat) (p : Port) (s : State) : WeighAlike s (s.delivered dt p) where
  latch := s.delivered_latch dt p
  speed := s.delivered_speed dt p
  params := s.delivered_params dt p
  tilt := s.delivered_tilt dt p
  solve := s.delivered_solve dt p
  grade := s.delivered_grade dt p
  combined := State.combined_congr (s.delivered_params dt p) fun _ => by rw [State.delivered_inputs]
  slot := s.delivered_slot dt p

/-! ## The obligation -/

/-- Settles O56. -/
theorem setParamStoresTheValue : Obligations.SetParamStoresTheValue := by
  refine ⟨fun dt p r bytes s short ready bad => ?_, fun dt p r b value name new s short ready number write => ?_⟩
  · exact exec_refused (c := .setParam dt { port := p, ref := r, payload := bytes }) rfl (decide_eq_true short) ready
      (handleSetParam_of_bad (s := s.delivered dt p) (by rwa [State.delivered_params]))
  have wf : (Instr.setParam dt { port := p, ref := r, payload := b :: value }).wf = true := by
    exact decide_eq_true (Nat.succ_le_succ short)
  have params := s.delivered_params dt p
  have checked : handleSetParam p (b :: value) (s.delivered dt p) = setChecked p b name value new (s.delivered dt p) :=
    handleSetParam_of_written number (by rwa [params])
  have other := s.delivered_heldByOther dt p p
  have slot := s.delivered_slot dt p
  have still := s.delivered_still dt p
  have refused {status : Status} {payload : List Byte}
      (e : setChecked p b name value new (s.delivered dt p) = refuse (s.delivered dt p) status payload) :
      exec (.setParam dt { port := p, ref := r, payload := b :: value }) s =
        .next ((s.delivered dt p).answered p 0x04 r status payload) :=
    exec_refused (c := .setParam dt { port := p, ref := r, payload := b :: value }) rfl wf ready (checked.trans e)
  refine ⟨fun held => refused (setChecked_of_held (other.trans held)),
    fun unheld busy => refused (setChecked_of_programming (other.trans unheld) (by rwa [slot])),
    fun unheld idle needs moves => refused (setChecked_of_moving (other.trans unheld) (by rwa [slot]) needs (still.trans moves)),
    fun unheld idle rests instant phases => ?_⟩
  have handled := checked.trans (setChecked_of_passed (b := b) (value := value) (new := new) (other.trans unheld) (by rwa [slot])
    (by rwa [still]))
  have log := s.delivered_log dt p
  have inputs := s.delivered_inputs dt p
  have latch := s.delivered_latch dt p
  have speed := s.delivered_speed dt p
  have store := s.delivered_store dt p
  have path := s.delivered_path dt p
  have now := s.delivered_now dt p
  have settled := State.writeParam_written (name := name) (s := s.delivered dt p) instant (phases.of_slot slot)
  have frame := fun status payload => settled.framed.requestFrame (kind := 0x04) (ref := r) status payload
  have answered := exec_answered (c := .setParam dt { port := p, ref := r, payload := b :: value }) rfl wf ready handled
    (settled.framed.now.trans now)
  have logged (i : CombinerId) (e : name = .combiner i) : State.CombinerWritten i new (s.delivered dt p)
      ((s.delivered dt p).writeParam name new) := by
    subst e
    exact State.combinerWritten _ (by rw [params]; exact Params.write_combiner_limits write) instant (phases.of_slot slot)
  have behind {es : List Event} (h : LoggedFirst (s.delivered dt p) es ((s.delivered dt p).writeParam name new)) :=
    h.answered (status := (adjustedIf (new.valueBytes name != value) (b :: new.valueBytes name)).status)
      (payload := (adjustedIf (new.valueBytes name != value) (b :: new.valueBytes name)).payload) (kind := 0x04) (ref := r)
  have tripUnit := fun (x : TripUnit) (e : name = .tripUnit x) (waits : s.waitingChanges = []) (undecided : s.decideLatch = none) =>
    State.writeParam_tripUnit (s := s.delivered dt p) (x := x) (new := new) (value := value) (by rw [params, ← e]; exact write)
      instant (phases.of_slot slot) (State.delivered_waits waits) ((s.delivered_alike dt p).undecided undecided)
  have mask := fun (q : Port) (e : name = .mask (attnParam q)) (waits : s.waitingChanges = []) (undecided : s.decideLatch = none) =>
    State.writeParam_mask (s := s.delivered dt p) (q := q) (new := new) (value := value) (by rw [params, ← e]; exact write)
      (phases.of_slot slot) (State.delivered_waits waits) ((s.delivered_alike dt p).undecided undecided)
  have waits : s.waitingChanges = [] → (s.delivered dt p).waitingChanges = [] := State.delivered_waits
  generalize s.delivered dt p = v at *
  refine ⟨_, answered, ?_, ?_, fun ppr => ?_, fun ne => ?_, ?_, ?_, ?_, ?_, frame _ _, fun i u e eu => ⟨?_, fun nothing own => ⟨?_, ?_⟩⟩,
    fun nothing undecided => ⟨fun x e => ?_, fun q e => ?_⟩⟩
  · exact (State.answered_params ..).trans settled.params
  · have status : (adjustedIf (new.valueBytes name != value) (b :: new.valueBytes name)).status =
        if new.valueBytes name = value then .ok else .adjusted := by
      unfold adjustedIf
      by_cases same : new.valueBytes name = value <;> simp [same]
    rw [← status]
    exact State.answered_replied ..
  · exact (congrArg SpeedUnit.accumulator (State.answered_speed ..)).trans (settled.travel ppr)
  · exact (State.answered_speed ..).trans ((settled.speed ne).trans speed)
  · exact (State.answered_store ..).trans (settled.store.trans store)
  · exact (State.answered_path ..).trans (settled.path.trans path)
  · exact (State.answered_slot ..).trans (settled.slot.trans slot)
  · rw [State.answered_inputs, settled.trips, inputs]
  · have h := (logged i e).logged
    rw [inputs] at h
    exact eu ▸ behind h
  · have h := (logged i e).combiner (waits nothing) own
    rw [inputs] at h
    rw [State.answered_inputs]
    exact eu ▸ h
  · intro preload first absent demand
    have stands : (State.answered p 0x04 r (adjustedIf (new.valueBytes name != value) (b :: new.valueBytes name)).status
        (adjustedIf (new.valueBytes name != value) (b :: new.valueBytes name)).payload (v.writeParam name new)).combined =
        (v.writeParam name new).combined :=
      State.combined_congr (State.answered_params ..) fun _ => by rw [State.answered_inputs]
    replace demand := stands.symm.trans demand
    rw [State.answered_latch]
    exact (logged i e).abandons (waits nothing) own (latch ▸ preload) (latch ▸ first) (by rwa [State.permit, latch]) demand
  · rw [State.answered_inputs, ← now, ← inputs]
    subst e
    exact tripUnit x rfl nothing undecided
  · have taken := mask q e nothing undecided
    rw [log, show ParamName.mask (attnParam q) = name from e.symm] at taken
    rw [State.answered_log, taken, EventLog.setLine_line, AttnLine.onMask_gapEnd, AttnLine.onMask_asserted, ← EventLog.wants_iff]
    exact ⟨rfl, rfl, fun wants => if_pos wants, fun silent => if_neg silent⟩

end Sys2Proof.Machine
end

section
/-! PROOFS. Credits in the words of R48, R49 and R56: what one leaves, what it depends on, and the speed ceiling timer. -/

namespace Sys2Proof.Machine

/-! ## The speed ceiling timer (R56) -/

theorem State.not_aboveCeiling_of_empty {s : State} (queue : s.path.queue = []) : ¬s.AboveCeiling := by
  rintro ⟨g, rest, c, e, -⟩
  rw [queue] at e
  cases e

theorem State.aboveCeiling_congr {s t : State} (queue : t.path.queue = s.path.queue) (v : t.speed.v = s.speed.v)
    (params : SameSettings s t) : t.AboveCeiling ↔ s.AboveCeiling := by
  have margin : t.params.overspeedMargin = s.params.overspeedMargin := (congrArg Params.overspeedMargin params :)
  rw [State.AboveCeiling, State.AboveCeiling, queue, v, margin]

namespace CeilingTimed

variable {s t u : State}

theorem of_same (queue : t.path.queue = s.path.queue) (since : t.path.ceilingSince = s.path.ceilingSince)
    (v : t.speed.v = s.speed.v) : CeilingTimed s t where
  stands _ _ := since
  runs _ ne := absurd v ne
  fresh ne := absurd queue ne
  stops changed := (changed.elim (absurd queue) (absurd v))

theorem refl (s : State) : CeilingTimed s s := of_same rfl rfl rfl

/-- The current segment has changed, and the watch has started afresh. -/
theorem of_restart (queue : t.path.queue ≠ s.path.queue)
    (since : t.path.ceilingSince = if t.tooFast = true then some t.now else none) : CeilingTimed s t where
  stands same := absurd same queue
  runs same := absurd same queue
  fresh _ above := since.trans (if_pos ((State.tooFast_iff t).mpr above))
  stops _ slow := since.trans (if_neg fun fast => slow ((State.tooFast_iff t).mp fast))

/-- There is no segment left. -/
theorem of_empty (queue : t.path.queue = []) (since : t.path.ceilingSince = none) (v : t.speed.v = s.speed.v)
    (idle : s.path.queue = [] → s.path.ceilingSince = none) : CeilingTimed s t where
  stands same _ := since.trans (idle (same.symm.trans queue)).symm
  runs _ ne := absurd v ne
  fresh _ above := absurd above (State.not_aboveCeiling_of_empty queue)
  stops _ _ := since

/-- The watch has heard of a change of v. -/
theorem of_watch (queue : t.path.queue = s.path.queue) (v : t.speed.v ≠ s.speed.v)
    (since : t.path.ceilingSince = if t.tooFast = true then some (s.path.ceilingSince.getD t.now) else none) :
    CeilingTimed s t where
  stands _ same := absurd same v
  runs _ _ above := since.trans (if_pos ((State.tooFast_iff t).mpr above))
  fresh ne := absurd queue ne
  stops _ slow := since.trans (if_neg fun fast => slow ((State.tooFast_iff t).mp fast))

/-- Two stretches of which one at most changes v; segments only leave the queue. -/
theorem trans (h : CeilingTimed s u) (k : CeilingTimed u t) (now : t.now = u.now) (settings : SameSettings u t)
    (v : u.speed.v = s.speed.v ∨ t.speed.v = u.speed.v) (shrinks : t.path.queue = s.path.queue → u.path.queue = s.path.queue) :
    CeilingTimed s t := by
  have above (queue : t.path.queue = u.path.queue) (v : t.speed.v = u.speed.v) : t.AboveCeiling ↔ u.AboveCeiling :=
    State.aboveCeiling_congr queue v settings
  refine ⟨fun queue same => ?_, fun queue ne fast => ?_, fun ne fast => ?_, fun changed slow => ?_⟩
  · have first := shrinks queue
    have v' : u.speed.v = s.speed.v := v.elim id fun e => e.symm.trans same
    rw [k.stands (queue.trans first.symm) (same.trans v'.symm), h.stands first v']
  · have first := shrinks queue
    have second := queue.trans first.symm
    obtain e | e := v
    · rw [k.runs second (fun e' => ne (e'.trans e)) fast, h.stands first e]
    · rw [k.stands second e, h.runs first (fun e' => ne (e.trans e')) ((above second e).mp fast), now]
  · by_cases second : t.path.queue = u.path.queue
    · have first : u.path.queue ≠ s.path.queue := fun e => ne (second.trans e)
      by_cases e : t.speed.v = u.speed.v
      · rw [k.stands second e, h.fresh first ((above second e).mp fast), now]
      · rw [k.runs second e fast]
        by_cases before : u.AboveCeiling
        · rw [h.fresh first before, now]
          rfl
        · rw [h.stops (.inl first) before]
          rfl
    · exact k.fresh second fast
  · by_cases second : t.path.queue = u.path.queue
    · by_cases e : t.speed.v = u.speed.v
      · rw [k.stands second e]
        refine h.stops ?_ fun fast => slow ((above second e).mpr fast)
        exact changed.imp (fun ne e' => ne (second.trans e')) (fun ne e' => ne (e.trans e'))
      · exact k.stops (.inr e) slow
    · exact k.stops (.inl second) slow

/-- What stands after a stretch stands after one that moves neither path nor v. -/
theorem lasts (h : CeilingTimed s u) (now : t.now = u.now) (settings : SameSettings u t) (path : t.path = u.path)
    (v : t.speed.v = u.speed.v) : CeilingTimed s t :=
  h.trans (of_same (by rw [path]) (by rw [path]) v) now settings (.inr v) fun e => by rw [← e, path]

end CeilingTimed

/-! ## What a credit leaves -/

/-- A credit counts or consumes, and logs; or it ends the hold on top of that. -/
inductive State.CreditTaken (s t : State) : Prop where
  | stays (π : PathUnit) (l : EventLog) (records : s.log.records <+: l.records)
      (timed : CeilingTimed s ((s.setPath π).setLog l)) (shrinks : π.queue <:+ s.path.queue) (eq : t = (s.setPath π).setLog l)
  | ends (π : PathUnit) (l : EventLog) (reason : EndReason) (hold : s.auth.hold ≠ none) (records : s.log.records <+: l.records)
      (eq : t = ((s.setPath π).setLog l).endHold reason)

theorem State.CreditTaken.checkDry {s : State} {π : PathUnit} {l : EventLog} (hold : s.auth.hold ≠ none)
    (records : s.log.records <+: l.records) (timed : CeilingTimed s ((s.setPath π).setLog l)) (shrinks : π.queue <:+ s.path.queue) :
    s.CreditTaken ((s.setPath π).setLog l).checkDry := by
  unfold State.checkDry
  split
  · exact .ends π l .dry hold records rfl
  · exact .stays π l records timed shrinks rfl

theorem State.logDone_eq (done : List Segment) (s : State) : s.logDone done = s.logEvents (done.map fun g => .pathDone g.tag) := by
  rw [State.logDone, State.logEvents, List.foldl_map]

theorem State.logDone_setLog (done : List Segment) (s : State) :
    ∃ l, s.log.records <+: l.records ∧ s.logDone done = s.setLog l := by
  have grows := (State.logDone_latchMove done s).consequence.grows.1
  rw [State.logDone_eq] at grows ⊢
  obtain ⟨l, e⟩ := State.logEvents_eq (done.map fun g => Event.pathDone g.tag) s
  rw [e] at grows ⊢
  exact ⟨l, grows, rfl⟩

theorem consume_length (pos : Nat) (queue : List Segment) (n : Nat) :
    (consume pos queue n).done ++ (consume pos queue n).queue = queue := by
  induction queue generalizing pos n with
  | nil => rfl
  | cons g rest ih =>
    unfold consume
    split
    · rfl
    · exact congrArg (g :: ·) (ih ..)

theorem State.ranOut_taken {s : State} {π : PathUnit} {l : EventLog} (last : Segment) (left : Nat) (hold : s.auth.hold ≠ none)
    (some : s.path.queue ≠ []) (records : s.log.records <+: l.records) (empty : π.queue = []) :
    s.CreditTaken (((s.setPath π).setLog l).ranOut last left) := by
  unfold State.ranOut
  split
  · exact .ends π l .done hold records rfl
  · set ρ : PathUnit := { π with held := .some last.k1, dryCount := left, ceilingSince := none }
    have logged := (State.logEvent_consequence (.pathDry false) ((s.setPath ρ).setLog l)).grows.1
    refine State.CreditTaken.checkDry (s := s) (π := ρ) (l := (((s.setPath ρ).setLog l).logEvent (.pathDry false)).log) hold
      (records.trans logged) (.of_empty empty rfl rfl fun e => absurd e some) ?_
    rw [show ρ.queue = [] from empty]
    exact List.nil_suffix

theorem State.consumeCredit_taken (n : Nat) {s : State} (hold : s.auth.hold ≠ none) (some : s.path.queue ≠ []) :
    s.CreditTaken (s.consumeCredit n) := by
  unfold State.consumeCredit
  dsimp only
  have split_ := consume_length s.path.pos s.path.queue n
  generalize consume s.path.pos s.path.queue n = r at split_ ⊢
  obtain ⟨l, records, logged⟩ := State.logDone_setLog r.done (s.setPath { s.path with queue := r.queue, pos := r.pos })
  rw [logged]
  have suffix : r.queue <:+ s.path.queue := ⟨r.done, split_⟩
  split
  next nothing =>
    have done : r.done = [] := List.getLast?_eq_none_iff.mp nothing
    rw [done, List.nil_append] at split_
    exact .stays { s.path with queue := r.queue, pos := r.pos } l records (.of_same split_ rfl rfl) suffix rfl
  next last more =>
    have done : r.done ≠ [] := fun e => by
      rw [e] at more
      cases more
    split
    next empty => exact State.ranOut_taken last r.left hold some records (List.isEmpty_iff.mp empty)
    next =>
      have shorter : r.queue ≠ s.path.queue := fun e => done (List.append_left_eq_self.mp (split_.trans e.symm))
      refine .stays { s.path with queue := r.queue, pos := r.pos, ceilingSince :=
        if ((s.setPath { s.path with queue := r.queue, pos := r.pos }).setLog l).tooFast then .some s.now else none } l records ?_ suffix rfl
      exact .of_restart shorter rfl

theorem State.credit_taken (n : Nat) (s : State) : s.CreditTaken (s.credit n) := by
  have nothing : s.CreditTaken s := .stays s.path s.log (List.prefix_refl _) (.refl s) (List.suffix_refl _) rfl
  unfold State.credit
  split
  · exact nothing
  · split
    next => exact nothing
    next h _ e empty =>
      exact State.CreditTaken.checkDry (s := s) (π := { s.path with dryCount := s.path.dryCount + n }) (l := s.log)
        (e ▸ Option.some_ne_none _) (List.prefix_refl _) (.of_same rfl rfl rfl) (List.suffix_refl _)
    next h g rest e queue =>
      exact State.consumeCredit_taken n (e ▸ Option.some_ne_none _) (queue ▸ List.cons_ne_nil _ _)

end Sys2Proof.Machine
end

section
/-! PROOFS. What a credit leaves outside the path unit, and on what its effect depends (R48, R49, R53). -/

namespace Sys2Proof.Machine

/-! ## What goes on beside the speed unit -/

/-- Beside the speed unit, the path and what follows from both, only the log and the trip set have changed, at their tails. -/
structure Onward (s t : State) : Prop where
  now : t.now = s.now
  outside : SameOutside s t
  angles : SameAngles s t
  switches : SameSwitches s t
  settings : SameSettings s t
  grows : OnlyGrows s t

theorem Onward.of {s t : State} (now : t.now = s.now := by rfl) (outside : SameOutside s t := by exact ⟨rfl, rfl, rfl, rfl, rfl⟩)
    (angles : SameAngles s t := by exact ⟨rfl, rfl, rfl, rfl⟩) (switches : SameSwitches s t := by exact fun _ => rfl)
    (settings : SameSettings s t := by exact rfl) (records : s.log.records <+: t.log.records := by exact List.prefix_refl _)
    (trips : t.inputs.trips = s.inputs.trips := by rfl) : Onward s t :=
  ⟨now, outside, angles, switches, settings, records, trips ▸ List.prefix_refl _⟩

theorem Onward.refl (s : State) : Onward s s := .of

theorem Consequence.onward {s t : State} (c : Consequence s t) : Onward s t :=
  ⟨c.now, c.outside, c.angles, c.switches, c.settings, c.grows⟩

theorem Onward.trans {s t u : State} (h : Onward s t) (k : Onward t u) : Onward s u where
  now := k.now.trans h.now
  outside := ⟨k.outside.pending.trans h.outside.pending, k.outside.pins.trans h.outside.pins, k.outside.portA.trans h.outside.portA,
    k.outside.portB.trans h.outside.portB, k.outside.store.trans h.outside.store⟩
  angles := by
    obtain ⟨a, b, c, d⟩ := h.angles
    obtain ⟨a', b', c', d'⟩ := k.angles
    exact ⟨a'.trans a, b'.trans b, c'.trans c, d'.trans d⟩
  switches i := (k.switches i).trans (h.switches i)
  settings := Eq.trans k.settings h.settings
  grows := ⟨h.grows.1.trans k.grows.1, h.grows.2.trans k.grows.2⟩

theorem LoggedFirst.onward {s t u : State} {es : List Event} (h : LoggedFirst s es t) (k : Onward t u) : LoggedFirst s es u := by
  rw [LoggedFirst, k.now]
  exact h.trans k.grows.1

/-- The speed unit without the withheld count and the credit passed on. -/
def SpeedUnit.core (u : SpeedUnit) : SpeedUnit := { u with withheld := 0, passed := none }

theorem Consequence.core {s t : State} (c : Consequence s t) : t.speed.core = s.speed.core := by
  obtain e | e := c.speed <;> rw [e]
  rfl

/-! ## A credit -/

theorem SameSettings.symm {s t : State} (h : SameSettings s t) : SameSettings t s := Eq.symm h

/-- A credit that leaves the hold leaves the speed unit; one that ends it discards the withheld count (R16, R53). -/
structure State.CreditLeaves (s t : State) : Prop where
  onward : Onward s t
  run : t.latch.run = s.latch.run
  speed : SameSpeed s t
  auth : (t.auth = s.auth ∧ t.speed = s.speed ∧ t.slot = s.slot ∧ t.tilt = s.tilt ∧ t.steer = s.steer ∧ t.params = s.params ∧
      t.path.queue <:+ s.path.queue) ∨
    (s.auth.hold ≠ none ∧ t.auth = { s.auth with hold := none } ∧ t.path = .empty ∧ t.speed.withheld = 0)

theorem State.CreditTaken.leaves {s t : State} (h : s.CreditTaken t) : s.CreditLeaves t := by
  cases h
  case stays π l records timed shrinks eq =>
    subst eq
    exact ⟨.of (records := records), rfl, .inl rfl, .inl ⟨rfl, rfl, rfl, rfl, rfl, rfl, shrinks⟩⟩
  case ends π l reason hold records eq =>
    subst eq
    have ended := State.endHold_consequence reason ((s.setPath π).setLog l)
    obtain ⟨h, held⟩ := Option.ne_none_iff_exists'.mp hold
    have parts := State.endHold_ended reason (s := (s.setPath π).setLog l) held
    obtain ⟨-, -, -, run, -⟩ := ended.latchClock
    refine ⟨Onward.trans (t := (s.setPath π).setLog l) (.of (records := records)) ended.onward, run, ended.speed,
      .inr ⟨hold, parts.auth, parts.path, ?_⟩⟩
    rw [parts.speed]

theorem State.credit_leaves (n : Nat) (s : State) : s.CreditLeaves (s.credit n) := (State.credit_taken n s).leaves

theorem State.CreditLeaves.core {s t : State} (h : s.CreditLeaves t) : t.speed.core = s.speed.core := by
  obtain e | e := h.speed <;> rw [e]
  rfl

theorem SpeedUnit.v_of_core {u v : SpeedUnit} (core : v.core = u.core) : v.v = u.v := (congrArg SpeedUnit.v core :)

/-- What a credit makes of the speed ceiling timer (R56). -/
theorem State.credit_timed (n : Nat) {s : State} (idle : s.path.queue = [] → s.path.ceilingSince = none) :
    CeilingTimed s (s.credit n) := by
  have leaves := State.credit_leaves n s
  have v := SpeedUnit.v_of_core leaves.core
  obtain ⟨π, l, records, timed, shrinks, eq⟩ | ⟨π, l, reason, hold, records, eq⟩ := State.credit_taken n s
  · rwa [eq]
  · obtain ⟨-, path, -⟩ := State.endHold_parts reason (s := (s.setPath π).setLog l) hold
    rw [eq] at v ⊢
    exact .of_empty (by rw [path]; rfl) (by rw [path]; rfl) v idle

theorem State.credit_shrinks (n : Nat) (s : State) : (s.credit n).path.queue <:+ s.path.queue := by
  obtain ⟨-, -, -, -, -, -, shrinks⟩ | ⟨-, -, path, -⟩ := (State.credit_leaves n s).auth
  · exact shrinks
  · rw [path]
    exact List.nil_suffix

/-! ## What the effect of a credit depends on -/

/-- The hold, the path but for its watch, and DRY_DISTANCE are the same. -/
structure PathAlike (s t : State) : Prop where
  auth : t.auth = s.auth
  path : { t.path with ceilingSince := none } = { s.path with ceilingSince := none }
  dry : t.params.dryDistance = s.params.dryDistance

namespace PathAlike

variable {s t : State}

theorem queue (h : PathAlike s t) : t.path.queue = s.path.queue := (congrArg PathUnit.queue h.path :)

theorem setPath (h : PathAlike s t) {π ρ : PathUnit} (same : { ρ with ceilingSince := none } = { π with ceilingSince := none }) :
    PathAlike (s.setPath π) (t.setPath ρ) := ⟨h.auth, same, h.dry⟩

theorem setLog (h : PathAlike s t) (l m : EventLog) : PathAlike (s.setLog l) (t.setLog m) := ⟨h.auth, h.path, h.dry⟩

theorem logDone (h : PathAlike s t) (done : List Segment) : PathAlike (s.logDone done) (t.logDone done) := by
  obtain ⟨l, -, e⟩ := State.logDone_setLog done s
  obtain ⟨m, -, e'⟩ := State.logDone_setLog done t
  rw [e, e']
  exact h.setLog l m

theorem endHold (h : PathAlike s t) (reason : EndReason) (hold : s.auth.hold ≠ none) :
    PathAlike (s.endHold reason) (t.endHold reason) := by
  obtain ⟨auth, path, -⟩ := State.endHold_parts reason hold
  obtain ⟨auth', path', -⟩ := State.endHold_parts reason (s := t) (h.auth ▸ hold)
  exact ⟨by rw [auth, auth', h.auth], by rw [path, path'], by rw [State.endHold_params, State.endHold_params, h.dry]⟩

theorem checkDry (h : PathAlike s t) (hold : s.auth.hold ≠ none) : PathAlike s.checkDry t.checkDry := by
  have count : t.path.dryCount = s.path.dryCount := (congrArg PathUnit.dryCount h.path :)
  unfold State.checkDry
  rw [count, h.dry]
  split
  · exact h.endHold .dry hold
  · exact h

theorem ranOut (h : PathAlike s t) (last : Segment) (left : Nat) (hold : s.auth.hold ≠ none) :
    PathAlike (s.ranOut last left) (t.ranOut last left) := by
  unfold State.ranOut
  split
  · exact h.endHold .done hold
  · refine PathAlike.checkDry (PathAlike.setLog (h.setPath ?_) _ _) hold
    exact (congrArg (fun π : PathUnit => { π with held := some last.k1, dryCount := left, ceilingSince := none }) h.path :)

theorem consumeCredit (h : PathAlike s t) (n : Nat) (hold : s.auth.hold ≠ none) :
    PathAlike (s.consumeCredit n) (t.consumeCredit n) := by
  have pos : t.path.pos = s.path.pos := (congrArg PathUnit.pos h.path :)
  unfold State.consumeCredit
  rw [h.queue, pos]
  dsimp only
  generalize consume s.path.pos s.path.queue n = r
  have logged := PathAlike.logDone (h.setPath (π := { s.path with queue := r.queue, pos := r.pos })
    (ρ := { t.path with queue := r.queue, pos := r.pos })
    (congrArg (fun π : PathUnit => { π with queue := r.queue, pos := r.pos }) h.path :)) r.done
  have auth := (State.logDone_latchMove r.done (s.setPath { s.path with queue := r.queue, pos := r.pos })).auth
  split
  · exact logged
  · split
    · exact logged.ranOut _ _ (by rw [auth]; exact hold)
    · exact logged.setPath logged.path

/-- Alike before a credit, alike after it. -/
theorem credit (h : PathAlike s t) (n : Nat) : PathAlike (s.credit n) (t.credit n) := by
  by_cases zero : n = 0
  · rw [zero, State.credit_zero, State.credit_zero]
    exact h
  by_cases hold : s.auth.hold = none
  · rw [State.credit, State.credit, h.auth, hold, if_neg zero, if_neg zero]
    exact h
  have some : 0 < n := by omega
  have hold' : t.auth.hold ≠ none := h.auth ▸ hold
  cases queue : s.path.queue with
  | nil =>
    rw [State.credit_of_dry hold queue some, State.credit_of_dry hold' (h.queue.trans queue) some]
    have count : t.path.dryCount = s.path.dryCount := (congrArg PathUnit.dryCount h.path :)
    rw [count]
    refine PathAlike.checkDry (h.setPath ?_) hold
    exact (congrArg (fun π : PathUnit => { π with dryCount := s.path.dryCount + n }) h.path :)
  | cons g rest =>
    rw [State.credit_of_queue hold queue some, State.credit_of_queue hold' (h.queue.trans queue) some]
    exact h.consumeCredit n hold

/-- A credit taken on the way, in the words of R48. -/
theorem credited (h : PathAlike s t) (n : Nat) {u : State} (auth : u.auth = (t.credit n).auth) (path : u.path = (t.credit n).path) :
    Credited n s u := by
  have alike := h.credit n
  exact ⟨auth.trans alike.auth, by rw [path]; exact alike.path⟩

end PathAlike

end Sys2Proof.Machine
end

section
/-! PROOFS. The recomputation of the estimate, and a wheel record that takes a new value (R4, R7 to R9, R12, R13, R15). -/

namespace Sys2Proof.Machine

/-! ## The speed unit of a recomputation -/

theorem SpeedUnit.recomputed_from (u : SpeedUnit) (now : Nat) : RecomputedFrom now u (u.recomputed now) := by
  have suspects (r l f : Bool) : estimateOf r l f = .suspect ↔ ((r && l) || (r && f) || (l && f)) = true := by
    cases r <;> cases l <;> cases f <;> decide
  have rises (old new : EstimateState) (since : Option Nat) : new = .suspect →
      suspectTimer old new since now = if old = .good then some now else since := by
    rintro rfl
    cases old <;> rfl
  have sources (b : Bool) : sourceOf b = .frontL ↔ b = true := by cases b <;> decide
  refine ⟨rfl, fun w => by cases w <;> rfl, (suspects ..).trans ⟨fun two => ?_, ?_⟩, fun good => ?_, fun suspect => ⟨?_, ?_⟩,
    sources _⟩
  · simp only [Bool.or_eq_true, Bool.and_eq_true] at two
    obtain (⟨r, l⟩ | ⟨r, f⟩) | ⟨l, f⟩ := two
    · exact ⟨.rear, .frontL, by decide, r, l⟩
    · exact ⟨.rear, .frontR, by decide, r, f⟩
    · exact ⟨.frontL, .frontR, by decide, l, f⟩
  · rintro ⟨w, x, ne, ow, ox⟩
    simp only [Bool.or_eq_true, Bool.and_eq_true]
    cases w <;> cases x
    case rear.rear | frontL.frontL | frontR.frontR => exact absurd rfl ne
    case rear.frontL => exact .inl (.inl ⟨ow, ox⟩)
    case frontL.rear => exact .inl (.inl ⟨ox, ow⟩)
    case rear.frontR => exact .inl (.inr ⟨ow, ox⟩)
    case frontR.rear => exact .inl (.inr ⟨ox, ow⟩)
    case frontL.frontR => exact .inr ⟨ow, ox⟩
    case frontR.frontL => exact .inr ⟨ox, ow⟩
  · have v : (u.recomputed now).v = (u.recomputed now).median := if_pos good
    cases old : u.estimate with
    | good => exact .inr ⟨rfl, v⟩
    | suspect =>
      refine .inl ⟨v, ?_⟩
      show suspectTimer u.estimate (u.recomputed now).estimate u.suspectSince now = none
      rw [old, good]
      rfl
  · exact if_neg (by
      show (u.recomputed now).estimate ≠ .good
      rw [suspect]
      exact nofun)
  · exact rises _ _ _ suspect

theorem SpeedUnit.eq_of_core {u v : SpeedUnit} (core : v.core = u.core) :
    v = { u with withheld := v.withheld, passed := v.passed } := by
  have e : ({ v.core with withheld := v.withheld, passed := v.passed } : SpeedUnit) =
      { u.core with withheld := v.withheld, passed := v.passed } := by rw [core]
  exact e

theorem SpeedUnit.wheel_of_core {u v : SpeedUnit} (core : v.core = u.core) (w : Wheel) : v.wheel w = u.wheel w := by
  rw [SpeedUnit.eq_of_core core]
  cases w <;> rfl

theorem RecomputedFrom.of_core {now : Nat} {u v x : SpeedUnit} (h : RecomputedFrom now u v) (core : x.core = v.core) :
    RecomputedFrom now u x := by
  have wheel := SpeedUnit.wheel_of_core core
  have rear : x.rear = v.rear := wheel .rear
  have frontL : x.frontL = v.frontL := wheel .frontL
  have frontR : x.frontR = v.frontR := wheel .frontR
  have median : x.median = v.median := (congrArg SpeedUnit.median core :)
  have estimate : x.estimate = v.estimate := (congrArg SpeedUnit.estimate core :)
  have speed := SpeedUnit.v_of_core core
  have since : x.suspectSince = v.suspectSince := (congrArg SpeedUnit.suspectSince core :)
  have source : x.source = v.source := (congrArg SpeedUnit.source core :)
  unfold RecomputedFrom at h ⊢
  rw [median, estimate, speed, since, source, rear, frontL, frontR]
  simp only [wheel]
  exact h

theorem RecomputedFrom.of_setWheel {now : Nat} {w : Wheel} {r : WheelRec} {u v : SpeedUnit}
    (h : RecomputedFrom now (u.setWheel w r) v) : RecomputedFrom now u v := by
  cases w <;> exact h

theorem recomputedEvents_congr {u v u' v' : SpeedUnit} (odd : ∀ w, (u'.wheel w).odd = (u.wheel w).odd)
    (estimate : u'.estimate = u.estimate) (source : u'.source = u.source) (core : v'.core = v.core) :
    recomputedEvents u' v' = recomputedEvents u v := by
  have odd' (w : Wheel) : (v'.wheel w).odd = (v.wheel w).odd := by rw [SpeedUnit.wheel_of_core core]
  have estimate' : v'.estimate = v.estimate := (congrArg SpeedUnit.estimate core :)
  have source' : v'.source = v.source := (congrArg SpeedUnit.source core :)
  simp only [recomputedEvents, odd, odd', estimate, estimate', source, source']

theorem SpeedUnit.setWheel_odd {u : SpeedUnit} {w : Wheel} {r : WheelRec} (odd : r.odd = (u.wheel w).odd) (x : Wheel) :
    ((u.setWheel w r).wheel x).odd = (u.wheel x).odd := by
  rw [SpeedUnit.wheel_setWheel]
  split
  next e => rw [e, odd]
  next => rfl

theorem recomputedEvents_self (u : SpeedUnit) : recomputedEvents u u = [] := by
  simp [recomputedEvents]

/-! ## The recomputation (R7, R12) -/

theorem State.logOdd_eq (w : Wheel) (old new : Bool) (s : State) :
    s.logOdd w old new = s.logEvents (if old != new then [.wheelOdd w new] else []) := by
  unfold State.logOdd
  split <;> rfl

theorem map_filter_cons {α β : Type} (p : α → Bool) (f : α → β) (x : α) (xs : List α) :
    ((x :: xs).filter p).map f = (if p x = true then [f x] else []) ++ (xs.filter p).map f := by
  rw [List.filter_cons]
  split <;> rfl

theorem State.logRecomputed_eq (old new : SpeedUnit) (s : State) :
    s.logRecomputed old new = s.logEvents (recomputedEvents old new) := by
  have estimate : (if old.estimate ≠ new.estimate then [Event.speedSuspect (new.estimate = .suspect)] else []) =
      if old.estimate = new.estimate then [] else [.speedSuspect (new.estimate = .suspect)] := ite_not ..
  have source : (if old.source ≠ new.source then [Event.travelSource new.source] else []) =
      if old.source = new.source then [] else [.travelSource new.source] := ite_not ..
  have logged (c : Prop) [Decidable c] (e : Event) (t : State) :
      (if c then t.logEvent e else t) = t.logEvents (if c then [e] else []) := by split <;> rfl
  have odds : (if (old.rear.odd != new.rear.odd) = true then [Event.wheelOdd .rear new.rear.odd] else []) ++
      (if (old.frontL.odd != new.frontL.odd) = true then [Event.wheelOdd .frontL new.frontL.odd] else []) ++
      (if (old.frontR.odd != new.frontR.odd) = true then [Event.wheelOdd .frontR new.frontR.odd] else []) =
      ([.rear, .frontL, .frontR].filter fun w => (old.wheel w).odd != (new.wheel w).odd).map
        fun w => Event.wheelOdd w (new.wheel w).odd := by
    rw [map_filter_cons, map_filter_cons, map_filter_cons, List.filter_nil, List.map_nil, List.append_nil, List.append_assoc]
    rfl
  unfold State.logRecomputed recomputedEvents
  dsimp only
  rw [State.logOdd_eq, State.logOdd_eq, State.logOdd_eq, logged, logged, estimate, source, ← State.logEvents_append,
    ← State.logEvents_append, ← State.logEvents_append, ← State.logEvents_append]
  rw [← odds]
  simp only [List.append_assoc]

/-- The part with the estimate recomputed, its records logged, and the watch told of a change of v. -/
def State.remeasured (s : State) : State :=
  let u := (s.setSpeed (s.speed.recomputed s.now)).logEvents (recomputedEvents s.speed (s.speed.recomputed s.now))
  if s.speed.v ≠ (s.speed.recomputed s.now).v then u.watchCeiling else u

theorem State.recompute_eq (s : State) : s.recompute =
    if s.speed.estimate = .suspect ∧ (s.speed.recomputed s.now).estimate = .good then s.remeasured.handOn.releaseWithheld
    else s.remeasured.handOn := by
  unfold State.recompute State.remeasured
  simp only [State.logRecomputed_eq, Bool.and_eq_true, decide_eq_true_eq]

theorem State.logEvents_records (es : List Event) (s : State) : s.log.records <+: (s.logEvents es).log.records := by
  induction es generalizing s with
  | nil => exact List.prefix_refl _
  | cons e es ih => exact (State.logEvent_consequence e s).grows.1.trans (ih (s.logEvent e))

theorem State.remeasured_parts (s : State) : ∃ l, l = (s.logEvents (recomputedEvents s.speed (s.speed.recomputed s.now))).log ∧
    s.remeasured = ((s.setSpeed (s.speed.recomputed s.now)).setLog l).setPath
      (if s.speed.v ≠ (s.speed.recomputed s.now).v then
        { s.path with ceilingSince :=
            if (s.setSpeed (s.speed.recomputed s.now)).tooFast then some (s.path.ceilingSince.getD s.now) else none }
      else s.path) := by
  set u := s.speed.recomputed s.now with hu
  obtain ⟨l, e⟩ := State.logEvents_eq (recomputedEvents s.speed u) (s.setSpeed u)
  have log : l = (s.logEvents (recomputedEvents s.speed u)).log := by
    have swap : ((s.setSpeed u).logEvents (recomputedEvents s.speed u)).log = (s.logEvents (recomputedEvents s.speed u)).log := by
      suffices ∀ (es : List Event) (t : State), ((t.setSpeed u).logEvents es).log = (t.logEvents es).log from this _ s
      intro es
      induction es with
      | nil => exact fun _ => rfl
      | cons e es ih => exact fun t => ih (t.logEvent e)
    rw [← swap, e]
    rfl
  refine ⟨l, log, ?_⟩
  unfold State.remeasured
  rw [← hu, e]
  dsimp only
  split <;> rfl

/-- What stands behind the watch. -/
theorem State.remeasured_stands (s : State) : Onward s s.remeasured ∧ s.remeasured.speed = s.speed.recomputed s.now ∧
    s.remeasured.auth = s.auth ∧ PathAlike s s.remeasured ∧ s.remeasured.slot = s.slot ∧ s.remeasured.params = s.params ∧
    s.remeasured.latch = s.latch ∧ s.remeasured.tilt = s.tilt ∧ s.remeasured.steer = s.steer := by
  obtain ⟨l, log, parts⟩ := s.remeasured_parts
  have records : s.log.records <+: l.records := by
    rw [log]
    exact State.logEvents_records _ _
  rw [parts]
  refine ⟨.of (records := records), rfl, rfl, ⟨rfl, ?_, rfl⟩, rfl, rfl, rfl, rfl, rfl⟩
  rw [State.setPath_path]
  split <;> rfl

theorem State.remeasured_timed (s : State) : CeilingTimed s s.remeasured := by
  obtain ⟨l, log, parts⟩ := s.remeasured_parts
  rw [parts]
  by_cases changed : s.speed.v = (s.speed.recomputed s.now).v
  · rw [if_neg (not_not.mpr changed)]
    exact .of_same rfl rfl changed.symm
  · rw [if_pos changed]
    exact .of_watch rfl (fun e => changed e.symm) rfl

/-- Behind the watch no timer runs without a segment. -/
theorem State.remeasured_idle {s : State} (idle : s.path.queue = [] → s.path.ceilingSince = none)
    (empty : s.remeasured.path.queue = []) : s.remeasured.path.ceilingSince = none := by
  obtain ⟨-, -, -, alike, -⟩ := s.remeasured_stands
  have none : s.path.queue = [] := alike.queue.symm.trans empty
  obtain ⟨l, log, parts⟩ := s.remeasured_parts
  rw [parts, State.setPath_path]
  split
  · have slow : (s.setSpeed (s.speed.recomputed s.now)).tooFast = false := by
      rw [State.tooFast, State.setSpeed_path, none]
    exact if_neg (by rw [slow]; exact nofun)
  · exact idle none

end Sys2Proof.Machine
end

section
/-! PROOFS. What a recomputation leaves of the withheld travel, the path and the log (R12, R15, R16, R56). -/

namespace Sys2Proof.Machine

/-- The wheels have been measured anew, and what follows has been taken: see R12, R15, R16 and R56. -/
structure State.Measured (s t : State) : Prop where
  onward : Onward s t
  run : t.latch.run = s.latch.run
  accumulator : t.speed.accumulator = s.speed.accumulator
  logged : LoggedFirst s (recomputedEvents s.speed t.speed) t
  returns : s.params.noInstantTrip → s.speed.estimate = .suspect → t.speed.estimate = .good → t.speed.withheld = 0 ∧
    Credited s.speed.withheld s t ∧ t.speed.passed = if s.auth.hold = none ∧ 0 < s.speed.withheld then
      some { cm := s.speed.passedAt s.now + s.speed.withheld, at_ := s.now } else s.speed.passed
  stays : s.params.noInstantTrip → s.speed.estimate = .good ∨ t.speed.estimate = .suspect →
    t.speed.withheld = s.speed.withheld ∧ Credited 0 s t ∧ t.speed.passed = s.speed.passed
  silent : s.params.noInstantTrip → s.speed.estimate = .suspect → t.speed.estimate = .suspect → t.path = s.path
  timed : s.params.noInstantTrip → (s.path.queue = [] → s.path.ceilingSince = none) → CeilingTimed s t
  shrinks : s.params.noInstantTrip → t.path.queue <:+ s.path.queue

namespace State.Measured

variable {s t u : State}

theorem estimate_of_core {u v : SpeedUnit} (core : v.core = u.core) : v.estimate = u.estimate := (congrArg SpeedUnit.estimate core :)

/-- Consequences that move neither path, authority nor speed, where no trip fires at once, follow. -/
theorem lasts (h : s.Measured u) (c : Consequence u t) (q : u.params.noInstantTrip → Quiet u t) : s.Measured t := by
  have quiet (instant : s.params.noInstantTrip) := q (h.onward.settings.noInstantTrip instant)
  have estimate := estimate_of_core c.core
  obtain ⟨-, -, -, run, -⟩ := c.latchClock
  refine ⟨h.onward.trans c.onward, run.trans h.run, (congrArg SpeedUnit.accumulator c.core :).trans h.accumulator, ?_,
    fun instant old new => ?_, fun instant cause => ?_, fun instant old new => ?_, fun instant idle => ?_, fun instant => ?_⟩
  · rw [recomputedEvents_congr (u := s.speed) (v := u.speed) (fun _ => rfl) rfl rfl c.core]
    exact h.logged.onward c.onward
  · obtain ⟨withheld, ⟨auth, path⟩, passed⟩ := h.returns instant old (estimate.symm.trans new)
    rw [(quiet instant).speed]
    exact ⟨withheld, ⟨(quiet instant).auth.trans auth, by rw [(quiet instant).path]; exact path⟩, passed⟩
  · obtain ⟨withheld, ⟨auth, path⟩, passed⟩ := h.stays instant (cause.imp id estimate.symm.trans)
    rw [(quiet instant).speed]
    exact ⟨withheld, ⟨(quiet instant).auth.trans auth, by rw [(quiet instant).path]; exact path⟩, passed⟩
  · exact (quiet instant).path.trans (h.silent instant old (estimate.symm.trans new))
  · exact (h.timed instant idle).lasts c.now c.settings (quiet instant).path (by rw [(quiet instant).speed])
  · rw [(quiet instant).path]
    exact h.shrinks instant

/-- A wheel record that keeps its ODD state was put in place first. -/
theorem of_setWheel {w : Wheel} {r : WheelRec} (odd : r.odd = (s.speed.wheel w).odd)
    (h : (s.setSpeed (s.speed.setWheel w r)).Measured t) : s.Measured t := by
  have same : (s.speed.setWheel w r).estimate = s.speed.estimate ∧ (s.speed.setWheel w r).source = s.speed.source ∧
      (s.speed.setWheel w r).withheld = s.speed.withheld ∧ (s.speed.setWheel w r).passed = s.speed.passed ∧
      (s.speed.setWheel w r).accumulator = s.speed.accumulator ∧ (s.speed.setWheel w r).v = s.speed.v := by
    cases w <;> exact ⟨rfl, rfl, rfl, rfl, rfl, rfl⟩
  obtain ⟨estimate, source, withheld, passed, accumulator, v⟩ := same
  have alike : PathAlike s (s.setSpeed (s.speed.setWheel w r)) := ⟨rfl, rfl, rfl⟩
  have credits {n : Nat} (c : Credited n (s.setSpeed (s.speed.setWheel w r)) t) : Credited n s t := by
    obtain ⟨auth, path⟩ := c
    have after := alike.credit n
    exact ⟨auth.trans after.auth, path.trans after.path⟩
  have at_ : (s.speed.setWheel w r).passedAt s.now = s.speed.passedAt s.now := by
    rw [SpeedUnit.passedAt, passed, SpeedUnit.passedAt]
  refine ⟨Onward.trans (t := s.setSpeed (s.speed.setWheel w r)) .of h.onward, h.run, h.accumulator.trans accumulator, ?_,
    fun instant old new => ?_, fun instant cause => ?_, fun instant old => h.silent instant (estimate.trans old),
    fun instant idle => ?_, h.shrinks⟩
  · rw [recomputedEvents_congr (u := (s.speed.setWheel w r)) (v := t.speed) (fun x => (SpeedUnit.setWheel_odd odd x).symm)
      estimate.symm source.symm rfl]
    exact h.logged
  · obtain ⟨zero, credited, pass⟩ := h.returns instant (estimate.trans old) new
    rw [State.setSpeed_speed, withheld] at credited pass
    rw [passed] at pass
    exact ⟨zero, credits credited, pass.trans (by rw [State.setSpeed_now, at_]; rfl)⟩
  · obtain ⟨zero, credited, pass⟩ := h.stays instant (cause.imp estimate.trans id)
    exact ⟨zero.trans withheld, credits credited, pass.trans passed⟩
  · exact (CeilingTimed.of_same (s := s) (t := s.setSpeed (s.speed.setWheel w r)) rfl rfl v).trans (h.timed instant idle)
      h.onward.now h.onward.settings (.inl v) fun _ => rfl

end State.Measured

/-- A part whose speed unit has not been touched but for a wheel record. -/
theorem State.measured_refl (s : State) : s.Measured s where
  onward := .refl s
  run := rfl
  accumulator := rfl
  logged := by
    rw [recomputedEvents_self]
    exact .of_logEvents rfl (List.prefix_refl _)
  returns _ old new := nomatch old.symm.trans new
  stays _ _ := ⟨rfl, by rw [Credited, State.credit_zero]; exact ⟨rfl, rfl⟩, rfl⟩
  silent _ _ _ := rfl
  timed _ _ := .refl s
  shrinks _ := List.suffix_refl _

theorem SpeedUnit.recomputed_passedAt (u : SpeedUnit) (now n : Nat) : (u.recomputed now).passedAt n = u.passedAt n := rfl

theorem SpeedUnit.passOn_core (u : SpeedUnit) (held : Bool) (now : Nat) : (u.passOn held now).core = u.core := rfl

theorem SpeedUnit.passOn_passed (u : SpeedUnit) (held : Bool) (now : Nat) : (u.passOn held now).passed =
    if held = false ∧ 0 < u.withheld then some { cm := u.passedAt now + u.withheld, at_ := now } else u.passed := by
  have clean : 0 < u.withheld ↔ u.withheld ≠ 0 := Nat.pos_iff_ne_zero
  unfold SpeedUnit.passOn
  cases held <;> by_cases zero : u.withheld = 0 <;> simp [zero, clean]

/-- The release of the withheld count (R15, R16). -/
theorem State.releaseWithheld_leaves (s : State) : Onward s s.releaseWithheld ∧
    s.releaseWithheld.speed = s.speed.passOn s.auth.hold.isSome s.now ∧ s.releaseWithheld.latch.run = s.latch.run := by
  set w := s.setSpeed (s.speed.passOn s.auth.hold.isSome s.now)
  have leaves : w.CreditLeaves s.releaseWithheld := State.credit_leaves s.speed.withheld w
  refine ⟨Onward.trans (t := w) .of leaves.onward, ?_, leaves.run⟩
  obtain e | e := leaves.speed
  · exact e
  · exact e

/-- The recomputation (R7, R12, R15). -/
theorem State.recompute_measured (s : State) : s.Measured s.recompute ∧
    s.recompute.speed.core = (s.speed.recomputed s.now).core := by
  obtain ⟨onward, speed, auth, alike, slot, params, latch, -⟩ := s.remeasured_stands
  have timed := s.remeasured_timed
  have idle := fun h e => State.remeasured_idle (s := s) h e
  obtain ⟨l, log, parts⟩ := s.remeasured_parts
  have logged : LoggedFirst s (recomputedEvents s.speed (s.speed.recomputed s.now)) s.remeasured := by
    refine .of_logEvents onward.now ?_
    rw [parts, ← log]
    exact List.prefix_refl _
  have same : (s.speed.recomputed s.now).estimate = .suspect → s.remeasured.path = s.path := fun suspect => by
    have v : (s.speed.recomputed s.now).v = s.speed.v := if_neg (by
      show (s.speed.recomputed s.now).estimate ≠ .good
      rw [suspect]
      exact nofun)
    rw [parts, if_neg (not_not.mpr v.symm)]
    rfl
  rw [State.recompute_eq]
  have run : s.remeasured.latch.run = s.latch.run := by rw [latch]
  have instant' (instant : s.params.noInstantTrip) : s.remeasured.params.noInstantTrip := params ▸ instant
  generalize s.remeasured = b at *
  have handed := State.handOn_consequence b
  have calm (instant : s.params.noInstantTrip) := (State.handOn_calm b (instant' instant)).1
  have core : b.handOn.speed.core = (s.speed.recomputed s.now).core := handed.core.trans (congrArg SpeedUnit.core speed)
  obtain ⟨-, -, -, run', -⟩ := handed.latchClock
  have whole := onward.trans handed.onward
  have logs {v : SpeedUnit} {t : State} (core : v.core = (s.speed.recomputed s.now).core) (k : Onward b.handOn t) :
      LoggedFirst s (recomputedEvents s.speed v) t := by
    rw [recomputedEvents_congr (u := s.speed) (v := s.speed.recomputed s.now) (fun _ => rfl) rfl rfl core]
    exact (logged.onward handed.onward).onward k
  split
  next back =>
    obtain ⟨old, new⟩ := back
    obtain ⟨released, taken, run''⟩ := b.handOn.releaseWithheld_leaves
    have core' : b.handOn.releaseWithheld.speed.core = (s.speed.recomputed s.now).core := by
      rw [taken, SpeedUnit.passOn_core, core]
    have good : b.handOn.releaseWithheld.speed.estimate = .good := (State.Measured.estimate_of_core core').trans new
    have alike' (instant : s.params.noInstantTrip) :
        PathAlike s (b.handOn.setSpeed (b.handOn.speed.passOn b.handOn.auth.hold.isSome b.handOn.now)) := by
      have quiet := calm instant
      exact ⟨quiet.auth.trans auth, by rw [State.setSpeed_path, quiet.path]; exact alike.path,
        (congrArg Params.dryDistance handed.settings :).trans alike.dry⟩
    have shrinks (instant : s.params.noInstantTrip) : b.handOn.releaseWithheld.path.queue <:+ s.path.queue := by
      rw [← (alike' instant).queue]
      exact State.credit_shrinks _ _
    have empties (instant : s.params.noInstantTrip) (clear : s.path.queue = [] → s.path.ceilingSince = none) :
        b.handOn.path.queue = [] → b.handOn.path.ceilingSince = none := by
      rw [(calm instant).path]
      exact idle clear
    have ceiling (instant : s.params.noInstantTrip) (clear : s.path.queue = [] → s.path.ceilingSince = none) :
        CeilingTimed b.handOn b.handOn.releaseWithheld := by
      have before : CeilingTimed b.handOn (b.handOn.setSpeed (b.handOn.speed.passOn b.handOn.auth.hold.isSome b.handOn.now)) :=
        .of_same rfl rfl rfl
      have v := SpeedUnit.v_of_core (State.credit_leaves b.handOn.speed.withheld
        (b.handOn.setSpeed (b.handOn.speed.passOn b.handOn.auth.hold.isSome b.handOn.now))).core
      exact before.trans (State.credit_timed _ (empties instant clear)) released.now released.settings (.inr v) fun _ => rfl
    refine ⟨⟨whole.trans released, run''.trans (run'.trans run), ?_, logs core' released, fun instant _ _ => ?_,
      fun instant cause => ?_, fun _ _ suspect => (nomatch suspect.symm.trans good), fun instant clear => ?_, shrinks⟩, core'⟩
    · exact (congrArg SpeedUnit.accumulator core' :)
    · have quiet := calm instant
      have now : b.handOn.now = s.now := handed.now.trans onward.now
      have held : b.handOn.auth = s.auth := quiet.auth.trans auth
      have unit : b.handOn.speed = s.speed.recomputed s.now := quiet.speed.trans speed
      have credit := (alike' instant).credited b.handOn.speed.withheld (u := b.handOn.releaseWithheld) rfl rfl
      rw [taken, SpeedUnit.passOn_passed, now, held, unit]
      rw [unit] at credit
      refine ⟨rfl, credit, ?_⟩
      exact if_congr (and_congr (by rw [Option.isSome_eq_false_iff, Option.isNone_iff_eq_none]) Iff.rfl) rfl rfl
    · exact cause.elim (fun e => (nomatch e.symm.trans old)) fun e => (nomatch e.symm.trans good)
    · refine (timed.lasts handed.now handed.settings (calm instant).path (by rw [(calm instant).speed])).trans (ceiling instant clear)
        released.now released.settings (.inr ?_) fun gone => ?_
      · exact SpeedUnit.v_of_core (core'.trans core.symm)
      · rw [(calm instant).path, alike.queue]
  next stays =>
    refine ⟨⟨whole, run'.trans run, (congrArg SpeedUnit.accumulator core :), logs core (.refl _), fun instant old new => ?_,
      fun instant _ => ?_, fun instant _ suspect => ?_, fun instant clear => ?_, fun instant => ?_⟩, core⟩
    · exact absurd ⟨old, (State.Measured.estimate_of_core core).symm.trans new⟩ stays
    · have quiet := calm instant
      rw [quiet.speed, speed, Credited, State.credit_zero, quiet.auth, quiet.path]
      exact ⟨rfl, ⟨auth, alike.path⟩, rfl⟩
    · exact (calm instant).path.trans (same ((State.Measured.estimate_of_core core).symm.trans suspect))
    · exact timed.lasts handed.now handed.settings (calm instant).path (by rw [(calm instant).speed])
    · rw [(calm instant).path, alike.queue]

end Sys2Proof.Machine
end

section
/-! PROOFS. A wheel record replaced, and the checks at each whole millisecond (R3, R4, R5). -/

namespace Sys2Proof.Machine

/-- The record of wheel `w` is `r`, and what follows has been taken. -/
structure State.WheelPut (w : Wheel) (r : WheelRec) (s t : State) : Prop where
  measured : s.Measured t
  wheel : ∀ x, t.speed.wheel x = { (if x = w then r else s.speed.wheel x) with odd := (t.speed.wheel x).odd }
  recomputed : r.speed ≠ (s.speed.wheel w).speed → RecomputedFrom s.now s.speed t.speed

theorem State.WheelPut.lasts {w : Wheel} {r : WheelRec} {s t u : State} (h : s.WheelPut w r u) (c : Consequence u t)
    (q : u.params.noInstantTrip → Quiet u t) : s.WheelPut w r t := by
  refine ⟨h.measured.lasts c q, fun x => ?_, fun ne => (h.recomputed ne).of_core c.core⟩
  rw [SpeedUnit.wheel_of_core c.core]
  exact h.wheel x

theorem SpeedUnit.recomputed_wheel (u : SpeedUnit) (now : Nat) (x : Wheel) :
    (u.recomputed now).wheel x = { u.wheel x with odd := ((u.recomputed now).wheel x).odd } := by cases x <;> rfl

theorem State.putWheel_put {w : Wheel} {r : WheelRec} {s : State} (odd : r.odd = (s.speed.wheel w).odd) :
    s.WheelPut w r (s.putWheel w r) := by
  unfold State.putWheel
  dsimp only
  set v := s.setSpeed (s.speed.setWheel w r)
  split
  · obtain ⟨measured, core⟩ := v.recompute_measured
    refine ⟨.of_setWheel odd measured, fun x => ?_, fun _ => .of_setWheel ((v.speed.recomputed_from v.now).of_core core)⟩
    rw [SpeedUnit.wheel_of_core core, SpeedUnit.recomputed_wheel]
    show ({ (s.speed.setWheel w r).wheel x with odd := _ } : WheelRec) = _
    rw [SpeedUnit.wheel_setWheel]
  · next same =>
    refine ⟨.of_setWheel odd v.measured_refl, fun x => ?_, fun ne => absurd (not_not.mp same).symm ne⟩
    rw [show v.speed.wheel x = if x = w then r else s.speed.wheel x from SpeedUnit.wheel_setWheel ..]

/-! ## The suspension that a wheel speed brings (R104) -/

theorem State.suspend_quiet (r : Routine) (s : State) : Quiet s (s.suspend r) := by
  unfold State.suspend
  cases r.axis <;> exact .of

theorem State.suspendIfMoving_quiet (s : State) : Quiet s s.suspendIfMoving := by
  unfold State.suspendIfMoving
  split
  case h_1 r _ =>
    split
    · exact s.suspend_quiet r
    · exact .refl s
  all_goals exact .refl s

/-- A wheel record is replaced, a routine suspended where a wheel turns, and the part settles. -/
theorem State.putWheel_settles {w : Wheel} {r : WheelRec} {s : State} (odd : r.odd = (s.speed.wheel w).odd) :
    s.WheelPut w r (s.putWheel w r).suspendIfMoving.settle :=
  (State.putWheel_put odd).lasts ((State.suspendIfMoving_sound _).consequence.trans (State.settle_consequence _)) fun instant =>
    (State.suspendIfMoving_quiet _).trans (State.settle_quiet _ ((State.suspendIfMoving_quiet _).settings.noInstantTrip instant))

/-! ## The checks (R3, R5) -/

theorem WheelRec.elapsed_of_some {r : WheelRec} {e : Nat} (last : r.lastEdge = some e) (now : Nat) : r.elapsed now = now - e := by
  rw [WheelRec.elapsed, last]
  rfl

theorem exec_decayStep_of_stalls {dt e : Nat} {w : Wheel} {s : State} (last : (s.speed.wheel w).lastEdge = some e)
    (late : s.params.stallTime.toNat * 1000 < s.now + dt - e) : exec (.decayStep dt w) s = .next (s.advance dt) := by
  have elapsed := WheelRec.elapsed_of_some last (s.now + dt)
  refine if_neg fun due => ?_
  simp only [Bool.and_eq_true, WheelRec.decays, WheelRec.stalls, decide_eq_true_eq, Bool.not_eq_true', Bool.and_eq_false_iff,
    decide_eq_false_iff_not] at due
  obtain ⟨-, ⟨running, halts⟩, -⟩ := due
  obtain rolling | early := halts
  · have running : (s.speed.wheel w).mode = .running := running
    exact rolling (show (s.speed.wheel w).mode ≠ .stalled by rw [running]; exact nofun)
  · exact early (show msOf s.params.stallTime < (s.speed.wheel w).elapsed (s.now + dt) by rw [elapsed]; exact late)

theorem exec_decayStep_of_due {dt e T : Nat} {w : Wheel} {s : State} (whole : (s.now + dt) % 1000 = 0)
    (last : (s.speed.wheel w).lastEdge = some e) (running : (s.speed.wheel w).mode = .running)
    (period : (s.speed.wheel w).period = some T) (past : T < s.now + dt - e)
    (early : s.now + dt - e ≤ s.params.stallTime.toNat * 1000) : exec (.decayStep dt w) s =
      .next ((s.advance dt).putWheel w { s.speed.wheel w with
        speed := wheelSpeed (s.params.circ w) s.params.ppr (s.now + dt - e) }).suspendIfMoving.settle := by
  have elapsed := WheelRec.elapsed_of_some last (s.now + dt)
  have decays : (s.speed.wheel w).decays s.params.stallTime (s.now + dt) = true := by
    simp only [WheelRec.decays, WheelRec.stalls, running, period, elapsed, msOf, Option.any_some, Bool.and_eq_true, decide_eq_true_eq,
      Bool.not_eq_true', Bool.and_eq_false_iff, decide_eq_false_iff_not]
    exact ⟨⟨trivial, .inr early.not_gt⟩, past⟩
  refine (if_pos ?_).trans ?_
  · show (decide ((s.now + dt) % 1000 = 0) && (s.speed.wheel w).decays s.params.stallTime (s.now + dt)) = true
    rw [decays, decide_eq_true whole]
    rfl
  · rw [← elapsed]
    rfl

theorem exec_stallExpiry_of_due {dt e : Nat} {w : Wheel} {s : State} (whole : (s.now + dt) % 1000 = 0)
    (last : (s.speed.wheel w).lastEdge = some e) (moves : (s.speed.wheel w).mode ≠ .stalled)
    (late : s.params.stallTime.toNat * 1000 < s.now + dt - e) : exec (.stallExpiry dt w) s =
      .next ((s.advance dt).putWheel w { s.speed.wheel w with mode := .stalled, period := none, speed := 0 }).settle := by
  have elapsed := WheelRec.elapsed_of_some last (s.now + dt)
  have stalls : (s.speed.wheel w).stalls s.params.stallTime (s.now + dt) = true := by
    simp only [WheelRec.stalls, elapsed, msOf, Bool.and_eq_true, decide_eq_true_eq]
    exact ⟨moves, late⟩
  refine if_pos ?_
  show (decide ((s.now + dt) % 1000 = 0) && (s.speed.wheel w).stalls s.params.stallTime (s.now + dt)) = true
  rw [stalls, decide_eq_true whole]
  rfl

theorem State.PathShape.idle {s : State} (h : s.PathShape) (empty : s.path.queue = []) : s.path.ceilingSince = none := by
  by_contra runs
  obtain ⟨g, rest, c, queue, -⟩ := h.watched runs
  rw [empty] at queue
  cases queue

/-- What stands of a part when only its time has come first. -/
theorem CeilingTimed.of_advance {dt : Nat} {s t : State} (h : CeilingTimed (s.advance dt) t) : CeilingTimed s t :=
  ⟨h.stands, h.runs, h.fresh, h.stops⟩

theorem Onward.of_advance {dt : Nat} {s t : State} (h : Onward (s.advance dt) t) :
    SameOutside s t ∧ SameAngles s t ∧ SameSwitches s t ∧ SameSettings s t ∧ OnlyGrows s t :=
  ⟨⟨h.outside.pending, h.outside.pins, h.outside.portA, h.outside.portB, h.outside.store⟩, h.angles, h.switches, h.settings,
    h.grows⟩

/-- What a check that changes wheel `w`'s record leaves, in the words of O15. -/
theorem State.WheelPut.checked {dt : Nat} {w : Wheel} {r : WheelRec} {s t : State} (h : (s.advance dt).WheelPut w r t) :
    LoggedFirst s (recomputedEvents s.speed t.speed) t ∧
      (s.params.noInstantTrip →
        (s.speed.estimate = .suspect ∧ t.speed.estimate = .good →
          t.speed.withheld = 0 ∧ Credited s.speed.withheld (s.advance dt) t ∧
          t.speed.passed = if s.auth.hold = none ∧ 0 < s.speed.withheld then
            some { cm := s.speed.passedAt (s.now + dt) + s.speed.withheld, at_ := s.now + dt } else s.speed.passed) ∧
        (s.speed.estimate = .good ∨ t.speed.estimate = .suspect →
          t.speed.withheld = s.speed.withheld ∧ Credited 0 (s.advance dt) t ∧ t.speed.passed = s.speed.passed)) ∧
      (s.params.noInstantTrip → s.PathShape → CeilingTimed s t) ∧
      t.speed.accumulator = s.speed.accumulator ∧ SameOutside s t ∧ SameAngles s t ∧ SameSwitches s t ∧
      SameSettings s t ∧ OnlyGrows s t := by
  obtain ⟨measured, -, -⟩ := h
  exact ⟨measured.logged, fun instant => ⟨fun ⟨old, new⟩ => measured.returns instant old new, measured.stays instant⟩,
    fun instant shape => (measured.timed instant shape.idle).of_advance, measured.accumulator, measured.onward.of_advance⟩

/-- Settles O15. -/
theorem wheelsDecayAndStall : Obligations.WheelsDecayAndStall := by
  intro dt e w s whole last
  refine ⟨exec_decayStep_of_stalls last, fun T running period past early => ?_, fun moves late => ?_⟩
  · have put := State.putWheel_settles (s := s.advance dt) (w := w) (r := { s.speed.wheel w with
      speed := wheelSpeed (s.params.circ w) s.params.ppr (s.now + dt - e) }) rfl
    refine ⟨_, exec_decayStep_of_due whole last running period past early, ?_, fun x ne => ?_, fun ne => ?_, put.checked⟩
    · exact (put.wheel w).trans (by rw [if_pos rfl]; rfl)
    · exact (put.wheel x).trans (by rw [if_neg ne]; rfl)
    · refine put.recomputed fun same => ne ?_
      rw [put.wheel w, if_pos rfl]
      exact same
  · have put : (s.advance dt).WheelPut w { s.speed.wheel w with mode := .stalled, period := none, speed := 0 }
        ((s.advance dt).putWheel w { s.speed.wheel w with mode := .stalled, period := none, speed := 0 }).settle :=
      (State.putWheel_put (s := s.advance dt) (w := w)
        (r := { s.speed.wheel w with mode := .stalled, period := none, speed := 0 }) rfl).lasts (State.settle_consequence _) fun instant => State.settle_quiet _ instant
    refine ⟨_, exec_stallExpiry_of_due whole last moves late, ?_, fun x ne => ?_, fun ne => ?_, put.checked⟩
    · exact (put.wheel w).trans (by rw [if_pos rfl, ← last])
    · exact (put.wheel x).trans (by rw [if_neg ne]; rfl)
    · exact put.recomputed ne.symm

end Sys2Proof.Machine
end

section
/-! PROOFS. An accepted edge, stage by stage: waking, travel, the wheel's own record, the suspension (R2, R12, R14, R104, R129). -/

namespace Sys2Proof.Machine

/-! ## The wheel's own record (R2) -/

theorem WheelRec.edge_of_stalled {r : WheelRec} (stalled : r.mode = .stalled) (circ ppr : Int) (now : Nat) :
    r.edge circ ppr now = { r with mode := .armed, lastEdge := some now, period := none, speed := 0 } := by
  rw [WheelRec.edge, stalled]

theorem WheelRec.edge_of_moving {r : WheelRec} {e : Nat} (moves : r.mode ≠ .stalled) (last : r.lastEdge = some e)
    (circ ppr : Int) (now : Nat) : r.edge circ ppr now =
      { r with mode := .running, lastEdge := some now, period := some (now - e), speed := wheelSpeed circ ppr (now - e) } := by
  rw [← WheelRec.elapsed_of_some last, WheelRec.edge]
  split
  next e => exact absurd e moves
  all_goals rfl

theorem WheelRec.edge_lastEdge (r : WheelRec) (circ ppr : Int) (now : Nat) :
    (r.edge circ ppr now).lastEdge = some now ∧ (r.edge circ ppr now).odd = r.odd := by
  unfold WheelRec.edge
  split <;> exact ⟨rfl, rfl⟩

/-! ## Travel (R14, R15) -/

/-- The travel of an edge: the accumulator is `acc` and `n` whole centimetres are passed on, or withheld. -/
def State.travel (acc n : Nat) (s : State) : State :=
  match s.speed.estimate with
  | .good => (s.setSpeed { s.speed with accumulator := acc }).credit n
  | .suspect => s.setSpeed { s.speed with accumulator := acc, withheld := s.speed.withheld + n }

theorem State.addTravel_eq (w : Wheel) (s : State) : s.addTravel w =
    s.travel ((s.speed.accumulator + (s.params.circ w).toNat) % (10 * s.params.ppr.toNat))
      ((s.speed.accumulator + (s.params.circ w).toNat) / (10 * s.params.ppr.toNat)) := rfl

theorem State.travel_nothing (s : State) : s.travel s.speed.accumulator 0 = s := by
  unfold State.travel
  split
  · exact State.credit_zero _
  · rfl

/-- What the travel leaves. -/
structure State.Travelled (acc n : Nat) (s t : State) : Prop where
  onward : Onward s t
  run : t.latch.run = s.latch.run
  core : t.speed.core = { s.speed.core with accumulator := acc }
  passed : t.speed.passed = s.speed.passed
  good : s.speed.estimate = .good → Credited n s t
  keeps : s.speed.estimate = .good → t.auth = s.auth → t.speed.withheld = s.speed.withheld
  suspect : s.speed.estimate = .suspect → t.auth = s.auth ∧ t.path = s.path ∧ t.speed.withheld = s.speed.withheld + n ∧ t.log = s.log
  timed : (s.path.queue = [] → s.path.ceilingSince = none) → CeilingTimed s t
  shrinks : t.path.queue <:+ s.path.queue
  seated : t.auth = s.auth → t.slot = s.slot ∧ t.params = s.params
  ends : t.auth = s.auth ∨ (s.auth.hold ≠ none ∧ t.auth.hold = none)

theorem State.travel_travelled (acc n : Nat) (s : State) : State.Travelled acc n s (s.travel acc n) := by
  unfold State.travel
  split
  next good =>
    set v := s.setSpeed { s.speed with accumulator := acc }
    have leaves := State.credit_leaves n v
    have alike : PathAlike s v := ⟨rfl, rfl, rfl⟩
    have stays (same : (v.credit n).auth = s.auth) : (v.credit n).speed = v.speed ∧ (v.credit n).slot = s.slot ∧
        (v.credit n).params = s.params := by
      obtain ⟨-, speed, slot, -, -, params, -⟩ | ⟨hold, auth, -⟩ := leaves.auth
      · exact ⟨speed, slot, params⟩
      · have none : s.auth.hold = none := by rw [← same, auth]
        exact absurd none hold
    refine ⟨Onward.trans (t := v) .of leaves.onward, leaves.run, leaves.core, ?_, fun _ => alike.credited n rfl rfl,
      fun _ same => ?_, fun suspect => (nomatch suspect.symm.trans good), fun idle => ?_, State.credit_shrinks n v, fun same => ?_, ?_⟩
    · obtain e | e := leaves.speed <;> exact (congrArg SpeedUnit.passed e :)
    · exact (congrArg SpeedUnit.withheld (stays same).1 :)
    · have v' := SpeedUnit.v_of_core leaves.core
      exact (CeilingTimed.of_same (s := s) (t := v) rfl rfl rfl).trans (State.credit_timed n idle) leaves.onward.now
        leaves.onward.settings (.inl rfl) fun _ => rfl
    · obtain ⟨-, slot, params⟩ := stays same
      exact ⟨slot, params⟩
    · obtain ⟨auth, -⟩ | ⟨hold, auth, -⟩ := leaves.auth
      · exact .inl auth
      · exact .inr ⟨hold, by rw [auth]⟩
  next suspect =>
    exact ⟨.of, rfl, rfl, rfl, fun good => (nomatch good.symm.trans suspect), fun good _ =>
        (nomatch good.symm.trans suspect), fun _ => ⟨rfl, rfl, rfl, rfl⟩, fun _ => .of_same rfl rfl rfl, List.suffix_refl _, fun _ => ⟨rfl, rfl⟩, .inl rfl⟩

theorem State.travel_log {acc n : Nat} {s : State} (nothing : n = 0 ∨ s.speed.estimate = .suspect ∨ s.auth.hold = none) :
    (s.travel acc n).log = s.log := by
  unfold State.travel
  split
  next good =>
    obtain zero | suspect | free := nothing
    · rw [zero, State.credit_zero]
      rfl
    · exact nomatch suspect.symm.trans good
    · rw [State.credit, State.setSpeed_auth, free]
      split <;> rfl
  next => rfl

/-- A credit to a part without segments that leaves the hold logs nothing. -/
theorem State.credit_log_of_empty {n : Nat} {s : State} (queue : s.path.queue = []) (stands : (s.credit n).auth = s.auth) :
    (s.credit n).log = s.log := by
  by_cases zero : n = 0
  · rw [zero, State.credit_zero]
  by_cases hold : s.auth.hold = none
  · rw [State.credit, if_neg zero, hold]
  rw [State.credit_of_dry hold queue (by omega)] at stands ⊢
  unfold State.checkDry at stands ⊢
  split
  next reached =>
    rw [if_pos reached] at stands
    obtain ⟨auth, -⟩ := State.endHold_parts .dry (s := s.setPath { s.path with dryCount := s.path.dryCount + n }) hold
    rw [auth] at stands
    exact absurd (congrArg AuthorityUnit.hold stands).symm hold
  next => rfl

theorem State.travel_log_of_empty {acc n : Nat} {s : State} (queue : s.path.queue = []) (stands : (s.travel acc n).auth = s.auth) :
    (s.travel acc n).log = s.log := by
  unfold State.travel at stands ⊢
  split
  next good =>
    rw [good] at stands
    exact State.credit_log_of_empty (s := s.setSpeed { s.speed with accumulator := acc }) queue stands
  next => rfl

/-! ## What a recomputation leaves of the slot and the log -/

/-- The hold standing, a recomputation moves no slot; without segments and actions it logs its own records alone. -/
theorem State.recompute_seated {s : State} (instant : s.params.noInstantTrip) (stands : s.recompute.auth = s.auth) :
    s.recompute.slot = s.slot ∧ (s.path.queue = [] → s.params.noActions →
      s.recompute.log = (s.logEvents (recomputedEvents s.speed (s.speed.recomputed s.now))).log) := by
  obtain ⟨-, speed, auth, alike, slot, params, -⟩ := s.remeasured_stands
  obtain ⟨l, log, parts⟩ := s.remeasured_parts
  have logged : s.remeasured.log = l := by rw [parts]; rfl
  rw [State.recompute_eq] at stands ⊢
  have instant' : s.remeasured.params.noInstantTrip := params ▸ instant
  obtain ⟨quiet, seated⟩ := State.handOn_calm s.remeasured instant'
  have handed (none : s.params.noActions) : s.remeasured.handOn.log = s.remeasured.log :=
    State.handOn_log_of_noActions (params ▸ none) instant'
  rw [← log, ← logged]
  split
  next back =>
    rw [if_pos back] at stands
    set h := s.remeasured.handOn
    have leaves : (h.setSpeed (h.speed.passOn h.auth.hold.isSome h.now)).CreditLeaves h.releaseWithheld :=
      State.credit_leaves h.speed.withheld _
    have same : h.releaseWithheld.auth = h.auth := stands.trans (quiet.auth.trans auth).symm
    refine ⟨?_, fun queue none => ?_⟩
    · obtain ⟨-, -, slot', -⟩ | ⟨hold, ended, -⟩ := leaves.auth
      · exact slot'.trans (seated.slot.trans slot)
      · exact absurd ((congrArg AuthorityUnit.hold same).symm.trans (congrArg AuthorityUnit.hold ended)) hold
    · have empty : h.path.queue = [] := by rw [quiet.path, alike.queue, queue]
      exact (State.credit_log_of_empty (s := h.setSpeed (h.speed.passOn h.auth.hold.isSome h.now)) empty same).trans (handed none)
  next => exact ⟨seated.slot.trans slot, fun _ => handed⟩

/-- The same where a wheel record is put in place. -/
theorem State.putWheel_seated {w : Wheel} {r : WheelRec} {s : State} (odd : r.odd = (s.speed.wheel w).odd)
    (instant : s.params.noInstantTrip) (stands : (s.putWheel w r).auth = s.auth) :
    (s.putWheel w r).slot = s.slot ∧ (s.path.queue = [] → s.params.noActions →
      (s.putWheel w r).log = (s.logEvents (recomputedEvents s.speed (s.putWheel w r).speed)).log) := by
  have same : (s.speed.setWheel w r).estimate = s.speed.estimate ∧ (s.speed.setWheel w r).source = s.speed.source := by
    cases w <;> exact ⟨rfl, rfl⟩
  obtain ⟨estimate, source⟩ := same
  have events {v v' : SpeedUnit} (core : v'.core = v.core) :
      recomputedEvents s.speed v' = recomputedEvents (s.speed.setWheel w r) v :=
    recomputedEvents_congr (fun x => (SpeedUnit.setWheel_odd odd x).symm) estimate.symm source.symm core
  have swap (u : SpeedUnit) (es : List Event) (t : State) : ((t.setSpeed u).logEvents es).log = (t.logEvents es).log := by
    induction es generalizing t with
    | nil => rfl
    | cons e es ih => exact ih (t.logEvent e)
  unfold State.putWheel at stands ⊢
  dsimp only at stands ⊢
  set v := s.setSpeed (s.speed.setWheel w r) with hv
  split
  next changed =>
    rw [if_pos changed] at stands
    obtain ⟨slot, log⟩ := State.recompute_seated (s := v) instant stands
    refine ⟨slot, fun queue none => (log queue none).trans ?_⟩
    rw [events v.recompute_measured.2]
    exact swap _ _ s
  next =>
    refine ⟨rfl, fun _ _ => ?_⟩
    rw [show recomputedEvents s.speed v.speed = [] from
      (events (v := s.speed.setWheel w r) rfl).trans (recomputedEvents_self _)]
    rfl

/-! ## The suspension (R104) -/

theorem State.suspendIfMoving_of_moving {r : Routine} {s : State} (slot : s.slot = .routine r) (going : r.held = none)
    {x : Wheel} (moves : 0 < (s.speed.wheel x).speed) : s.suspendIfMoving = s.suspend r := by
  have turns : s.wheelsStopped = false :=
    Bool.eq_false_iff.mpr fun stopped => moves.ne' ((s.wheelsStopped_iff.mp stopped) x)
  rw [State.suspendIfMoving, slot]
  exact if_pos (by rw [going, turns]; rfl)

theorem State.suspend_slot (r : Routine) (s : State) : (s.suspend r).slot =
    .routine { r with held := some (s.axis r.axis).meas, rampSince := none, rampDrive := 0, maxDisp := 0 } := by
  unfold State.suspend
  cases r.axis <;> rfl

theorem State.suspend_log (r : Routine) (s : State) : (s.suspend r).log = (s.logEvent (.routineSuspend r.axis)).log := by
  unfold State.suspend
  cases r.axis <;> rfl

end Sys2Proof.Machine
end

section
/-! PROOFS. WHEEL_EDGE (R1, R2, R12, R14, R15, R56, R104, R129). -/

namespace Sys2Proof.Machine

/-! ## The stages -/

/-- The accumulator and the whole centimetres after an edge of wheel `w` (R13, R14). -/
def State.edgeTravel (w : Wheel) (s : State) : Nat × Nat :=
  if s.speed.source.isWheel w = true then
    ((s.speed.accumulator + (s.params.circ w).toNat) % (10 * s.params.ppr.toNat),
      (s.speed.accumulator + (s.params.circ w).toNat) / (10 * s.params.ppr.toNat))
  else (s.speed.accumulator, 0)

/-- The part when the edge's travel has been taken. -/
def State.edgeCredited (w : Wheel) (s : State) : State := s.travel (s.edgeTravel w).1 (s.edgeTravel w).2

/-- The part when the wheel's own record has been replaced. -/
def State.edgePut (w : Wheel) (s : State) : State :=
  s.putWheel w ((s.speed.wheel w).edge (s.params.circ w) s.params.ppr s.now)

theorem State.acceptEdge_eq (w : Wheel) (s : State) :
    s.acceptEdge w = ((s.wheelWake.edgeCredited w).edgePut w).suspendIfMoving.settle := by
  have credited (t : State) : (if t.speed.source.isWheel w = true then t.addTravel w else t) = t.edgeCredited w := by
    unfold State.edgeCredited State.edgeTravel
    by_cases source : t.speed.source.isWheel w = true
    · rw [if_pos source, if_pos source, State.addTravel_eq]
    · rw [if_neg source, if_neg source, State.travel_nothing]
  rw [← credited]
  rfl

/-- What waking leaves of an edge. -/
structure State.Woken (s t : State) : Prop where
  onward : Onward s t
  core : t.speed.core = s.speed.core
  same : s.latch.run = .run ∨ s.params.wakeMask.getLsbD 0 = false → t = s
  wakes : s.latch.run = .parked → s.params.wakeMask.getLsbD 0 = true → t.latch.run = .run ∧ LoggedFirst s [.wake .wheel] t

theorem State.wheelWake_woken (s : State) : s.Woken s.wheelWake := by
  have settled := State.settle_consequence (s.wakeNow .wheel)
  have onward : Onward s (s.wake .wheel) := by
    unfold State.wake
    split
    · refine Onward.trans (t := s.wakeNow .wheel) ?_ settled.onward
      exact .of (records := (State.logEvent_consequence (.wake .wheel) s).grows.1)
    · exact .refl s
  have core : (s.wake .wheel).speed.core = s.speed.core := by
    unfold State.wake
    split
    · exact settled.core
    · rfl
  unfold State.wheelWake
  by_cases mask : s.params.wakeMask.getLsbD 0 = true
  · rw [if_pos mask]
    refine ⟨onward, core, fun awake => if_neg ?_, fun parked _ => ⟨State.wake_latch_run .wheel s, ?_⟩⟩
    · obtain run | off := awake
      · rw [run]
        exact nofun
      · exact nomatch mask.symm.trans off
    · rw [State.wake_parked parked]
      exact .of_logEvents settled.now settled.grows.1
  · rw [if_neg mask]
    exact ⟨.refl s, rfl, fun _ => rfl, fun _ on => absurd on mask⟩

theorem WheelRec.rejects_of_soon {r : WheelRec} {e now : Nat} {glitchMin : Int} (last : r.lastEdge = some e)
    (soon : ((now - e : Nat) : Int) < glitchMin) : r.rejects glitchMin now = true := by
  rw [WheelRec.rejects, last]
  exact decide_eq_true soon

theorem WheelRec.rejects_of_late {r : WheelRec} {now : Nat} {glitchMin : Int}
    (late : ∀ e, r.lastEdge = some e → glitchMin ≤ ((now - e : Nat) : Int)) : r.rejects glitchMin now = false := by
  rw [WheelRec.rejects]
  split
  next => rfl
  next e last => exact decide_eq_false (late e last).not_gt

theorem exec_wheelEdge_of_rejected {dt : Nat} {w : Wheel} {s : State}
    (rejected : (s.speed.wheel w).rejects s.params.glitchMin (s.now + dt) = true) :
    exec (.wheelEdge dt w) s = .next (s.advance dt) := if_pos (by exact rejected)

theorem exec_wheelEdge_of_accepted {dt : Nat} {w : Wheel} {s : State}
    (accepted : (s.speed.wheel w).rejects s.params.glitchMin (s.now + dt) = false) :
    exec (.wheelEdge dt w) s = .next ((s.advance dt).acceptEdge w) :=
  if_neg (by
    show ¬(s.speed.wheel w).rejects s.params.glitchMin (s.now + dt) = true
    rw [accepted]
    exact nofun)

/-! ## The stages put together -/

theorem State.edgeTravel_congr {w : Wheel} {s t : State} (core : t.speed.core = s.speed.core) (settings : SameSettings s t) :
    t.edgeTravel w = s.edgeTravel w := by
  have source : t.speed.source = s.speed.source := (congrArg SpeedUnit.source core :)
  have accumulator : t.speed.accumulator = s.speed.accumulator := (congrArg SpeedUnit.accumulator core :)
  have circ : t.params.circ w = s.params.circ w := by
    cases w
    · exact (congrArg Params.wheelCircRear settings :)
    · exact (congrArg Params.wheelCircFront settings :)
    · exact (congrArg Params.wheelCircFront settings :)
  have ppr : t.params.ppr = s.params.ppr := (congrArg Params.ppr settings :)
  rw [State.edgeTravel, source, accumulator, circ, ppr, State.edgeTravel]

theorem RecomputedFrom.of_before {now : Nat} {u u' v : SpeedUnit} (h : RecomputedFrom now u v) (estimate : u'.estimate = u.estimate)
    (speed : u'.v = u.v) (since : u'.suspectSince = u.suspectSince) : RecomputedFrom now u' v := by
  unfold RecomputedFrom at h ⊢
  rw [estimate, speed, since]
  exact h

/-- An accepted edge: the part woken, the travel taken, the record replaced, the part settled. -/
structure State.EdgeAccepted (w : Wheel) (s a b p t : State) : Prop where
  woken : s.Woken a
  credited : State.Travelled (s.edgeTravel w).1 (s.edgeTravel w).2 a b
  travel : b = a.edgeCredited w
  put : p = b.edgePut w
  measured : b.WheelPut w ((s.speed.wheel w).edge (s.params.circ w) s.params.ppr s.now) t
  done : t = p.suspendIfMoving.settle

theorem State.acceptEdge_accepted (w : Wheel) (s : State) :
    ∃ a b p, State.EdgeAccepted w s a b p (s.acceptEdge w) := by
  have woken := s.wheelWake_woken
  have credited := State.travel_travelled (s.wheelWake.edgeTravel w).1 (s.wheelWake.edgeTravel w).2 s.wheelWake
  have travel := State.edgeTravel_congr (w := w) woken.core woken.onward.settings
  refine ⟨s.wheelWake, s.wheelWake.edgeCredited w, _, woken, travel ▸ credited, rfl, rfl, ?_, State.acceptEdge_eq w s⟩
  rw [State.acceptEdge_eq]
  have onward := woken.onward.trans credited.onward
  have core : (s.wheelWake.edgeCredited w).speed.core = { s.speed.core with accumulator := (s.wheelWake.edgeTravel w).1 } := by
    rw [← woken.core]
    exact credited.core
  have wheel : (s.wheelWake.edgeCredited w).speed.wheel w = s.speed.wheel w := by
    cases w
    · exact (congrArg SpeedUnit.rear core :)
    · exact (congrArg SpeedUnit.frontL core :)
    · exact (congrArg SpeedUnit.frontR core :)
  have circ : (s.wheelWake.edgeCredited w).params.circ w = s.params.circ w := by
    cases w
    · exact (congrArg Params.wheelCircRear onward.settings :)
    · exact (congrArg Params.wheelCircFront onward.settings :)
    · exact (congrArg Params.wheelCircFront onward.settings :)
  have ppr : (s.wheelWake.edgeCredited w).params.ppr = s.params.ppr := (congrArg Params.ppr onward.settings :)
  have now : (s.wheelWake.edgeCredited w).now = s.now := onward.now
  have settles := State.putWheel_settles (s := s.wheelWake.edgeCredited w) (w := w)
    (r := ((s.wheelWake.edgeCredited w).speed.wheel w).edge ((s.wheelWake.edgeCredited w).params.circ w)
      (s.wheelWake.edgeCredited w).params.ppr (s.wheelWake.edgeCredited w).now) ((WheelRec.edge_lastEdge ..).2)
  unfold State.edgePut
  rw [wheel, circ, ppr, now] at settles ⊢
  exact settles

end Sys2Proof.Machine
end

section
/-! PROOFS. What an accepted edge leaves of the wheels, the travel, the watch and the log; and its obligation. -/

namespace Sys2Proof.Machine

theorem State.logEvents_log_congr (es : List Event) {s t : State} (log : t.log = s.log) (now : t.now = s.now)
    (params : t.params = s.params) : (t.logEvents es).log = (s.logEvents es).log := by
  induction es generalizing s t with
  | nil => exact log
  | cons e es ih =>
    refine ih (s := s.logEvent e) (t := t.logEvent e) ?_ now params
    rw [State.logEvent, State.logEvent, log, now, params]
    rfl

namespace State.EdgeAccepted

variable {w : Wheel} {s a b p t : State}

theorem onward (h : State.EdgeAccepted w s a b p t) : Onward s t :=
  (h.woken.onward.trans h.credited.onward).trans h.measured.measured.onward

/-- Before the wheel's own record only the accumulator has changed beside the withheld count. -/
theorem core (h : State.EdgeAccepted w s a b p t) : b.speed.core = { s.speed.core with accumulator := (s.edgeTravel w).1 } := by
  rw [← h.woken.core]
  exact h.credited.core

theorem before (h : State.EdgeAccepted w s a b p t) : (∀ x, b.speed.wheel x = s.speed.wheel x) ∧
    b.speed.estimate = s.speed.estimate ∧ b.speed.v = s.speed.v ∧ b.speed.suspectSince = s.speed.suspectSince ∧
    b.speed.source = s.speed.source ∧ b.speed.accumulator = (s.edgeTravel w).1 := by
  have core := h.core
  refine ⟨fun x => ?_, (congrArg SpeedUnit.estimate core :), (congrArg SpeedUnit.v core :), (congrArg SpeedUnit.suspectSince core :),
    (congrArg SpeedUnit.source core :), (congrArg SpeedUnit.accumulator core :)⟩
  cases x
  · exact (congrArg SpeedUnit.rear core :)
  · exact (congrArg SpeedUnit.frontL core :)
  · exact (congrArg SpeedUnit.frontR core :)

theorem now (h : State.EdgeAccepted w s a b p t) : b.now = s.now := h.credited.onward.now.trans h.woken.onward.now

theorem wheel_own (h : State.EdgeAccepted w s a b p t) : t.speed.wheel w =
    { (s.speed.wheel w).edge (s.params.circ w) s.params.ppr s.now with odd := (t.speed.wheel w).odd } := by
  rw [h.measured.wheel w, if_pos rfl]

theorem wheel_other (h : State.EdgeAccepted w s a b p t) {x : Wheel} (ne : x ≠ w) :
    t.speed.wheel x = { s.speed.wheel x with odd := (t.speed.wheel x).odd } := by
  obtain ⟨wheel, -⟩ := h.before
  rw [h.measured.wheel x, if_neg ne, wheel]

theorem recomputed (h : State.EdgeAccepted w s a b p t) (changed : (t.speed.wheel w).speed ≠ (s.speed.wheel w).speed) :
    RecomputedFrom s.now s.speed t.speed := by
  obtain ⟨wheel, estimate, v, since, -⟩ := h.before
  have own : (t.speed.wheel w).speed = ((s.speed.wheel w).edge (s.params.circ w) s.params.ppr s.now).speed := by rw [h.wheel_own]
  have from_ := h.measured.recomputed (by rw [wheel, ← own]; exact changed)
  rw [h.now] at from_
  exact from_.of_before estimate.symm v.symm since.symm

theorem events (h : State.EdgeAccepted w s a b p t) (v : SpeedUnit) : recomputedEvents b.speed v = recomputedEvents s.speed v := by
  obtain ⟨wheel, estimate, -, -, source, -⟩ := h.before
  exact recomputedEvents_congr (fun x => by rw [wheel]) estimate source rfl

theorem logged_of_log (h : State.EdgeAccepted w s a b p t) (log : b.log = s.log) :
    LoggedFirst s (recomputedEvents s.speed t.speed) t := by
  have logged := h.measured.measured.logged
  rw [h.events, LoggedFirst, log] at logged
  exact logged

theorem logged (h : State.EdgeAccepted w s a b p t) (awake : s.latch.run = .run ∨ s.params.wakeMask.getLsbD 0 = false)
    (nothing : s.speed.source.isWheel w = false ∨ s.speed.estimate = .suspect ∨ s.auth.hold = none) :
    LoggedFirst s (recomputedEvents s.speed t.speed) t := by
  refine h.logged_of_log ?_
  obtain rfl := h.woken.same awake
  rw [h.travel]
  refine State.travel_log (nothing.imp_left fun other => ?_)
  rw [State.edgeTravel, if_neg (by rw [other]; exact nofun)]

theorem accumulator (h : State.EdgeAccepted w s a b p t) : t.speed.accumulator = (s.edgeTravel w).1 := by
  obtain ⟨-, -, -, -, -, accumulator⟩ := h.before
  exact h.measured.measured.accumulator.trans accumulator

/-- Where the estimate is or stays SUSPECT, what a credit would change stands. -/
theorem suspect (h : State.EdgeAccepted w s s b p t) (suspect : s.speed.estimate = .suspect) :
    b.auth = s.auth ∧ b.path = s.path ∧ b.speed.withheld = s.speed.withheld + (s.edgeTravel w).2 := by
  obtain ⟨auth, path, withheld, -⟩ := h.credited.suspect suspect
  exact ⟨auth, path, withheld⟩

/-- What becomes of the credit of an edge in RUN (R14 to R16). -/
theorem travels (h : State.EdgeAccepted w s s b p t) (instant : s.params.noInstantTrip) {n : Nat} (count : n = (s.edgeTravel w).2) :
    (s.speed.estimate = .good → Credited n s t ∧ (t.auth = s.auth → t.speed.withheld = s.speed.withheld)) ∧
    (s.speed.estimate = .suspect → t.speed.estimate = .suspect → t.auth = s.auth ∧ t.path = s.path ∧
      t.speed.withheld = s.speed.withheld + n) ∧
    (s.speed.estimate = .suspect → t.speed.estimate = .good → t.speed.withheld = 0 ∧ Credited (s.speed.withheld + n) s t ∧
      t.speed.passed = if s.auth.hold = none ∧ 0 < s.speed.withheld + n then
        some { cm := s.speed.passedAt s.now + (s.speed.withheld + n), at_ := s.now } else s.speed.passed) ∧
    (s.speed.estimate = .good ∨ t.speed.estimate = .suspect → t.speed.passed = s.speed.passed) := by
  subst count
  obtain ⟨-, estimate, -⟩ := h.before
  have instant' : b.params.noInstantTrip := h.credited.onward.settings.noInstantTrip instant
  have stays := h.measured.measured.stays instant'
  refine ⟨fun good => ?_, fun old new => ?_, fun old new => ?_, fun cause => ?_⟩
  · obtain ⟨withheld, ⟨auth, path⟩, -⟩ := stays (.inl (estimate.trans good))
    rw [State.credit_zero] at auth path
    obtain ⟨auth', path'⟩ := h.credited.good good
    exact ⟨⟨auth.trans auth', path.trans path'⟩, fun same => withheld.trans (h.credited.keeps good (auth.symm.trans same))⟩
  · obtain ⟨withheld, ⟨auth, -⟩, -⟩ := stays (.inr new)
    rw [State.credit_zero] at auth
    obtain ⟨auth', path', withheld'⟩ := h.suspect old
    exact ⟨auth.trans auth', (h.measured.measured.silent instant' (estimate.trans old) new).trans path', withheld.trans withheld'⟩
  · obtain ⟨auth, path, withheld⟩ := h.suspect old
    obtain ⟨none, ⟨auth', path'⟩, passed⟩ := h.measured.measured.returns instant' (estimate.trans old) new
    have alike : PathAlike s b := ⟨auth, by rw [path], (congrArg Params.dryDistance h.credited.onward.settings :)⟩
    have after := alike.credit (s.speed.withheld + (s.edgeTravel w).2)
    have at_ : b.speed.passedAt s.now = s.speed.passedAt s.now := by rw [SpeedUnit.passedAt, h.credited.passed, SpeedUnit.passedAt]
    rw [withheld] at auth' path' passed
    rw [auth, h.now, at_, h.credited.passed] at passed
    exact ⟨none, ⟨auth'.trans after.auth, path'.trans after.path⟩, passed⟩
  · obtain ⟨-, -, passed⟩ := stays (cause.imp_left estimate.trans)
    exact passed.trans h.credited.passed

/-- The watch of R56. -/
theorem timed (h : State.EdgeAccepted w s s b p t) (instant : s.params.noInstantTrip) (shape : s.PathShape) : CeilingTimed s t := by
  obtain ⟨-, -, v, -⟩ := h.before
  have instant' : b.params.noInstantTrip := h.credited.onward.settings.noInstantTrip instant
  have first := h.credited.timed shape.idle
  have idle (empty : b.path.queue = []) : b.path.ceilingSince = none := by
    by_cases same : b.path.queue = s.path.queue
    · rw [first.stands same v]
      exact shape.idle (same.symm.trans empty)
    · exact first.stops (.inl same) (State.not_aboveCeiling_of_empty empty)
  have after := h.measured.measured
  refine first.trans (after.timed instant' idle) after.onward.now after.onward.settings (.inl v) fun same => ?_
  exact h.credited.shrinks.eq_of_length_le (same ▸ (after.shrinks instant').length_le)

/-- A wheel that turns suspends a routine that the credit has left its hold (R104). -/
theorem suspends (h : State.EdgeAccepted w s s b p t) (instant : s.params.noInstantTrip) {r : Routine} (slot : s.slot = .routine r)
    (going : r.held = none) (stands : t.auth = s.auth) {x : Wheel} (moves : 0 < (t.speed.wheel x).speed) :
    t.slot = .routine { r with held := some (s.axis r.axis).meas, rampSince := none, rampDrive := 0, maxDisp := 0 } ∧
      (s.path.queue = [] → s.params.noActions →
        LoggedFirst s (recomputedEvents s.speed t.speed ++ [.routineSuspend r.axis]) t) := by
  have odd := (WheelRec.edge_lastEdge (b.speed.wheel w) (b.params.circ w) b.params.ppr b.now).2
  have placed : b.WheelPut w ((b.speed.wheel w).edge (b.params.circ w) b.params.ppr b.now) p := by
    rw [h.put]
    exact State.putWheel_put odd
  have instantB : b.params.noInstantTrip := h.credited.onward.settings.noInstantTrip instant
  have instantP : p.params.noInstantTrip := placed.measured.onward.settings.noInstantTrip instantB
  have quietS := State.suspendIfMoving_quiet p
  have instantS : p.suspendIfMoving.params.noInstantTrip := quietS.settings.noInstantTrip instantP
  have quiet : Quiet p t := by
    rw [h.done]
    exact quietS.trans (State.settle_quiet _ instantS)
  have authP : p.auth = s.auth := quiet.auth.symm.trans stands
  have authB : b.auth = s.auth := by
    obtain same | ⟨hold, gone⟩ := h.credited.ends
    · exact same
    · have credits : ∃ n, Credited n b p := by
        obtain ⟨wheel, estimate, -⟩ := h.before
        cases old : b.speed.estimate with
        | good =>
          obtain ⟨-, credited, -⟩ := placed.measured.stays instantB (.inl old)
          exact ⟨_, credited⟩
        | suspect =>
          cases new : p.speed.estimate with
          | good =>
            obtain ⟨-, credited, -⟩ := placed.measured.returns instantB old new
            exact ⟨_, credited⟩
          | suspect =>
            obtain ⟨-, credited, -⟩ := placed.measured.stays instantB (.inr new)
            exact ⟨_, credited⟩
      obtain ⟨n, auth, -⟩ := credits
      have none : (b.credit n).auth.hold = none := by
        obtain ⟨same, -⟩ | ⟨-, ended, -⟩ := (State.credit_leaves n b).auth
        · rw [same, gone]
        · rw [ended]
      exact absurd ((congrArg AuthorityUnit.hold (auth.symm.trans authP)).symm.trans none) hold
  obtain ⟨slotB, paramsB⟩ := h.credited.seated authB
  have still : (b.edgePut w).auth = b.auth := by
    rw [← h.put, authP, authB]
  obtain ⟨slotP, logP⟩ := State.putWheel_seated odd instantB still
  have slot' : p.slot = .routine r := by
    rw [h.put]
    exact slotP.trans (slotB.trans slot)
  have moving : 0 < (p.speed.wheel x).speed := by rwa [← quiet.speed]
  have suspended := State.suspendIfMoving_of_moving slot' going moving
  have onward : Onward s p := h.credited.onward.trans placed.measured.onward
  have meas (y : Axis) : (p.axis y).meas = (s.axis y).meas := by
    obtain ⟨tilt, -, steer, -⟩ := onward.angles
    cases y
    · exact tilt
    · exact steer
  have held : p.suspendIfMoving.slot =
      .routine { r with held := some (s.axis r.axis).meas, rampSince := none, rampDrive := 0, maxDisp := 0 } := by
    rw [suspended, State.suspend_slot, meas]
  have settled := State.settle_consequence p.suspendIfMoving
  have nowP : p.suspendIfMoving.now = p.now := (State.suspendIfMoving_sound p).consequence.now
  refine ⟨?_, fun queue none => ?_⟩
  · rw [h.done, (State.settle_seated _ instantS fun r' e => ?_).slot, held]
    rw [held] at e
    obtain rfl := Slot.routine.inj e
    exact .inl (Option.some_ne_none _)
  · have queueB : b.path.queue = [] := by
      have shrinks := h.credited.shrinks
      rw [queue] at shrinks
      exact List.suffix_nil.mp shrinks
    have logB : b.log = s.log := by
      rw [h.travel]
      exact State.travel_log_of_empty queue (by rw [← authB, h.travel]; rfl)
    have behind : LoggedFirst p [.routineSuspend r.axis] t := by
      rw [h.done, suspended]
      rw [suspended] at settled
      refine .of_logEvents (settled.now.trans (suspended ▸ nowP)) ?_
      have grows := settled.grows.1
      rwa [State.suspend_log] at grows
    have log : p.log = (s.logEvents (recomputedEvents s.speed t.speed)).log := by
      have taken := logP queueB (paramsB ▸ none)
      rw [quiet.speed]
      have put := h.put
      rw [State.edgePut] at put
      rw [← put, h.events] at taken
      exact taken.trans (State.logEvents_log_congr _ logB h.credited.onward.now paramsB)
    exact behind.behind log h.onward.now

end State.EdgeAccepted

theorem State.edgeTravel_of_source {w : Wheel} {s : State} (source : s.speed.source.isWheel w = true) : s.edgeTravel w =
    ((s.speed.accumulator + (s.params.circ w).toNat) % (10 * s.params.ppr.toNat),
      (s.speed.accumulator + (s.params.circ w).toNat) / (10 * s.params.ppr.toNat)) := if_pos source

theorem State.edgeTravel_of_other {w : Wheel} {s : State} (other : s.speed.source.isWheel w = false) :
    s.edgeTravel w = (s.speed.accumulator, 0) := if_neg (by rw [other]; exact nofun)

theorem State.edgeTravel_count (w : Wheel) (s : State) : (s.edgeTravel w).2 =
    if s.speed.source.isWheel w then (s.speed.accumulator + (s.params.circ w).toNat) / (10 * s.params.ppr.toNat) else 0 := by
  unfold State.edgeTravel
  split <;> rfl

/-- Settles O14. -/
theorem edgesMeasureTheWheel : Obligations.EdgesMeasureTheWheel := by
  intro dt w s
  refine ⟨fun e last soon => exec_wheelEdge_of_rejected (WheelRec.rejects_of_soon last soon), fun late =>
    ⟨_, exec_wheelEdge_of_accepted (WheelRec.rejects_of_late late), ?_⟩⟩
  obtain ⟨a, b, p, edge⟩ := (s.advance dt).acceptEdge_accepted w
  generalize (s.advance dt).acceptEdge w = t at edge
  have own := edge.wheel_own
  have awake (run : s.latch.run = .run) : a = s.advance dt := edge.woken.same (.inl run)
  refine ⟨?_, fun stalled => ?_, fun e moves last => ?_, fun x ne => ?_, edge.recomputed, edge.logged, fun source => ?_, fun other => ?_,
    fun run instant n count => ?_, fun run instant shape => ?_, fun r slot going run instant stands turns => ?_,
    fun parked mask => ?_, fun parked mask => ?_, edge.onward.of_advance⟩
  · rw [own]
    exact (WheelRec.edge_lastEdge ..).1
  · rw [own, WheelRec.edge_of_stalled (by exact stalled)]
    exact ⟨rfl, rfl, rfl⟩
  · rw [own, WheelRec.edge_of_moving (by exact moves) (by exact last)]
    exact ⟨rfl, rfl, rfl⟩
  · rw [edge.wheel_other ne]
    exact ⟨rfl, rfl, rfl, rfl⟩
  · exact edge.accumulator.trans (congrArg Prod.fst (State.edgeTravel_of_source (s := s.advance dt) source))
  · exact edge.accumulator.trans (congrArg Prod.fst (State.edgeTravel_of_other (s := s.advance dt) other))
  · obtain rfl := awake run
    exact edge.travels instant (count.trans (State.edgeTravel_count w (s.advance dt)).symm)
  · obtain rfl := awake run
    exact (edge.timed instant ⟨shape.queueRoom, shape.stagingRoom, shape.queueSettled, shape.stagingSettled, shape.within, shape.unheld,
      shape.dry, shape.watched⟩).of_advance
  · obtain rfl := awake run
    obtain ⟨x, moves⟩ := turns
    exact edge.suspends instant slot going stands moves
  · obtain ⟨wakes, logged⟩ := edge.woken.wakes parked mask
    exact ⟨edge.measured.measured.run.trans (edge.credited.run.trans wakes),
      logged.onward (edge.credited.onward.trans edge.measured.measured.onward)⟩
  · rw [edge.measured.measured.run, edge.credited.run, edge.woken.same (.inr mask)]
    exact parked

end Sys2Proof.Machine
end

section
/-! PROOFS. A sample of an axis's angle sensor: what it senses, and an invalid one (R88, R89). -/

namespace Sys2Proof.Machine

/-! ## What a sample finds -/

/-- The state in which a sample's reading stands at its pin. -/
def State.sampled (dt : Nat) (x : Axis) (m : Int) (s : State) : State := (s.advance dt).setPins (s.pins.setAngle x m)

theorem exec_axisSample_valid {dt : Nat} {x : Axis} {m : Int} (low : -4800 ≤ m) (high : m ≤ 4800) (s : State) :
    exec (.axisSample dt x m) s = .next ((s.sampled dt x m).validSample x m).settle :=
  if_pos (by simp [readingValid, low, high])

theorem exec_axisSample_invalid {dt : Nat} {x : Axis} {m : Int} (outside : m < -4800 ∨ 4800 < m) (s : State) :
    exec (.axisSample dt x m) s = .next ((s.sampled dt x m).invalidSample x).settle := by
  refine if_neg ?_
  simp only [readingValid, Bool.and_eq_true, decide_eq_true_eq]
  omega

/-- Between `s` and `v` only the clock, the axis `x`, which is `a` now, and its pin's reading have changed. -/
structure State.Sensed (dt : Nat) (x : Axis) (m : Int) (a : AxisCtl) (s v : State) : Prop where
  now : v.now = s.now + dt
  pins : v.pins = s.pins.setAngle x m
  portA : v.portA = s.portA
  portB : v.portB = s.portB
  store : v.store = s.store
  speed : v.speed = s.speed
  solve : v.solve = s.solve
  path : v.path = s.path
  auth : v.auth = s.auth
  latch : v.latch = s.latch
  slot : v.slot = s.slot
  params : v.params = s.params
  inputs : v.inputs = s.inputs
  log : v.log = s.log
  axis : v.axis x = a

theorem State.sensed (dt : Nat) (x : Axis) (m : Int) (a : AxisCtl) (s : State) :
    s.Sensed dt x m a ((s.sampled dt x m).setAxis x a) := by
  cases x <;> exact ⟨rfl, rfl, rfl, rfl, rfl, rfl, rfl, rfl, rfl, rfl, rfl, rfl, rfl, rfl, rfl⟩

/-- The axis after a valid sample (R88). -/
def AxisCtl.measured (a : AxisCtl) (m centre : Int) : AxisCtl :=
  { a with meas := m - centre, against := some centre, valid := true }

theorem State.sampled_valid (dt : Nat) (x : Axis) (m : Int) (s : State) : (s.sampled dt x m).validSample x m =
    ((s.sampled dt x m).setAxis x ((s.axis x).measured m (s.params.centre x))).modeSample x := by cases x <;> rfl

/-- The axis after an invalid sample (R89). -/
def AxisCtl.blinded (a : AxisCtl) : AxisCtl := { a.undriven with valid := false }

theorem State.sampled_invalid (dt : Nat) (x : Axis) (m : Int) (s : State) : (s.sampled dt x m).invalidSample x =
    if (s.axis x).valid then
      ((s.sampled dt x m).setAxis x (s.axis x).blinded).fireTrip (sensorTrip x).1 (sensorTrip x).2
    else (s.sampled dt x m).setAxis x (s.axis x).blinded := by cases x <;> rfl

theorem Consequence.axis_valid {s t : State} (c : Consequence s t) (x : Axis) : (t.axis x).valid = (s.axis x).valid := by
  obtain ⟨-, tilt, -, steer⟩ := c.angles
  cases x
  · exact tilt
  · exact steer

/-! ## A drive that is off stays off -/

theorem State.setAxis_off {s : State} {x y : Axis} {a : AxisCtl} (off : (s.axis x).drive = 0)
    (still : a.drive = 0 ∨ a.drive = (s.axis y).drive) : ((s.setAxis y a).axis x).drive = 0 := by
  by_cases same : x = y
  · subst same
    rw [State.setAxis_axis]
    exact still.elim id fun e => e.trans off
  · cases x <;> cases y <;> trivial

theorem State.seedSetpoint_axis (y x : Axis) (s : State) : (s.seedSetpoint y).axis x = s.axis x := by
  cases y <;> rfl

theorem State.leaveSession_axis_off {s : State} {x : Axis} (off : (s.axis x).drive = 0) (y : Axis) :
    ((s.leaveSession y).axis x).drive = 0 := by
  unfold State.leaveSession
  refine (congrArg AxisCtl.drive (State.seedSetpoint_axis y x _)).trans ?_
  exact State.setAxis_off off (.inl rfl)

theorem State.closeRoutine_axis_off {s : State} {x : Axis} (off : (s.axis x).drive = 0) (r : Routine) (o : RoutineOutcome) :
    ((s.closeRoutine r o).axis x).drive = 0 := by
  have result := State.setAxis_off (y := r.axis) off
    (a := { s.axis r.axis with result := { kind := some r.kind, outcome := o, v1 := r.v1, v2 := r.v2, v3 := r.v3 } }) (.inr rfl)
  unfold State.closeRoutine
  rw [State.setSlot_axis]
  refine State.leaveSession_axis_off ?_ r.axis
  rw [State.logEvent_axis]
  exact result

/-- A drive that is off stays off as a session is aborted. -/
theorem State.abortSession_axis_off {s : State} {x : Axis} (off : (s.axis x).drive = 0) : (s.abortSession.axis x).drive = 0 := by
  have driven (y : Axis) : ((s.setDrive y 0).axis x).drive = 0 := State.setAxis_off off (.inl rfl)
  unfold State.abortSession
  split
  · rw [State.finishRoutine_eq, if_neg nofun]
    exact State.closeRoutine_axis_off (driven _) _ _
  · unfold State.finishService
    rw [State.setSlot_axis]
    exact State.leaveSession_axis_off (driven _) _
  · exact off
  · exact off

theorem State.endPermit_axis (p : Port) (x : Axis) (s : State) : (s.endPermit p).axis x = s.axis x := by
  obtain ⟨l, -, e⟩ := s.endPermit_eq p
  rw [e]
  cases x <;> rfl

theorem State.dropHold_axis_off {s : State} {x : Axis} (off : (s.axis x).drive = 0) (reason : EndReason) :
    ((s.dropHold reason).axis x).drive = 0 := by
  unfold State.dropHold
  split
  · exact off
  · unfold State.endHoldCore
    dsimp only
    rw [State.endPermit_axis]
    have aborted := State.abortSession_axis_off (s := (s.logEvent (.holdEnd reason)).setPath .empty) (x := x)
      (by cases x <;> exact off)
    cases x <;> exact aborted

theorem State.decideLatch_axis_off {s t : State} {x : Axis} (decided : s.decideLatch = some t) (off : (s.axis x).drive = 0) :
    (t.axis x).drive = 0 := by
  cases x
  case tilt =>
    obtain ⟨-, same | ⟨-, undriven⟩⟩ := State.decideLatch_turn decided
    · exact (congrArg AxisCtl.drive same).trans off
    · exact congrArg AxisCtl.drive undriven
  case steer => exact (congrArg AxisCtl.drive (State.decideLatch_latchMove decided).steer).trans off

/-- An axis whose drive is off, with no phase that waits for the latch, lasts so. -/
theorem off_lasting (x : Axis) : Lasting fun t => (t.axis x).drive = 0 ∧ t.NotWaiting where
  inputs t u h := ⟨by cases x <;> exact h.1, h.2⟩
  log t e h := ⟨by cases x <;> exact h.1, h.2⟩
  weigh t h := by
    obtain ⟨b, weighed⟩ := t.weighUncommanded_eq
    rw [weighed]
    exact ⟨by cases x <;> exact h.1, h.2⟩
  decide t u decided h :=
    ⟨State.decideLatch_axis_off decided h.1, h.2.of_slot (State.decideLatch_latchMove decided).slot⟩
  session t h := ⟨State.abortSession_axis_off h.1, State.abortSession_notWaiting h.2⟩
  hold t reason h := ⟨State.dropHold_axis_off h.1 reason, State.dropHold_notWaiting h.2 reason⟩

/-! ## An invalid sample (R89) -/

/-- What is the same before a sample is the same after it, for whatever the part makes of it. -/
theorem State.Sensed.lasts {dt : Nat} {x : Axis} {m : Int} {a : AxisCtl} {s v t : State} (h : s.Sensed dt x m a v)
    (c : Consequence v t) : t.now = s.now + dt ∧ (t.axis x).meas = a.meas ∧ (t.axis x).valid = a.valid ∧
      t.pins = s.pins.setAngle x m ∧ t.portA = s.portA ∧ t.portB = s.portB ∧ t.store = s.store ∧ SameSpeed s t ∧ SameTargets s t ∧
      SameRider s t ∧ SameSwitches s t ∧ SameSettings s t := by
  refine ⟨c.now.trans h.now, (c.axis_meas x).trans (by rw [h.axis]), (c.axis_valid x).trans (by rw [h.axis]),
    c.outside.pins.trans h.pins, c.outside.portA.trans h.portA, c.outside.portB.trans h.portB, c.outside.store.trans h.store,
    ?_, ?_, ?_, fun i => (c.switches i).trans (by rw [h.inputs]), c.settings.trans (congrArg _ h.params)⟩
  · rw [SameSpeed, ← h.speed]
    exact c.speed
  · rw [SameTargets, ← h.solve]
    exact c.targets
  · rw [SameRider, ← h.auth]
    exact c.rider

/-- The first invalid sample of a spell fires the sensor trip; every one leaves the drive off and the measurement alone. -/
theorem State.invalidSample_spec {dt : Nat} {x : Axis} {m : Int} {s : State} (instant : s.params.noInstantTrip)
    (phases : s.NotWaiting) (outside : m < -4800 ∨ 4800 < m) : ∃ t, exec (.axisSample dt x m) s = .next t ∧
      (t.axis x).drive = 0 ∧ (t.axis x).valid = false ∧ (t.axis x).meas = (s.axis x).meas ∧
      t.pins = s.pins.setAngle x m ∧
      ((s.axis x).valid = true → (∀ y ∈ s.inputs.trips, y.id ≠ (sensorTrip x).1) →
        TripFired (sensorTrip x).1 (sensorTrip x).2 s t) ∧
      ((s.axis x).valid = false → t.inputs.trips = s.inputs.trips) ∧
      sensorTrip .tilt = (.sensorTilt, .lockdown) ∧ sensorTrip .steer = (.sensorSteer, .degrade) ∧
      t.portA = s.portA ∧ t.portB = s.portB ∧ t.store = s.store ∧ SameSpeed s t ∧ SameTargets s t ∧ SameRider s t ∧
      SameSwitches s t ∧ SameSettings s t := by
  have ran := exec_axisSample_invalid (dt := dt) (x := x) outside s
  have blind := s.sensed dt x m (s.axis x).blinded
  rw [State.sampled_invalid] at ran
  generalize (s.sampled dt x m).setAxis x (s.axis x).blinded = v at *
  have off : (v.axis x).drive = 0 ∧ v.NotWaiting := ⟨by rw [blind.axis]; rfl, phases.of_slot blind.slot⟩
  have lasting := off_lasting x
  have instant' : v.params.noInstantTrip := blind.params ▸ instant
  cases first : (s.axis x).valid
  case true =>
    rw [first, if_pos rfl] at ran
    have consequence := (State.fireTrip_consequence (sensorTrip x).1 (sensorTrip x).2 v).trans (State.settle_consequence _)
    obtain ⟨drive, -⟩ := lasting.settleN (fun _ h => h.2.ready) 8 (lasting.fireTrip (sensorTrip x).1 (sensorTrip x).2 off)
    obtain ⟨-, meas, valid, pins, portA, portB, store, speed, targets, rider, switches, settings⟩ := blind.lasts consequence
    refine ⟨_, ran, drive, valid, meas, pins, fun _ fresh => ?_, nofun, rfl, rfl, portA, portB, store, speed, targets, rider,
      switches, settings⟩
    exact (State.fireTrip_fired (blind.inputs ▸ fresh) (State.settle_consequence _)).of_same (by rw [blind.inputs]) blind.log
      (by rw [blind.auth]) blind.latch
  case false =>
    rw [first, if_neg nofun] at ran
    obtain ⟨drive, -⟩ := lasting.settleN (fun _ h => h.2.ready) 8 off
    obtain ⟨-, meas, valid, pins, portA, portB, store, speed, targets, rider, switches, settings⟩ :=
      blind.lasts (State.settle_consequence v)
    exact ⟨_, ran, drive, valid, meas, pins, nofun, fun _ => (State.settle_quiet v instant').trips.trans (by rw [blind.inputs]), rfl,
      rfl, portA, portB, store, speed, targets, rider, switches, settings⟩

end Sys2Proof.Machine
end

section
/-! PROOFS. A valid sample of an axis in OFF, TRACK or SERVICE (R88, R90 to R92, R110, R119). -/

namespace Sys2Proof.Machine

/-! ## What a sample leaves of the units -/

theorem State.setAxis_hushed (x : Axis) (a : AxisCtl) (s : State) : Hushed s (s.setAxis x a) := by
  cases x <;> exact .of

theorem State.finishRoutine_told_eq (r : Routine) (o : RoutineOutcome) (s : State) : s.finishRoutine r o true =
    (((if o = .pass then (s.setDrive r.axis 0).setParams (r.writes (s.setDrive r.axis 0).params)
      else s.setDrive r.axis 0).setLatch .unlatchedFault).logEvent (.lockFault .slip)).closeRoutine r o := rfl

theorem State.closeRoutine_hushed (r : Routine) (o : RoutineOutcome) (s : State) : Hushed s (s.closeRoutine r o) :=
  (((State.setAxis_hushed r.axis _ s).trans (State.logEvent_hushed _ _)).trans (State.leaveSession_hushed _ _)).trans
    (State.setSlot_hushed _ _)

theorem State.pushSample_hushed (r : Routine) (sign : Int) (s : State) : Hushed s (s.pushSample r sign) := by
  unfold State.pushSample
  refine .ite _ ?_ ((State.setSlot_hushed _ s).trans (State.setDrive_hushed _ _ _))
  rw [State.finishRoutine_told_eq, if_neg nofun]
  exact ((((State.setSlot_hushed _ s).trans (State.setDrive_hushed _ _ _)).trans (State.setLatch_calm _ _).hushed).trans
    (State.logEvent_hushed _ _)).trans (State.closeRoutine_hushed _ _ _)

theorem State.rampSample_hushed (r : Routine) (sign : Int) (s : State) : Hushed s (s.rampSample r sign) := by
  unfold State.rampSample
  dsimp only
  split
  · exact State.setDrive_hushed _ _ s
  · exact .ite _ ((State.setSlot_hushed _ s).trans (State.setDrive_hushed _ _ _)) (State.setDrive_hushed _ _ s)

theorem State.routineSample_hushed (r : Routine) (s : State) : Hushed s (s.routineSample r) := by
  have driven (q : Routine) (d : Int) : Hushed s ((s.setSlot (.routine q)).setDrive r.axis d) :=
    (State.setSlot_hushed _ s).trans (State.setDrive_hushed _ _ _)
  have held (q : Int) : Hushed s (s.holdAt r.axis q) := State.setDrive_hushed _ _ s
  unfold State.routineSample
  split
  · exact held _
  · unfold State.phaseSample
    cases r.phase
    case release | engage => exact held _
    case sweepLeft | sweepRight => exact driven _ _
    case centre => exact .ite _ ((held _).trans (State.completePhase_hushed _ _)) (held _)
    case rampLeft | rampRight => exact State.rampSample_hushed r _ s
    case pushLeft | pushRight => exact State.pushSample_hushed r _ s

/-- A sample touches the axes, the routine and the latch. -/
theorem State.modeSample_hushed (x : Axis) (s : State) : Hushed s (s.modeSample x) := by
  have undriven : Hushed s (s.setAxis x (s.axis x).undriven) := State.setAxis_hushed x _ s
  unfold State.modeSample
  split
  · exact undriven
  · exact .ite _ (State.setAxis_hushed x _ s) undriven
  · split
    · exact .ite _ (State.routineSample_hushed _ s) (.refl s)
    all_goals exact .refl s
  · split
    · exact .ite _ (State.setDrive_hushed _ _ s) (.refl s)
    all_goals exact .refl s

/-! ## The latch states in which the tilt drive stands (R91, R119) -/

theorem State.setLatch_tilt_of_open {l : LatchState} (opens : l ≠ .engaged ∧ l ≠ .jammed) (s : State) : (s.setLatch l).tilt = s.tilt :=
  State.takeLatch_tilt_of_open opens _

/-- An engagement with the switch OPEN leaves the tilt axis. -/
theorem State.beginEngage_tilt {o : SetOrigin} {s : State} (opened : s.latch.closed = false) : (s.beginEngage o).tilt = s.tilt := by
  have taken : (s.setLatch .engaging).tilt = s.tilt := State.setLatch_tilt_of_open (l := .engaging) ⟨nofun, nofun⟩ s
  by_cases idle : s.latch.pulse = none
  · rw [State.beginEngage_of_apart idle opened]
    exact taken
  · rw [State.beginEngage, State.beginSet_eq, State.startAttempt_of_pulse (by rw [State.setLatch_latch]; exact idle)]
    exact taken

theorem State.weighUncommanded_tilt (s : State) : s.weighUncommanded.tilt = s.tilt := by
  obtain ⟨b, weighed⟩ := s.weighUncommanded_eq
  rw [weighed]
  rfl

/-- RELEASED or ENGAGING with the switch OPEN: the tilt axis is as in `a`. -/
structure State.OpenFree (a : AxisCtl) (s : State) : Prop where
  tilt : s.tilt = a
  closed : s.latch.closed = false
  state : s.latch.state = .released ∨ s.latch.state = .engaging

theorem State.openFree_stable (a : AxisCtl) : Stable False (State.OpenFree a) where
  inputs _ _ _ _ _ h := ⟨h.tilt, h.closed, h.state⟩
  log _ _ h := ⟨h.tilt, h.closed, h.state⟩
  weigh s h := by
    obtain ⟨b, weighed⟩ := s.weighUncommanded_eq
    rw [weighed]
    exact ⟨h.tilt, h.closed, h.state⟩
  decide s t decided h := by
    obtain released | engaging := h.state
    · rw [State.decideLatch_released (State.decideLatch_first s t decided) released] at decided
      split at decided
      · cases decided
        obtain ⟨closed, -⟩ := (State.beginEngage_latchMove .own s).clock
        refine ⟨(State.beginEngage_tilt h.closed).trans h.tilt, closed.trans h.closed, .inr ?_⟩
        exact (State.beginEngage_state .own s).resolve_right fun ⟨_, shut⟩ => nomatch h.closed.symm.trans shut
      · cases decided
    · rw [State.decideLatch_under_way (.inr engaging)] at decided
      cases decided

/-- UNLATCHED_FAULT, or freed from it by its speed (R121): the tilt axis is as in `a`. -/
structure State.FaultFree (a : AxisCtl) (s : State) : Prop where
  tilt : s.tilt = a
  valid : s.params.Valid
  state : s.latch.state = .unlatchedFault ∨ (s.latch.state = .released ∧ s.fast = true ∧ s.grade ≠ .lockdown)

theorem State.slow_eq_false_of_fast {s : State} (valid : s.params.Valid) (fast : s.fast = true) : s.slow = false := by
  cases slow : s.slow
  · rfl
  · exact nomatch (State.not_fast_of_slow valid slow).symm.trans fast

theorem State.faultFree_stable (a : AxisCtl) : Stable False (State.FaultFree a) where
  inputs s u _ trips _ h := by
    refine ⟨h.tilt, h.valid, h.state.imp id fun ⟨state, fast, calm⟩ => ⟨state, fast, ?_⟩⟩
    rwa [State.grade, State.setInputs_inputs, trips]
  log _ _ h := ⟨h.tilt, h.valid, h.state⟩
  weigh s h := by
    obtain ⟨b, weighed⟩ := s.weighUncommanded_eq
    rw [weighed]
    exact ⟨h.tilt, h.valid, h.state⟩
  decide s t decided h := by
    obtain fault | ⟨released, fast, calm⟩ := h.state
    · rw [State.decideLatch_unlatchedFault (State.decideLatch_first s t decided) fault] at decided
      split at decided
      next free =>
        cases decided
        have move := State.setLatch_latchMove .released s
        obtain ⟨fast', -, -, grade⟩ := move.weighs
        simp only [Bool.and_eq_true] at free
        obtain ⟨fast, -, calm, -⟩ := State.fast_of_mayLean free.2
        refine ⟨?_, move.params ▸ h.valid, .inr ⟨State.setLatch_state .released s, fast'.trans fast, grade ▸ calm⟩⟩
        exact (State.setLatch_tilt_of_open (l := .released) ⟨nofun, nofun⟩ s).trans h.tilt
      next => cases decided
    · have apart := State.mayEngage_of_apart (.inl ⟨State.slow_eq_false_of_fast h.valid fast, calm⟩)
      rw [State.decideLatch_released (State.decideLatch_first s t decided) released, apart, Bool.and_false] at decided
      cases decided

/-- A latch state in which no decision closes the latch while the part settles (R91, R117, R119, R121). -/
inductive State.DriveStands (s : State) : Prop where
  | going (state : s.latch.state = .releasing ∨ s.latch.state = .engaging)
  | fault (state : s.latch.state = .unlatchedFault) (valid : s.params.Valid)
  | opened (state : s.latch.state = .released) (closed : s.latch.closed = false)
  | apart (state : s.latch.state = .released) (engage : s.mayEngage = false)
  | preload (state : s.latch.state = .releasePreload) (stands : s.preloadOff = false)
      (free : ∀ i, (s.params.combiner i).action ≠ .lockHold)

theorem State.DriveStands.tilt {s : State} (h : s.DriveStands) (instant : s.params.noInstantTrip) (phases : s.NotWaiting) :
    s.settle.tilt = s.tilt := by
  cases h
  case going state =>
    obtain ⟨-, axis, -⟩ := (State.settle_unmoved_under_way instant state).standing
    exact axis .tilt
  case fault state valid =>
    exact ((State.faultFree_stable s.tilt).settleN 8 instant phases nofun ⟨rfl, valid, .inl state⟩).tilt
  case opened state closed =>
    exact ((State.openFree_stable s.tilt).settleN 8 instant phases nofun ⟨rfl, closed, .inl state⟩).tilt
  case apart state engage =>
    have idles : s.Idles False := .released state engage
    obtain ⟨-, axis, -⟩ := (idles.settleN 8 instant phases nofun).standing
    exact axis .tilt
  case preload state stands free =>
    have unmoved : Unmoved True s (s.settleN 8) := State.settleN_unmoved 8 instant phases (fun _ => .inl free) fun _ u =>
      State.decideLatch_of_standing_preload (u.latch_state.trans state) (u.preloadOff.trans stands)
    obtain ⟨-, axis, -⟩ := unmoved.standing
    exact axis .tilt

end Sys2Proof.Machine
end

section
/-! PROOFS. A valid sample outside routines: the tracking loop, and an upright axis that the sample lets engage (R90 to R92, R119). -/

namespace Sys2Proof.Machine

/-! ## An engagement that a sample lets begin (R119) -/

/-- With the coil idle and the switch CLOSED an engagement succeeds at once (R114). -/
theorem State.beginEngage_of_closed {o : SetOrigin} {s : State} (idle : s.latch.pulse = none) (closed : s.latch.closed = true) :
    s.beginEngage o = ((s.setLatch .engaging).setLatchUnit ((s.setLatch .engaging).latch.opened s.params
      { direction := .engage, attempt := 1, stage := .waitCoil, origin := o } s.now)).succeedSet .engage := by
  rw [State.beginEngage, State.beginSet_eq, State.startAttempt_of_idle (by rw [State.setLatch_latch]; exact idle),
    State.openWindow_of_reached (by rw [State.setLatch_latch]; exact closed), State.setLatch_params, State.setLatch_now]

/-- ENGAGED with the tilt drive off, where no release may begin. -/
structure State.Shut (s : State) : Prop where
  state : s.latch.state = .engaged
  drive : s.tilt.drive = 0
  valid : s.params.Valid
  cause : s.EngageCause

/-- RELEASED, about to succeed with an engagement at once. -/
structure State.Shutting (s : State) : Prop where
  state : s.latch.state = .released
  first : s.latch.first = none
  pulse : s.latch.pulse = none
  closed : s.latch.closed = true
  own : s.ownRules = true
  engage : s.mayEngage = true
  mode : s.tilt.mode = .track
  valid : s.params.Valid

theorem State.EngageCause.setInputs {s : State} (h : s.EngageCause) {u : InputUnit} (trips : u.trips = s.inputs.trips) :
    (s.setInputs u).EngageCause := by
  refine h.imp id fun grave => ?_
  rwa [State.grade, State.setInputs_inputs, trips]

theorem State.Shut.undecided {s : State} (h : s.Shut) : s.decideLatch = none := by
  obtain ⟨permit, lean⟩ := State.noRelease_of_mayEngage h.valid h.cause
  exact State.decideLatch_engaged_of_noRelease h.state permit lean

theorem State.shut_stable : Stable False State.Shut where
  inputs _ _ _ trips _ h := ⟨h.state, h.drive, h.valid, h.cause.setInputs trips⟩
  log _ _ h := ⟨h.state, h.drive, h.valid, h.cause⟩
  weigh s h := by
    have cause := h.cause.of_move s.weighUncommanded_latchMove
    obtain ⟨b, weighed⟩ := s.weighUncommanded_eq
    rw [weighed] at cause ⊢
    exact ⟨h.state, h.drive, h.valid, cause⟩
  decide s t decided h := by
    rw [h.undecided] at decided
    cases decided

theorem State.Shutting.decided {s : State} (h : s.Shutting) : s.decideLatch = some (s.beginEngage .own) := by
  rw [State.decideLatch_released h.first h.state, h.own, h.engage]
  rfl

theorem State.Shutting.shuts {s : State} (h : s.Shutting) : (s.beginEngage .own).Shut := by
  have move := State.beginEngage_latchMove .own s
  obtain ⟨cause, -⟩ := State.mayEngage_cause h.engage
  have mode : (s.setLatch .engaging).tilt.mode = .track := (State.setLatch_latchMove .engaging s).tilt_mode.trans h.mode
  refine ⟨?_, ?_, move.params ▸ h.valid, State.EngageCause.of_move cause move⟩
  · rw [State.beginEngage_of_closed h.pulse h.closed, State.succeedSet_latch]
    rfl
  · rw [State.beginEngage_of_closed h.pulse h.closed, State.succeedSet]
    refine (congrArg AxisCtl.drive (State.takeLatch_tilt .engaged _)).trans (congrArg AxisCtl.drive (if_pos ?_))
    rw [Bool.and_eq_true]
    exact ⟨decide_eq_true mode, rfl⟩

theorem State.Shutting.of_latch {s : State} (h : s.Shutting) (b : Bool) :
    (s.setLatchUnit { s.latch with uncommanded := b }).Shutting :=
  ⟨h.state, h.first, h.pulse, h.closed, h.own, h.engage, h.mode, h.valid⟩

theorem State.shutting_stable : Stable False fun s => s.Shutting ∨ s.Shut where
  inputs s u switches trips combined h := by
    refine h.imp (fun h => ?_) fun shut => State.shut_stable.inputs s u switches trips combined shut
    have engage : (s.setInputs u).mayEngage = s.mayEngage := by
      have grade : (s.setInputs u).grade = s.grade := congrArg gradeOf trips
      rw [State.mayEngage, grade]
      rfl
    exact ⟨h.state, h.first, h.pulse, h.closed, h.own, engage.trans h.engage, h.mode, h.valid⟩
  log s e h := h.imp (fun h => ⟨h.state, h.first, h.pulse, h.closed, h.own, h.engage, h.mode, h.valid⟩) (State.shut_stable.log s e)
  weigh s h := by
    refine h.imp (fun h => ?_) (State.shut_stable.weigh s)
    obtain ⟨b, weighed⟩ := s.weighUncommanded_eq
    rw [weighed]
    exact h.of_latch b
  decide s t decided h := by
    obtain opening | shut := h
    · rw [opening.decided] at decided
      cases decided
      exact .inr opening.shuts
    · rw [shut.undecided] at decided
      cases decided

/-- The latch is ENGAGED when the part has settled, and the tilt drive off (R91, R119). -/
theorem State.Shutting.settleN {s : State} (h : s.Shutting) (k : Nat) (instant : s.params.noInstantTrip) (phases : s.NotWaiting) :
    (s.settleN (k + 1)).Shut := by
  have handed : s.handOn.Shutting ∨ s.handOn.Shut := (State.shutting_stable.handOnN 32 instant nofun (.inl h)).1
  obtain ⟨quiet, seated⟩ := State.handOn_calm s instant
  have move := s.handOn.weighUncommanded_latchMove
  have weighed := State.shutting_stable.weigh _ handed
  have instant' : s.handOn.weighUncommanded.params.noInstantTrip := by
    rw [move.params, seated.params]
    exact instant
  have phases' : s.handOn.weighUncommanded.NotWaiting := phases.of_slot (move.slot.trans seated.slot)
  rw [State.settleN]
  generalize s.handOn.weighUncommanded = w at *
  obtain opening | shut := weighed
  · have move' := State.beginEngage_latchMove .own w
    rw [opening.decided]
    exact State.shut_stable.settleN k (move'.params ▸ instant') (phases'.of_slot move'.slot) nofun opening.shuts
  · rw [shut.undecided, phases'.ready]
    exact shut

end Sys2Proof.Machine
end

section
/-! PROOFS. What a valid sample comes to outside routines (R88, R90 to R92, R110, R119). -/

namespace Sys2Proof.Machine

/-! ## What a sampled part weighs -/

section
variable {dt : Nat} {x : Axis} {m : Int} {a : AxisCtl} {s v : State}

/-- The axis sampled is commanded. -/
theorem State.Sensed.setAxis (h : s.Sensed dt x m a v) (b : AxisCtl) : s.Sensed dt x m b (v.setAxis x b) := by
  obtain ⟨now, pins, portA, portB, store, speed, solve, path, auth, latch, slot, params, inputs, log, -⟩ := h
  cases x <;> exact ⟨now, pins, portA, portB, store, speed, solve, path, auth, latch, slot, params, inputs, log, rfl⟩

theorem State.Sensed.weighs (h : s.Sensed dt x m a v) : v.slow = s.slow ∧ v.grade = s.grade ∧ v.permit = s.permit ∧
    v.ownRules = s.ownRules ∧ v.lockDemand = s.lockDemand ∧ v.setpoint x = s.setpoint x := by
  refine ⟨?_, ?_, ?_, ?_, ?_, ?_⟩
  · rw [State.slow, h.speed, h.params, State.slow]
  · rw [State.grade, h.inputs, State.grade]
  · rw [State.permit, h.latch, State.permit]
  · rw [State.ownRules, h.latch, h.slot, State.ownRules]
  · rw [State.lockDemand, h.latch, State.combined_congr h.params fun _ => by rw [h.inputs], State.lockDemand]
  · cases x
    · exact congrArg SolveUnit.phiS h.solve
    · exact congrArg SolveUnit.deltaS h.solve

theorem State.Sensed.notWaiting (h : s.Sensed dt x m a v) (phases : s.NotWaiting) : v.NotWaiting := phases.of_slot h.slot

theorem State.Sensed.instant (h : s.Sensed dt x m a v) (instant : s.params.noInstantTrip) : v.params.noInstantTrip := h.params ▸ instant

/-! ## OFF, or a latch that keeps the tilt drive off (R89, R91) -/

theorem State.modeSample_of_undriven (off : (v.axis x).mode = .off ∨ ((v.axis x).mode = .track ∧ v.driveOn x = false)) :
    v.modeSample x = v.setAxis x (v.axis x).undriven := by
  unfold State.modeSample
  obtain mode | ⟨mode, off⟩ := off
  · rw [mode]
  · rw [mode, off]
    exact if_neg nofun

theorem State.Sensed.undriven (h : s.Sensed dt x m a v) (instant : s.params.noInstantTrip) (phases : s.NotWaiting)
    (off : a.mode = .off ∨ (a.mode = .track ∧ v.driveOn x = false)) : ((v.modeSample x).settle.axis x).drive = 0 := by
  rw [State.modeSample_of_undriven (by rwa [h.axis])]
  have rests := h.setAxis (v.axis x).undriven
  have drive : ((v.setAxis x (v.axis x).undriven).axis x).drive = 0 := by
    rw [rests.axis]
    rfl
  exact (State.settleN_drive 8 (rests.instant instant) (rests.notWaiting phases) x).elim (fun e => e.trans drive) id

/-! ## The loop (R90, R92) -/

/-- The axis after a loop update. -/
def AxisCtl.looped (a : AxisCtl) (p : Params) (x : Axis) (e : Int) (now : Nat) : AxisCtl :=
  ({ a with drive := p.loop x e } : AxisCtl).watchTrack (p.trackErr x) e now

theorem AxisCtl.looped_drive (a : AxisCtl) (p : Params) (x : Axis) (e : Int) (now : Nat) :
    (a.looped p x e now).drive = p.loop x e := by
  unfold AxisCtl.looped AxisCtl.watchTrack
  split <;> rfl

theorem AxisCtl.looped_mode (a : AxisCtl) (p : Params) (x : Axis) (e : Int) (now : Nat) :
    (a.looped p x e now).mode = a.mode ∧ (a.looped p x e now).meas = a.meas := by
  obtain ⟨mode, meas, -⟩ := ({ a with drive := p.loop x e } : AxisCtl).watchTrack_mode (p.trackErr x) e now
  exact ⟨mode, meas⟩

theorem AxisCtl.looped_above {a : AxisCtl} {p : Params} {x : Axis} {e : Int} (above : p.trackErr x < |e|) (now : Nat) :
    (a.looped p x e now).trackSince = some (a.trackSince.getD now) ∧ (a.looped p x e now).trackFired = a.trackFired := by
  unfold AxisCtl.looped AxisCtl.watchTrack
  rw [mag_eq_abs, if_pos above]
  exact ⟨rfl, rfl⟩

theorem AxisCtl.looped_below {a : AxisCtl} {p : Params} {x : Axis} {e : Int} (below : |e| ≤ p.trackErr x) (now : Nat) :
    (a.looped p x e now).trackSince = none ∧ (a.looped p x e now).trackFired = false := by
  unfold AxisCtl.looped AxisCtl.watchTrack
  rw [mag_eq_abs, if_neg (not_lt.mpr below)]
  exact ⟨rfl, rfl⟩

theorem State.Sensed.modeSample_track (h : s.Sensed dt x m a v) (mode : a.mode = .track) (on : v.driveOn x = true) :
    v.modeSample x = v.setAxis x (a.looped s.params x (s.setpoint x - a.meas) (s.now + dt)) := by
  obtain ⟨-, -, -, -, -, setpoint⟩ := h.weighs
  unfold State.modeSample
  rw [h.axis, mode]
  refine (if_pos on).trans ?_
  rw [State.trackSample, setpoint, h.axis, h.params, h.now]
  rfl

theorem State.Sensed.driveOn (h : s.Sensed dt x m a v)
    (on : x = .tilt → s.latch.state ≠ .engaged ∧ s.latch.state ≠ .jammed) : v.driveOn x = true := by
  cases x
  case steer => rfl
  case tilt =>
    obtain ⟨engaged, jammed⟩ := on rfl
    rw [State.driveOn, LatchUnit.tiltDriveOn, h.latch]
    simp [engaged, jammed]

/-- What a loop update sets stands where the latch lets the drive stand. -/
theorem State.Sensed.tracks (h : s.Sensed dt x m a v) (mode : a.mode = .track) (instant : s.params.noInstantTrip)
    (phases : s.NotWaiting) (on : x = .tilt → s.latch.state ≠ .engaged ∧ s.latch.state ≠ .jammed)
    (stands : ∀ w b, s.Sensed dt x m b w → b.mode = a.mode → b.meas = a.meas → x = .tilt → w.DriveStands) :
    (v.modeSample x).settle.axis x = a.looped s.params x (s.setpoint x - a.meas) (s.now + dt) := by
  rw [h.modeSample_track mode (h.driveOn on)]
  have looped := h.setAxis (a.looped s.params x (s.setpoint x - a.meas) (s.now + dt))
  obtain ⟨mode', meas'⟩ := a.looped_mode s.params x (s.setpoint x - a.meas) (s.now + dt)
  refine Eq.trans ?_ looped.axis
  have drives := stands _ _ looped mode' meas'
  have instant' := looped.instant instant
  have phases' := looped.notWaiting phases
  cases x
  case tilt => exact (drives rfl).tilt instant' phases'
  case steer => exact (State.settle_seated _ instant' phases').steer

/-! ## An axis in SERVICE (R110) -/

theorem State.Sensed.serves (h : s.Sensed dt x m a v) (mode : a.mode = .service) {d : Option StandingDrive}
    (slot : s.slot = .service x d) (instant : s.params.noInstantTrip) (phases : s.NotWaiting) :
    ((v.modeSample x).settle.axis x).drive = (d.map (·.value)).getD 0 := by
  have sampled : v.modeSample x = v.setDrive x (standingValue d) := by
    unfold State.modeSample
    rw [h.axis, mode, h.slot, slot]
    exact if_pos rfl
  have driven := h.setAxis { v.axis x with drive := standingValue d }
  have untracked : ((v.setDrive x (standingValue d)).axis x).mode ≠ .track := by
    rw [State.setDrive_axis, h.axis]
    exact fun e => nomatch mode.symm.trans e
  have stands := State.settleN_axis_of_untracked 8 (s := v.setDrive x (standingValue d)) (driven.instant instant)
    (driven.notWaiting phases) untracked
  rw [sampled]
  exact congrArg AxisCtl.drive (stands.trans (State.setDrive_axis ..))

end

/-! ## An upright tilt axis (R119) -/

theorem State.Sensed.shuts {dt : Nat} {m : Int} {a : AxisCtl} {s v : State} (h : s.Sensed dt .tilt m a v) (mode : a.mode = .track)
    (instant : s.params.noInstantTrip) (phases : s.NotWaiting) (released : s.latch.state = .released) (closed : s.latch.closed = true)
    (pulse : s.latch.pulse = none) (first : s.latch.first = none) (own : s.ownRules = true) (valid : s.params.Valid)
    (cause : s.EngageCause) (upright : mag a.meas ≤ s.params.uprightWindow) (lean : mag s.solve.phiS ≤ s.params.uprightWindow) :
    (v.modeSample .tilt).settle.Shut := by
  rw [h.modeSample_track mode (h.driveOn fun _ => by rw [released]; exact ⟨nofun, nofun⟩)]
  have looped := h.setAxis (a.looped s.params .tilt (s.setpoint .tilt - a.meas) (s.now + dt))
  obtain ⟨mode', meas'⟩ := a.looped_mode s.params .tilt (s.setpoint .tilt - a.meas) (s.now + dt)
  obtain ⟨slow, grade, permit, own', -⟩ := looped.weighs
  generalize v.setAxis .tilt _ = w at *
  have axis : w.tilt = _ := looped.axis
  have engage : w.mayEngage = true := by
    have upright' : w.uprightNow = true := by
      rw [State.uprightNow, axis, meas', looped.params, looped.solve, decide_eq_true upright, decide_eq_true lean]
      rfl
    rw [State.mayEngage, slow, permit, grade, upright', Bool.and_true]
    obtain ⟨slow, permit⟩ | grave := cause
    · rw [slow, permit]
      rfl
    · rw [decide_eq_true grave, Bool.or_true]
  have shutting : w.Shutting :=
    ⟨looped.latch ▸ released, looped.latch ▸ first, looped.latch ▸ pulse, looped.latch ▸ closed, own'.trans own, engage,
      (congrArg AxisCtl.mode axis).trans (mode'.trans mode), looped.params ▸ valid⟩
  exact shutting.settleN 7 (looped.instant instant) (looped.notWaiting phases)

end Sys2Proof.Machine
end

section
/-! PROOFS. A valid sample of the axis of a routine, outside pushes (R98 to R101, R103, R104). -/

namespace Sys2Proof.Machine

theorem State.modeSample_routine {r : Routine} {v : State} (slot : v.slot = .routine r) (mode : (v.axis r.axis).mode = .routine) :
    v.modeSample r.axis = v.routineSample r := by
  unfold State.modeSample
  rw [mode, slot]
  exact if_pos rfl

theorem State.routineSample_held {r : Routine} {q : Int} (held : r.held = some q) (v : State) :
    v.routineSample r = v.holdAt r.axis q := by rw [State.routineSample, held]

theorem State.routineSample_runs {r : Routine} (runs : r.held = none) (v : State) : v.routineSample r = v.phaseSample r := by
  rw [State.routineSample, runs]

theorem State.holdAt_eq (x : Axis) (target : Int) (v : State) :
    v.holdAt x target = v.setDrive x (v.params.loop x (target - (v.axis x).meas)) := rfl

/-! ## The loop of a routine (R98, R100, R101, R104) -/

/-- The drive commanded at a sample stands, with the routine, where no phase waits for the latch. -/
theorem State.driven_rests {r : Routine} {d : Int} {v : State} (slot : v.slot = .routine r) (phases : v.NotWaiting)
    (mode : (v.axis r.axis).mode = .routine) (instant : v.params.noInstantTrip) :
    ((v.setDrive r.axis d).settle.axis r.axis).drive = d ∧ (v.setDrive r.axis d).settle.slot = .routine r := by
  have instant' : (v.setDrive r.axis d).params.noInstantTrip := by rwa [State.setDrive_params]
  have phases' : (v.setDrive r.axis d).NotWaiting := phases.of_slot (State.setDrive_slot ..)
  have axis := State.setDrive_axis r.axis d v
  refine ⟨?_, (State.settle_seated _ instant' phases').slot.trans ((State.setDrive_slot ..).trans slot)⟩
  have stands := State.settleN_axis_of_untracked 8 instant' phases' (x := r.axis)
    (by rw [axis]; exact fun e => nomatch mode.symm.trans e)
  exact congrArg AxisCtl.drive (stands.trans axis)

/-- Under a tilt routine the latch controller only closes a latch (R117, R120, R123). -/
theorem State.decideLatch_onTilt {s t : State} (tilt : s.slot.onTilt = true) (decided : s.decideLatch = some t) :
    t.latch.state = .engaged ∧ (s.latch.state = .releasePreload ∨ s.latch.state = .jammed) := by
  have own := State.ownRules_of_onTilt tilt
  have first := State.decideLatch_first s t decided
  cases state : s.latch.state
  case engaged =>
    rw [State.decideLatch_engaged first state, own] at decided
    cases decided
  case releasePreload =>
    rw [State.decideLatch_releasePreload first state] at decided
    split at decided
    · cases decided
      exact ⟨by rw [State.abandonPreload_latch], .inl rfl⟩
    · cases decided
  case releasing =>
    rw [State.decideLatch_under_way (.inl state)] at decided
    cases decided
  case released =>
    rw [State.decideLatch_released first state, own] at decided
    cases decided
  case engaging =>
    rw [State.decideLatch_under_way (.inr state)] at decided
    cases decided
  case jammed =>
    rw [State.decideLatch_jammed first state] at decided
    split at decided
    · cases decided
      exact ⟨State.setLatch_state .engaged s, .inr rfl⟩
    · cases decided
  case unlatchedFault =>
    rw [State.decideLatch_unlatchedFault first state, own] at decided
    cases decided

/-- A latch state for which a RELEASE or an ENGAGE phase goes on waiting (R98). -/
def Routine.WaitsAt (r : Routine) (l : LatchState) : Prop :=
  (r.phase = .release ∧ l ≠ .released) ∨
    (r.phase = .engage ∧ (l = .engaging ∨ l = .unlatchedFault ∨ l = .released ∨ l = .releasing))

/-- A tilt routine goes on waiting for the latch, its axis as in `a`. -/
structure State.WaitsOn (r : Routine) (a : AxisCtl) (s : State) : Prop where
  slot : s.slot = .routine r
  tilt : s.tilt = a
  waits : r.WaitsAt s.latch.state

theorem State.WaitsOn.unready {r : Routine} {a : AxisCtl} {s : State} (h : s.WaitsOn r a) : s.routineReady = none := by
  refine State.routineReady_of_waiting h.slot ?_
  obtain ⟨phase, apart⟩ | ⟨phase, state⟩ := h.waits <;> rw [phase]
  · exact fun e => apart (Option.some.inj e).symm
  · obtain e | e | e | e := state <;> rw [e] <;> exact nofun

theorem State.waitsOn_stable {r : Routine} {a : AxisCtl} (tilt : r.axis = .tilt) (mode : a.mode = .routine) :
    Stable False (State.WaitsOn r a) where
  inputs _ _ _ _ _ h := ⟨h.slot, h.tilt, h.waits⟩
  log _ _ h := ⟨h.slot, h.tilt, h.waits⟩
  weigh s h := by
    obtain ⟨b, weighed⟩ := s.weighUncommanded_eq
    rw [weighed]
    exact ⟨h.slot, h.tilt, h.waits⟩
  decide s t decided h := by
    have onTilt : s.slot.onTilt = true := by
      rw [h.slot]
      exact decide_eq_true tilt
    obtain ⟨engaged, state⟩ := State.decideLatch_onTilt onTilt decided
    have stands : t.tilt = s.tilt := (State.decideLatch_turn decided).tilt.resolve_right fun ⟨track, _⟩ => by
      rw [h.tilt, mode] at track
      cases track
    refine ⟨(State.decideLatch_latchMove decided).slot.trans h.slot, stands.trans h.tilt, ?_⟩
    obtain ⟨phase, -⟩ | ⟨-, elsewhere⟩ := h.waits
    · exact .inl ⟨phase, by rw [engaged]; exact nofun⟩
    · obtain e | e | e | e := elsewhere <;> obtain e' | e' := state <;> cases e.symm.trans e'

/-- The drive commanded at a sample stands, with a tilt routine that waits for the latch. -/
theorem State.driven_waits {r : Routine} {d : Int} {v : State} (tilt : r.axis = .tilt) (slot : v.slot = .routine r)
    (waits : r.WaitsAt v.latch.state) (mode : v.tilt.mode = .routine) (instant : v.params.noInstantTrip) :
    (v.setDrive .tilt d).settle.tilt.drive = d ∧ (v.setDrive .tilt d).settle.slot = .routine r := by
  have settled := (State.waitsOn_stable tilt (a := { v.tilt with drive := d }) mode).settleN_of_unready 8 (s := v.setDrive .tilt d)
    instant (fun _ h => h.unready) nofun ⟨slot, rfl, waits⟩
  exact ⟨congrArg AxisCtl.drive settled.tilt, settled.slot⟩

/-! ## Sweeps (R99) -/

theorem Routine.sweepSample_far {r : Routine} {m : Int} (far : 10 ≤ |m - r.reference|) (now : Nat) :
    r.sweepSample m now = { r with reference := m, stopSince := now } := if_pos (by rwa [mag_eq_abs])

theorem Routine.sweepSample_near {r : Routine} {m : Int} (near : |m - r.reference| < 10) (now : Nat) : r.sweepSample m now = r :=
  if_neg (by rw [mag_eq_abs]; omega)

theorem Routine.sweepSample_phase (r : Routine) (m : Int) (now : Nat) : (r.sweepSample m now).phase = r.phase := by
  unfold Routine.sweepSample
  split <;> rfl

theorem State.phaseSample_sweep {r : Routine} (phase : r.phase = .sweepLeft ∨ r.phase = .sweepRight) (v : State) : v.phaseSample r =
    (v.setSlot (.routine (r.sweepSample (v.axis r.axis).meas v.now))).setDrive r.axis
      ((if r.phase = .sweepRight then -1 else 1) * clampSym v.params.driveMax 300) := by
  unfold State.phaseSample
  obtain e | e := phase <;> rw [e]
  · rw [if_neg nofun, one_mul]
    rfl
  · rw [if_pos rfl, neg_one_mul]
    rfl

theorem State.sweep_sampled {r : Routine} {v : State} (phase : r.phase = .sweepLeft ∨ r.phase = .sweepRight)
    (mode : (v.axis r.axis).mode = .routine) (instant : v.params.noInstantTrip) :
    ((v.phaseSample r).settle.axis r.axis).drive = (if r.phase = .sweepRight then -1 else 1) * clampSym v.params.driveMax 300 ∧
      (v.phaseSample r).settle.slot = .routine (r.sweepSample (v.axis r.axis).meas v.now) := by
  have awaits : (r.sweepSample (v.axis r.axis).meas v.now).phase.awaits = none := by
    rw [Routine.sweepSample_phase]
    obtain e | e := phase <;> rw [e] <;> rfl
  rw [State.phaseSample_sweep phase]
  obtain ⟨slot, axis⟩ := State.driven_phase (r := r) (d := (if r.phase = .sweepRight then -1 else 1) * clampSym v.params.driveMax 300)
    awaits (r.sweepSample_axis _ _) instant mode
  exact ⟨congrArg AxisCtl.drive axis, slot⟩

/-! ## Ramps (R101) -/

theorem State.phaseSample_ramp {r : Routine} (phase : r.phase = .rampLeft ∨ r.phase = .rampRight) (v : State) :
    v.phaseSample r = v.rampSample r (if r.phase = .rampRight then -1 else 1) := by
  unfold State.phaseSample
  obtain e | e := phase <;> rw [e] <;> rfl

theorem State.rampSample_running {r : Routine} (since : r.rampSince ≠ none) (sign : Int) (v : State) :
    v.rampSample r sign = v.setDrive r.axis (sign * r.rampDrive) := by
  obtain ⟨e, since⟩ := Option.ne_none_iff_exists'.mp since
  rw [State.rampSample, since]

theorem State.rampSample_holding {r : Routine} (since : r.rampSince = none) (sign : Int) (v : State) : v.rampSample r sign =
    if |r.target - (v.axis r.axis).meas| ≤ 20 then
      (v.setSlot (.routine { r with rampSince := some v.now, rampDrive := 0, reference := (v.axis r.axis).meas })).setDrive r.axis 0
    else v.setDrive r.axis (v.params.loop r.axis (r.target - (v.axis r.axis).meas)) := by
  rw [State.rampSample, since, ← mag_eq_abs]
  rfl

/-! ## CENTRE (R100) -/

theorem State.phaseSample_centre {r : Routine} (phase : r.phase = .centre) (v : State) : v.phaseSample r =
    if |r.target - (v.axis r.axis).meas| ≤ 20 then
      (v.setDrive r.axis (v.params.loop r.axis (r.target - (v.axis r.axis).meas))).completePhase r
    else v.setDrive r.axis (v.params.loop r.axis (r.target - (v.axis r.axis).meas)) := by
  rw [State.phaseSample, phase, ← mag_eq_abs]
  rfl

end Sys2Proof.Machine
end

section
/-! PROOFS. AXIS_SAMPLE: a routine's CENTRE that is reached, a push that slips, and the statement (R88 to R92, R98 to R104). -/

namespace Sys2Proof.Machine

/-! ## CENTRE is reached (R100) -/

theorem Routine.writes_home_steer {r : Routine} {mid : Int} (kind : r.kind = .home) (axis : r.axis = .steer) (v3 : r.v3 = some mid)
    (p : Params) : r.writes p = { p with steerCentre := max (-1000) (min 1000 (p.steerCentre + mid)) } := by
  rw [Routine.writes, kind, axis, v3]
  dsimp only [Option.getD]
  rw [clampSym_thousand]

/-- HOME of the steer axis ends at its centre. -/
theorem State.centre_ends {r : Routine} {v : State} (phase : r.phase = .centre) (near : |r.target - (v.axis r.axis).meas| ≤ 20)
    (kind : r.kind = .home) (steer : r.axis = .steer) (instant : v.params.noInstantTrip) :
    RoutineEnded r r.finalOutcome v (v.phaseSample r).settle ∧
      (v.phaseSample r).settle.params = (if r.finalOutcome = .pass then r.writes v.params else v.params) := by
  have params (d : Int) : (v.setDrive r.axis d).params = v.params := State.setDrive_params ..
  rw [State.phaseSample_centre phase, if_pos near, State.completePhase_of_last (by rw [phase, kind, steer]; rfl)]
  obtain ⟨ended, written, -⟩ := State.finishRoutine_ended r r.finalOutcome
    (s := v.setDrive r.axis (v.params.loop r.axis (r.target - (v.axis r.axis).meas))) (by rw [params]; exact instant)
  rw [params] at written
  exact ⟨ended.behind (State.setDrive_returnMode ..) (State.setAxis_log ..), written⟩

/-- HOME of the tilt axis goes on with its engagement. -/
theorem State.centre_engages {r : Routine} {v : State} (phase : r.phase = .centre)
    (near : |r.target - (v.axis r.axis).meas| ≤ 20) (tilt : r.axis = .tilt) (released : v.latch.state = .released)
    (set : v.latch.set = none) (first : v.latch.first = none) (opened : v.latch.closed = false)
    (instant : v.params.noInstantTrip) : (v.phaseSample r).settle.latch.state = .engaging ∧
      (v.phaseSample r).settle.params = v.params ∧
      ∃ q now m, (v.phaseSample r).settle.slot = .routine q ∧ r.Begun .engage now m q ∧ q.target = r.target := by
  rw [State.phaseSample_centre phase, if_pos near,
    State.completePhase_of_next (ph := Direction.phase .engage) (by rw [phase, tilt]; rfl), State.beginPhase_awaiting]
  have params (d : Int) : (v.setDrive r.axis d).params = v.params := State.setDrive_params ..
  have latch (d : Int) : (v.setDrive r.axis d).latch = v.latch := State.setDrive_latch ..
  generalize v.params.loop r.axis (r.target - (v.axis r.axis).meas) = d
  have params := params d
  have latch := latch d
  generalize v.setDrive r.axis d = u at *
  have asked : (u.setSlot (.routine (r.awaiting .engage u.now (u.axis r.axis).meas))).askSet .engage =
      (u.setSlot (.routine (r.awaiting .engage u.now (u.axis r.axis).meas))).beginEngage .routine :=
    State.askSet_engage (by show u.latch.state ≠ _; rw [latch, released]; exact nofun) (by exact latch ▸ set) (by exact latch ▸ first)
  rw [asked]
  have going := (State.beginEngage_state .routine (u.setSlot (.routine (r.awaiting .engage u.now (u.axis r.axis).meas)))).resolve_right
    fun ⟨_, closed⟩ => nomatch opened.symm.trans ((congrArg LatchUnit.closed latch).symm.trans closed)
  have move := State.beginEngage_latchMove .routine (u.setSlot (.routine (r.awaiting .engage u.now (u.axis r.axis).meas)))
  have unmoved := State.settle_unmoved_under_way (by rw [move.params]; exact params ▸ instant) (.inr going)
  obtain ⟨-, -, params', slot', -⟩ := unmoved.standing
  exact ⟨unmoved.latch_state.trans going, params'.trans (move.params.trans params), _, _, _, slot'.trans move.slot,
    r.awaiting_begun .engage _ _, r.awaiting_target ..⟩

/-! ## Pushes (R102, R103) -/

/-- The routine at a sample of its push. -/
def Routine.pushed (r : Routine) (m : Int) : Routine := { r with maxDisp := max r.maxDisp |m - r.reference| }

theorem State.phaseSample_push {r : Routine} (phase : r.phase = .pushLeft ∨ r.phase = .pushRight) (v : State) : v.phaseSample r =
    if 30 ≤ (r.pushed (v.axis r.axis).meas).maxDisp then
      (v.setSlot (.routine (r.pushed (v.axis r.axis).meas))).finishRoutine (r.pushed (v.axis r.axis).meas).withPush .failSlip true
    else (v.setSlot (.routine (r.pushed (v.axis r.axis).meas))).setDrive r.axis
      ((if r.phase = .pushRight then -1 else 1) * clampSym v.params.driveMax 300) := by
  have sample : v.phaseSample r = v.pushSample r (if r.phase = .pushRight then -1 else 1) := by
    unfold State.phaseSample
    obtain e | e := phase <;> rw [e] <;> rfl
  rw [sample, State.pushSample, Routine.pushed, ← mag_eq_abs]
  rfl

/-- The findings of a LOCK_TEST whose push has gone as far as `n` (R102). -/
theorem Routine.withPush_eq {q : Routine} (runs : q.held = none) (phase : q.phase = .pushLeft ∨ q.phase = .pushRight) : q.withPush =
    { q with v1 := if q.phase = .pushLeft then some q.maxDisp else q.v1, v2 := if q.phase = .pushRight then some q.maxDisp else q.v2 } := by
  obtain e | e := phase
  · rw [Routine.withPush_left runs e, e]
    rfl
  · rw [Routine.withPush_right runs e, e]
    rfl

theorem State.closeRoutine_latch (r : Routine) (o : RoutineOutcome) (s : State) : (s.closeRoutine r o).latch = s.latch :=
  (State.leaveSession_latch r.axis _).trans (State.setResult_latch r.axis _ s)

/-- FAIL_SLIP found by the displacement test: the latch is told before the routine ends (R102, R103). -/
theorem State.slipped_routine (q : Routine) {w : State} (instant : w.params.noInstantTrip) :
    RoutineClosed q .failSlip w (w.finishRoutine q .failSlip true).settle ∧
      LoggedFirst w [.lockState .unlatchedFault, .lockFault .slip, .routineEnd q.axis q.kind .failSlip]
        (w.finishRoutine q .failSlip true).settle ∧
      (w.fast = false → (w.finishRoutine q .failSlip true).settle.latch.state = .unlatchedFault) := by
  rw [State.finishRoutine_told_eq, if_neg nofun]
  have driven := State.setDrive_consequence q.axis 0 w
  have returns : ((w.setDrive q.axis 0).axis q.axis).returnMode = (w.axis q.axis).returnMode := State.setDrive_returnMode ..
  have drive : (w.setDrive q.axis 0).log = w.log := State.setAxis_log ..
  have instant' := SameSettings.noInstantTrip driven.settings instant
  generalize w.setDrive q.axis 0 = u at *
  have move := State.setLatch_latchMove .unlatchedFault u
  have told := move.trans (State.logEvent_latchMove (.lockFault .slip) _)
  have log := move.logEvent_log (State.setLatch_log ..) (.lockFault .slip)
  have state : ((u.setLatch .unlatchedFault).logEvent (.lockFault .slip)).latch.state = .unlatchedFault :=
    State.setLatch_state .unlatchedFault u
  generalize (u.setLatch .unlatchedFault).logEvent (.lockFault .slip) = f at *
  have seated : (f.axis q.axis).returnMode = (u.axis q.axis).returnMode := by
    cases q.axis
    · exact (congrArg AxisCtl.returnMode told.tilt :)
    · exact congrArg AxisCtl.returnMode told.steer
  have closed : RoutineClosed q .failSlip w (f.closeRoutine q .failSlip) := .of_closeRoutine (seated.trans returns)
  have instant'' : (f.closeRoutine q .failSlip).params.noInstantTrip := by
    rw [State.closeRoutine_params, told.params]
    exact instant'
  have settled := State.settle_consequence (f.closeRoutine q .failSlip)
  have now : (f.closeRoutine q .failSlip).now = f.now := by
    unfold State.closeRoutine
    cases q.axis <;> rfl
  have logged : LoggedFirst f [.routineEnd q.axis q.kind .failSlip] (f.closeRoutine q .failSlip).settle := by
    refine .of_logEvents (settled.now.trans now) ?_
    rw [show (f.logEvents [.routineEnd q.axis q.kind .failSlip]).log = (f.closeRoutine q .failSlip).log from
      (State.closeRoutine_log ..).symm]
    exact settled.grows.1
  refine ⟨closed.settleN 8 instant'', ?_, fun slow => ?_⟩
  · have behind := logged.behind (s := u) (es := [.lockState .unlatchedFault, .lockFault .slip]) log
      (settled.now.trans (now.trans told.now))
    rw [LoggedFirst, drive] at behind
    exact behind
  · have latch := f.closeRoutine_latch q .failSlip
    have fast : (f.closeRoutine q .failSlip).fast = false := by
      have speed : (f.closeRoutine q .failSlip).speed = f.speed := by
        unfold State.closeRoutine
        cases q.axis <;> rfl
      have same : (f.closeRoutine q .failSlip).fast = f.fast := by
        rw [State.fast, speed, State.closeRoutine_params, State.fast]
      exact same.trans (told.consequence.fast.trans (driven.fast.trans slow))
    have idles : (f.closeRoutine q .failSlip).Idles False := .unlatchedFault (by rw [latch]; exact state) (.slow fast)
    exact (idles.settleN 8 instant'' (notWaiting_of_free closed.slot) nofun).latch_state.trans (by rw [latch]; exact state)

end Sys2Proof.Machine
end

section
/-! PROOFS. AXIS_SAMPLE: the statement (R88 to R92, R98 to R104, R110, R119). -/

namespace Sys2Proof.Machine

/-- A sampled tilt axis in TRACK, in a latch state that lets its drive stand. -/
theorem State.Sensed.driveStands {dt : Nat} {m c : Int} {b : AxisCtl} {s w : State} (h : s.Sensed dt .tilt m b w)
    (mode : b.mode = .track) (track : s.tilt.mode = .track) (meas : b.meas = c)
    (free : s.latch.state = .releasing ∨ s.latch.state = .engaging ∨ (s.latch.state = .unlatchedFault ∧ s.params.Valid) ∨
      (s.latch.state = .released ∧ (s.latch.closed = false ∨ (s.params.Valid ∧
        ((s.slow = false ∧ s.grade ≠ .lockdown) ∨ s.params.uprightWindow < |c| ∨ s.params.uprightWindow < |s.solve.phiS|)))) ∨
      (s.latch.state = .releasePreload ∧ s.preloadOff = false ∧ ∀ i, (s.params.combiner i).action ≠ .lockHold)) :
    w.DriveStands := by
  obtain ⟨slow, grade, -, -, demand, -⟩ := h.weighs
  have axis : w.tilt = b := h.axis
  have params := h.params
  obtain state | state | ⟨state, valid⟩ | ⟨state, opened | ⟨-, apart⟩⟩ | ⟨state, stands, free⟩ := free <;> rw [← h.latch] at state
  · exact .going (.inl state)
  · exact .going (.inr state)
  · exact .fault state (params ▸ valid)
  · exact .opened state (h.latch ▸ opened)
  · refine .apart state (State.mayEngage_of_apart ?_)
    rwa [slow, grade, axis, meas, params, h.solve, mag_eq_abs, mag_eq_abs]
  · refine .preload state ?_ (params ▸ free)
    have off : w.preloadOff = s.preloadOff := by rw [State.preloadOff, slow, demand, grade, axis, mode, State.preloadOff, track]
    exact off.trans stands

/-- In these latch states the tilt drive is on (R91). -/
theorem driveOn_states {l : LatchState} {P Q S : Prop} (free : l = .releasing ∨ l = .engaging ∨ (l = .unlatchedFault ∧ P) ∨
    (l = .released ∧ Q) ∨ (l = .releasePreload ∧ S)) : l ≠ .engaged ∧ l ≠ .jammed := by
  obtain e | e | ⟨e, -⟩ | ⟨e, -⟩ | ⟨e, -⟩ := free <;> rw [e] <;> exact ⟨nofun, nofun⟩

theorem State.fast_congr {s v : State} (speed : v.speed = s.speed) (params : v.params = s.params) : v.fast = s.fast := by
  rw [State.fast, speed, params, State.fast]

/-- Settles O37. -/
theorem axisSampleDrivesTheAxis : Obligations.AxisSampleDrivesTheAxis := by
  refine ⟨fun dt x m s instant phases => ⟨State.invalidSample_spec instant phases, fun low high => ?_⟩,
    fun dt r m mid s slot mode instant low high => ?_⟩
  · have ran := exec_axisSample_valid (dt := dt) (x := x) low high s
    have sensed := s.sensed dt x m ((s.axis x).measured m (s.params.centre x))
    rw [State.sampled_valid] at ran
    generalize (s.sampled dt x m).setAxis x ((s.axis x).measured m (s.params.centre x)) = v at *
    have sampled := State.modeSample_sound x v
    have consequence := sampled.consequence.trans (State.settle_consequence _)
    have quiet := (State.modeSample_hushed x v).trans (State.settleN_hushed 8 _) (sensed.instant instant)
    obtain ⟨now, meas, valid, pins, portA, portB, store, -, targets, -, switches, settings⟩ := sensed.lasts consequence
    refine ⟨_, ran, meas, valid, pins, fun off => sensed.undriven instant phases (.inl off), fun track tilt shut => ?_,
      fun track free => ?_, fun track tilt released closed pulse set first run apart vals cause upright lean => ?_,
      fun d service slot => sensed.serves service slot instant phases, now, portA, portB, store, quiet.auth.trans sensed.auth,
      quiet.path.trans sensed.path, quiet.speed.trans sensed.speed, targets, switches, settings⟩
    · refine sensed.undriven instant phases (.inr ⟨track, ?_⟩)
      rw [tilt, State.driveOn, LatchUnit.tiltDriveOn, sensed.latch]
      obtain e | e := shut <;> simp [e]
    · have looped := sensed.tracks track instant phases (fun tilt => driveOn_states (free.resolve_left (by rw [tilt]; exact nofun)))
        fun w b looped mode' meas' tilt => by
          subst tilt
          exact looped.driveStands (mode'.trans track) track meas' (free.resolve_left nofun)
      rw [looped]
      exact ⟨AxisCtl.looped_drive .., fun above => AxisCtl.looped_above above _, fun below => AxisCtl.looped_below below _⟩
    · subst tilt
      have own : s.ownRules = true := by simp [State.ownRules, run, first, set, apart]
      have shut := sensed.shuts track instant phases released closed pulse first own vals cause (by rw [mag_eq_abs]; exact upright)
        (by rw [mag_eq_abs]; exact lean)
      exact ⟨shut.state, shut.drive⟩
  · have ran := exec_axisSample_valid (dt := dt) (x := r.axis) low high s
    have sensed := s.sensed dt r.axis (m + s.params.centre r.axis)
      ((s.axis r.axis).measured (m + s.params.centre r.axis) (s.params.centre r.axis))
    rw [State.sampled_valid] at ran
    generalize (s.sampled dt r.axis _).setAxis r.axis _ = v at *
    have instant' := sensed.instant instant
    have slot' : v.slot = .routine r := sensed.slot.trans slot
    have mode' : (v.axis r.axis).mode = .routine := (congrArg AxisCtl.mode sensed.axis).trans mode
    have meas : (v.axis r.axis).meas = m :=
      (congrArg AxisCtl.meas sensed.axis).trans (Int.add_sub_cancel m (s.params.centre r.axis))
    have returns : (v.axis r.axis).returnMode = (s.axis r.axis).returnMode := (congrArg AxisCtl.returnMode sensed.axis).trans rfl
    have stays := ((State.modeSample_sound r.axis v).consequence.trans (State.settle_consequence _)).axis_meas r.axis
    have params := sensed.params
    have latch := sensed.latch
    have now := sensed.now
    rw [State.modeSample_routine slot' mode'] at ran stays
    refine ⟨_, ran, stays.trans meas, fun q held => ?_, fun runs => ?_⟩
    · have phases : v.NotWaiting := fun q' e => .inl (by
        cases slot'.symm.trans e
        rw [held]
        exact nofun)
      rw [State.routineSample_held held, State.holdAt_eq, meas, params, slot]
      exact State.driven_rests slot' phases mode' instant'
    · rw [State.routineSample_runs runs] at stays ⊢
      have phases (other : r.phase.awaits = none) : v.NotWaiting := notWaiting_of_phase slot' other
      refine ⟨fun tilt waits => ?waits, fun phase since => ?ramps, fun phase => ?sweeps, fun phase far => ?far,
        fun phase near kind steer mid => ?ends, fun phase near kind tilt released set first opened => ?engages,
        fun phase since => ?holds, fun phase => ?pushes⟩
      case waits =>
        have holds : v.phaseSample r = v.holdAt r.axis r.target := by
          unfold State.phaseSample
          obtain ⟨phase, -⟩ | ⟨phase, -⟩ := waits <;> rw [phase]
        rw [holds, State.holdAt_eq, meas, params, slot, tilt]
        rw [tilt] at mode'
        exact State.driven_waits tilt slot' (latch ▸ waits) mode' instant'
      case ramps =>
        have awaits : r.phase.awaits = none := by obtain e | e := phase <;> rw [e] <;> rfl
        rw [State.phaseSample_ramp phase, State.rampSample_running since, slot]
        exact State.driven_rests slot' (phases awaits) mode' instant'
      case sweeps =>
        obtain ⟨drive, swept⟩ := State.sweep_sampled phase mode' instant'
        rw [meas, now] at swept
        rw [params] at drive
        exact ⟨drive, fun far => swept.trans (by rw [Routine.sweepSample_far far]),
          fun near => swept.trans (by rw [Routine.sweepSample_near near, slot])⟩
      case far =>
        rw [State.phaseSample_centre phase, meas, if_neg (not_le.mpr far), params, slot]
        exact State.driven_rests slot' (phases (by rw [phase]; rfl)) mode' instant'
      case ends =>
        obtain ⟨ended, written⟩ := State.centre_ends phase (by rwa [meas]) kind steer instant'
        rw [params] at written
        have ended := ended.behind returns sensed.log
        refine ⟨fun pass => ?_, fun fail => ?_⟩
        · have final : r.finalOutcome = .pass := by rw [Routine.finalOutcome, pass]; rfl
          rw [final] at ended written
          exact ⟨ended, written.trans (Routine.writes_home_steer kind steer mid _)⟩
        · have final : r.finalOutcome = .failSpan := by rw [Routine.finalOutcome, fail]; rfl
          rw [final] at ended written
          exact ⟨ended, written⟩
      case engages =>
        obtain ⟨state, written, q, now', m', slot'', begun, target⟩ := State.centre_engages phase (by rwa [meas]) tilt
          (latch ▸ released) (latch ▸ set) (latch ▸ first) (latch ▸ opened) instant'
        exact ⟨state, written.trans params, q, slot'', begun.axis.trans tilt, begun.kind.trans kind, begun.phase, begun.held, target,
          begun.v1, begun.v2, begun.v3, begun.outcome⟩
      case holds =>
        have awaits : r.phase.awaits = none := by obtain e | e := phase <;> rw [e] <;> rfl
        rw [State.phaseSample_ramp phase, State.rampSample_holding since, meas]
        refine ⟨fun far => ?_, fun near => ?_⟩
        · rw [if_neg (not_le.mpr far), params, slot]
          exact State.driven_rests slot' (phases awaits) mode' instant'
        · rw [if_pos near, now]
          obtain ⟨slot'', axis⟩ := State.driven_phase (r := r) (d := 0)
            (q := { r with rampSince := some (s.now + dt), rampDrive := 0, reference := m }) awaits rfl instant' mode'
          exact ⟨congrArg AxisCtl.drive axis, slot''⟩
      case pushes =>
        have awaits : r.phase.awaits = none := by obtain e | e := phase <;> rw [e] <;> rfl
        rw [State.phaseSample_push phase, meas] at stays ⊢
        refine ⟨fun near => ?_, fun far => ?_⟩
        · rw [if_neg (by exact not_le.mpr near), params]
          obtain ⟨slot'', axis⟩ := State.driven_phase (r := r) (q := r.pushed m)
            (d := (if r.phase = .pushRight then -1 else 1) * clampSym s.params.driveMax 300) awaits rfl instant' mode'
          exact ⟨congrArg AxisCtl.drive axis, slot''⟩
        · rw [if_pos (by exact far), Routine.withPush_eq (q := r.pushed m) runs phase] at stays ⊢
          obtain ⟨closed, logged, fault⟩ := State.slipped_routine { r.pushed m with
            v1 := if r.phase = .pushLeft then some (r.pushed m).maxDisp else r.v1,
            v2 := if r.phase = .pushRight then some (r.pushed m).maxDisp else r.v2 }
            (w := v.setSlot (.routine (r.pushed m))) instant'
          rw [LoggedFirst, show (v.setSlot (.routine (r.pushed m))).log = s.log from sensed.log] at logged
          exact ⟨closed.slot, closed.drive, closed.setpoint.trans stays, closed.mode.trans (congrArg returnedMode returns),
            closed.result, logged, fun slow => fault ((State.fast_congr sensed.speed params).trans slow)⟩

end Sys2Proof.Machine
end

section
/-! PROOFS. CONFIRM_WINDOW_CLOSE: a window that closes without success (R98, R114, R120, R124). -/

namespace Sys2Proof.Machine

/-! ## The third failure (R114) -/

/-- The latch in the fault state of a set that has failed, its LOCK_FAULT logged. -/
def State.faulted (x : AttemptSet) (s : State) : State :=
  ((s.setLatchUnit { s.latch with
    set := none, pulse := s.latch.pulse.map (fun p => { p with lastOfFailed := true }) }).setLatch x.direction.fault.1).logEvent
      (.lockFault x.direction.fault.2)

theorem State.failSet_eq (x : AttemptSet) (s : State) :
    s.failSet x = ((s.faulted x).permitSetFailed x).routineSetFailed x.direction := rfl

theorem State.faulted_latchMove (x : AttemptSet) (s : State) : LatchMove s (s.faulted x) :=
  .trans (.trans (t := s.setLatchUnit { s.latch with
    set := none, pulse := s.latch.pulse.map (fun p => { p with lastOfFailed := true }) }) .of (State.setLatch_latchMove _ _))
    (State.logEvent_latchMove _ _)

theorem State.faulted_latch (x : AttemptSet) (s : State) : (s.faulted x).latch = { s.latch with
    set := none, pulse := s.latch.pulse.map (fun p => { p with lastOfFailed := true }), state := x.direction.fault.1,
    uncommanded := false } := State.setLatch_latch _ _

theorem State.faulted_log (x : AttemptSet) (s : State) :
    (s.faulted x).log = (s.logEvents [.lockState x.direction.fault.1, .lockFault x.direction.fault.2]).log := by
  have move : LatchMove s (s.setLatchUnit { s.latch with
    set := none, pulse := s.latch.pulse.map (fun p => { p with lastOfFailed := true }) }) := .of
  exact (move.trans (State.setLatch_latchMove _ _)).logEvent_log (State.setLatch_log ..) _

/-- The latch record but for the demand items and the PERMIT a set was begun under. -/
def LatchUnit.apartItems (l : LatchUnit) : LatchUnit := { l with itemA := .none, itemB := .none, permitOf := none }

theorem State.endPermit_apartItems (p : Port) (s : State) : (s.endPermit p).latch.apartItems = s.latch.apartItems := by
  unfold State.endPermit
  split
  · cases p <;> rfl
  · rfl

theorem State.permitSetFailed_apartItems (x : AttemptSet) (s : State) :
    (s.permitSetFailed x).latch.apartItems = s.latch.apartItems := by
  unfold State.permitSetFailed
  split
  · split
    · exact State.endPermit_apartItems _ s
    · rfl
  · rfl

theorem State.routineSetFailed_latch (d : Direction) (s : State) : (s.routineSetFailed d).latch = s.latch := by
  unfold State.routineSetFailed
  split
  · split
    · exact State.finishRoutine_latch ..
    · rfl
  all_goals rfl

/-- The latch after a set's third failure, but for the items. -/
theorem State.failSet_apartItems (x : AttemptSet) (s : State) :
    (s.failSet x).latch.apartItems = (s.faulted x).latch.apartItems := by
  rw [State.failSet_eq, State.routineSetFailed_latch, State.permitSetFailed_apartItems]

theorem State.failSet_latch (x : AttemptSet) (s : State) : (s.failSet x).latch.state = x.direction.fault.1 ∧
    (s.failSet x).latch.set = none ∧ (s.failSet x).latch.closed = s.latch.closed ∧ (s.failSet x).latch.first = s.latch.first ∧
    (s.failSet x).latch.pulsing .release = s.latch.pulsing .release := by
  have apart := State.failSet_apartItems x s
  rw [State.faulted_latch] at apart
  refine ⟨(congrArg LatchUnit.state apart :), (congrArg LatchUnit.set apart :), (congrArg LatchUnit.closed apart :),
    (congrArg LatchUnit.first apart :), ?_⟩
  have pulse : (s.failSet x).latch.pulse = s.latch.pulse.map (fun p => { p with lastOfFailed := true }) :=
    (congrArg LatchUnit.pulse apart :)
  rw [LatchUnit.pulsing, pulse, LatchUnit.pulsing]
  cases s.latch.pulse <;> rfl

theorem State.failSet_permitsEnd (x : AttemptSet) (s : State) : PermitsEnd s (s.failSet x) := by
  have permit : PermitsEnd (s.faulted x) ((s.faulted x).permitSetFailed x) := by
    unfold State.permitSetFailed
    split
    · exact .ite _ (State.endPermit_permitsEnd _ _) (.refl _)
    · exact .refl _
  rw [State.failSet_eq]
  exact ((State.faulted_latchMove x s).permitsEnd.trans permit).trans (.of (State.routineSetFailed_latch _ _))

theorem State.routineSetFailed_notWaiting {s : State} (phases : s.NotWaiting) (d : Direction) : (s.routineSetFailed d).NotWaiting := by
  unfold State.routineSetFailed
  split
  · split
    · exact notWaiting_of_free rfl
    · exact phases
  all_goals exact phases

theorem State.permitSetFailed_slot (x : AttemptSet) (s : State) : (s.permitSetFailed x).slot = s.slot := by
  unfold State.permitSetFailed
  split
  · split
    · exact State.endPermit_slot _ s
    · rfl
  · rfl

theorem State.failSet_notWaiting {s : State} (phases : s.NotWaiting) (x : AttemptSet) : (s.failSet x).NotWaiting :=
  State.routineSetFailed_notWaiting
    (phases.of_slot ((State.permitSetFailed_slot x _).trans (State.faulted_latchMove x s).slot)) x.direction

/-- The fault is the first that is logged. -/
theorem State.failSet_logged (x : AttemptSet) (s : State) :
    LoggedFirst s [.lockState x.direction.fault.1, .lockFault x.direction.fault.2] (s.failSet x).settle := by
  have rest := ((State.permitSetFailed_consequence x (s.faulted x)).trans (State.routineSetFailed_consequence x.direction _)).trans
    (State.settle_consequence _)
  refine .of_logEvents (rest.now.trans (State.faulted_latchMove x s).now) ?_
  rw [← State.faulted_log]
  exact rest.grows.1

theorem Consequence.slow {s t : State} (c : Consequence s t) : t.slow = s.slow := by
  have vEng : t.params.vEng = s.params.vEng := (congrArg Params.vEng c.settings :)
  rw [State.slow, vEng, State.slow]
  obtain same | same := c.speed <;> rw [same]

/-- The PERMIT under which a release set was begun ends with it (R124). -/
theorem State.failSet_permit {x : AttemptSet} {p : Port} {s : State} (release : x.direction = .release) (origin : x.origin = .permit)
    (under : s.latch.permitOf = some p) : (s.failSet x).settle.latch.item p ≠ .permit := by
  refine (State.settle_permitsEnd _).absent ?_
  have under' : (s.faulted x).latch.permitOf = some p := by
    rw [State.faulted_latch]
    exact under
  rw [State.failSet_eq, State.routineSetFailed_latch, State.permitSetFailed, under']
  dsimp only
  rw [if_pos (by simp [release, origin]), State.endPermit_item]
  split
  · exact nofun
  · assumption

/-- A set of another origin leaves the items alone. -/
theorem State.failSet_items {x : AttemptSet} {s : State} (origin : x.origin ≠ .permit) (idle : s.noRoutine)
    (instant : s.params.noInstantTrip) (p : Port) : (s.failSet x).settle.latch.item p = s.latch.item p := by
  have move := State.faulted_latchMove x s
  have permit : (s.faulted x).permitSetFailed x = s.faulted x := by
    unfold State.permitSetFailed
    split
    · exact if_neg (by simp [origin])
    · rfl
  have failed : s.failSet x = s.faulted x := by
    rw [State.failSet_eq, permit, State.routineSetFailed, move.slot]
    split
    next r slot => exact nomatch (show s.slot.routine? = some r by rw [slot]; rfl).symm.trans idle
    all_goals rfl
  rw [failed, (State.settle_quiet _ (move.params ▸ instant)).demand]
  cases p
  · exact move.itemA
  · exact move.itemB

theorem Phase.of_awaits {ph : Phase} {d : Direction} (awaits : ph.awaits = some d.reached) : ph = d.phase := by
  cases d <;> cases ph <;> simp [Phase.awaits, Direction.reached] at awaits <;> rfl

/-- The routine that waited for the set ends with it (R98, R103). -/
theorem State.failSet_routine {x : AttemptSet} {r : Routine} {s : State} (slot : s.slot = .routine r)
    (awaits : r.phase.awaits = some x.direction.reached) (instant : s.params.noInstantTrip) :
    RoutineClosed r .failTimeout ((s.faulted x).permitSetFailed x) (s.failSet x).settle := by
  have slot' : ((s.faulted x).permitSetFailed x).slot = .routine r :=
    (State.permitSetFailed_slot x _).trans ((State.faulted_latchMove x s).slot.trans slot)
  have ends : s.failSet x = ((s.faulted x).permitSetFailed x).finishRoutine r .failTimeout false := by
    rw [State.failSet_eq, State.routineSetFailed, slot']
    refine if_pos ?_
    rw [Phase.of_awaits awaits]
    cases x.direction <;> rfl
  have settings := (State.failSet_consequence x s).settings
  rw [ends] at settings ⊢
  exact (State.finishRoutine_closed ..).settleN 8 (SameSettings.noInstantTrip settings instant)

end Sys2Proof.Machine
end

section
/-! PROOFS. CONFIRM_WINDOW_CLOSE and ATTEMPT_PAUSE_END (R114, R117, R120). -/

namespace Sys2Proof.Machine

/-! ## What comes due -/

theorem exec_confirmWindowClose {dt e : Nat} {x : AttemptSet} {s : State} (set : s.latch.set = some x) (due : e ≤ s.now + dt)
    (stage : x.stage = .window e) : exec (.confirmWindowClose dt) s = .next ((s.advance dt).windowFailed x).settle := by
  have window : (s.advance dt).windowDue = some x := by
    show s.latch.set.filter _ = some x
    rw [set, Option.filter_some, stage]
    exact if_pos (decide_eq_true due)
  show execConfirmWindowClose dt s = _
  unfold execConfirmWindowClose
  dsimp only
  rw [window]

theorem exec_attemptPauseEnd {dt e : Nat} {x : AttemptSet} {s : State} (set : s.latch.set = some x) (due : e ≤ s.now + dt)
    (stage : x.stage = .pause e) : exec (.attemptPauseEnd dt) s = .next ((s.advance dt).pauseOver x).settle := by
  have pause : (s.advance dt).pauseDue = some x := by
    show s.latch.set.filter _ = some x
    rw [set, Option.filter_some, stage]
    exact if_pos (decide_eq_true due)
  show execAttemptPauseEnd dt s = _
  unfold execAttemptPauseEnd
  dsimp only
  rw [pause]

/-! ## A window that has failed -/

/-- A first or second failure pauses the set, once its pulse is over. -/
theorem State.windowFailed_of_early {x : AttemptSet} (early : x.attempt < 3) (s : State) : s.windowFailed x =
    if s.latch.pulse.isSome then s.setSet (some { x with stage := .waitPulse })
    else s.setSet (some { x with stage := .pause (s.now + 50000) }) := if_neg (Nat.not_le.mpr early)

theorem State.windowFailed_settle {x : AttemptSet} {s : State} (early : x.attempt < 3)
    (going : s.latch.state = .releasing ∨ s.latch.state = .engaging) :
    (s.windowFailed x).settle.latch.state = s.latch.state ∧ (s.windowFailed x).settle.latch.pulse = s.latch.pulse ∧
      (s.latch.pulse = none → (s.windowFailed x).settle.latch.set = some { x with stage := .pause (s.now + 50000) }) ∧
      (s.latch.pulse ≠ none → (s.windowFailed x).settle.latch.set = some { x with stage := .waitPulse }) := by
  rw [State.windowFailed_of_early early]
  by_cases idle : s.latch.pulse = none
  · rw [if_neg (by simp [idle])]
    obtain ⟨state, set, pulse⟩ := (State.settleN_setRuns 8 (s.setSet (some { x with stage := .pause (s.now + 50000) }))).stands going
    exact ⟨state, pulse, fun _ => set, fun busy => absurd idle busy⟩
  · rw [if_pos (Option.isSome_iff_ne_none.mpr idle)]
    obtain ⟨state, set, pulse⟩ := (State.settleN_setRuns 8 (s.setSet (some { x with stage := .waitPulse }))).stands going
    exact ⟨state, pulse, fun none => absurd none idle, fun _ => set⟩

/-- A set that has failed leaves the latch idle in its fault state, where no way out is open (R120, R121). -/
theorem State.failSet_idles {x : AttemptSet} {s : State} (instant : s.params.noInstantTrip) (phases : s.NotWaiting)
    (rests : (x.direction = .release ∧ (s.slow = false ∨ s.latch.pulsing .release = true)) ∨
      (x.direction = .engage ∧ s.fast = false)) :
    (s.failSet x).settle.latch.state = x.direction.fault.1 ∧ (s.failSet x).settle.latch.set = none := by
  obtain ⟨state, set, -, -, pulsing⟩ := State.failSet_latch x s
  have consequence := State.failSet_consequence x s
  have idles : (s.failSet x).Idles False := by
    obtain ⟨release, holds⟩ | ⟨engage, slow⟩ := rests
    · refine .jammed (by rw [state, release]; rfl) (holds.imp (fun slow => consequence.slow.trans slow) fun pulse => .inr ?_)
      exact pulsing.trans pulse
    · exact .unlatchedFault (by rw [state, engage]; rfl) (.slow (consequence.fast.trans slow))
  have unmoved := idles.settleN 8 (SameSettings.noInstantTrip consequence.settings instant) (State.failSet_notWaiting phases x) nofun
  obtain ⟨state', set', -⟩ := unmoved.latch
  exact ⟨state'.trans state, set'.trans set⟩

/-- A jam whose way out is open already is ENGAGED again (R120). -/
theorem State.failSet_frees {x : AttemptSet} {s : State} (release : x.direction = .release) (instant : s.params.noInstantTrip)
    (phases : s.NotWaiting) (slow : s.slow = true) (closed : s.latch.closed = true) (idle : s.latch.pulsing .release = false)
    (first : s.latch.first = none) (fast : s.fast = false) (permit : s.permit = false) :
    (s.failSet x).settle.latch.state = .engaged ∧ (s.failSet x).settle.latch.set = none := by
  obtain ⟨state, set, closed', first', pulsing⟩ := State.failSet_latch x s
  have consequence := State.failSet_consequence x s
  have jam : (s.failSet x).latch.state = .jammed := by rw [state, release]; rfl
  have frees : (s.failSet x).Frees (s.failSet x).latch :=
    ⟨.inl jam, consequence.slow.trans slow, closed'.trans closed, pulsing.trans idle, first'.trans first, consequence.fast.trans fast,
      (State.failSet_permitsEnd x s).permit permit, rfl, rfl⟩
  obtain ⟨freed, engaged, -⟩ := State.settleN_frees 7 (SameSettings.noInstantTrip consequence.settings instant)
    (State.failSet_notWaiting phases x) frees jam
  exact ⟨engaged, freed.set.trans set⟩

/-! ## A pause that is over -/

theorem State.pauseOver_of_kept {x : AttemptSet} {s : State} (kept : s.abandons x = false) :
    s.pauseOver x = s.startAttempt { x with attempt := x.attempt + 1 } := if_neg (by simp [kept])

theorem State.pauseOver_of_abandoned {x : AttemptSet} {s : State} (abandoned : s.abandons x = true) :
    s.pauseOver x = (s.setSet none).setLatch .engaged := if_pos abandoned

/-- The next attempt starts (R114). -/
theorem State.pauseOver_settle {x : AttemptSet} {s : State} (kept : s.abandons x = false) (idle : s.latch.pulse = none)
    (apart : s.latch.closed ≠ x.direction.target) (going : s.latch.state = .releasing ∨ s.latch.state = .engaging) :
    (s.pauseOver x).settle.latch.set = some { x with
        attempt := x.attempt + 1, stage := .window (s.now + s.params.lockConfirmMs.toNat * 1000) } ∧
      (s.pauseOver x).settle.latch.pulse = some (Pulse.started s.params x.direction s.now) ∧
      (s.pauseOver x).settle.latch.state = s.latch.state := by
  rw [State.pauseOver_of_kept kept, State.startAttempt_of_apart idle (by exact apart)]
  obtain ⟨state, set, pulse⟩ := (State.settleN_setRuns 8
    (s.setLatchUnit (s.latch.opened s.params { x with attempt := x.attempt + 1 } s.now))).stands going
  exact ⟨set, pulse, state⟩

/-- An own release set is abandoned (R117). -/
theorem State.pauseOver_abandoned {x : AttemptSet} {s : State} (abandoned : s.abandons x = true) :
    LoggedFirst s [.lockState .engaged] (s.pauseOver x).settle := by
  have settled := State.settle_consequence ((s.setSet none).setLatch .engaged)
  have move : LatchMove s ((s.setSet none).setLatch .engaged) := (State.setSet_latchMove none s).trans (State.setLatch_latchMove ..)
  rw [State.pauseOver_of_abandoned abandoned]
  refine .of_logEvents (settled.now.trans move.now) ?_
  have log : ((s.setSet none).setLatch .engaged).log = (s.logEvents [.lockState .engaged]).log := State.setLatch_log ..
  rw [← log]
  exact settled.grows.1

/-- Where no condition of R116 is back, an abandoned set leaves the latch ENGAGED. -/
theorem State.pauseOver_engaged {x : AttemptSet} {s : State} (abandoned : s.abandons x = true) (instant : s.params.noInstantTrip)
    (phases : s.NotWaiting) (steadied : s.Steadied) (permit : s.permit = false)
    (lean : s.fast = false ∨ s.lockDemand = true ∨ s.grade = .lockdown ∨ s.tilt.mode ≠ .track) :
    (s.pauseOver x).settle.latch.state = .engaged ∧ (s.pauseOver x).settle.latch.set = none ∧
      (s.pauseOver x).settle.latch.pulse = s.latch.pulse := by
  rw [State.pauseOver_of_abandoned abandoned]
  have move : LatchMove s ((s.setSet none).setLatch .engaged) := (State.setSet_latchMove none s).trans (State.setLatch_latchMove ..)
  have inputs : ((s.setSet none).setLatch .engaged).inputs = s.inputs := (State.setLatch_turn .engaged (s.setSet none)).inputs
  have latch : ((s.setSet none).setLatch .engaged).latch =
    { s.latch with set := none, state := .engaged, uncommanded := false } := State.setLatch_latch ..
  generalize (s.setSet none).setLatch .engaged = w at *
  obtain ⟨fast', -, permit', grade'⟩ := move.weighs
  have idles : w.Idles True := by
    refine .engaged (by rw [latch]) (State.permitReleases_of_absent (permit'.trans permit)) ?_
    obtain slow | demand | grave | mode := lean
    · exact .slow (fast'.trans slow)
    · refine .demanded trivial ?_
      rw [State.lockDemand, State.combined_congr (s := s) move.params fun _ => by rw [inputs], latch]
      exact demand
    · exact .grave (grade'.trans grave)
    · exact .untracked (by rwa [move.tilt_mode])
  have unmoved := idles.settleN 8 (move.params ▸ instant) (phases.of_slot move.slot) fun _ => steadied.move move inputs
  obtain ⟨state, set, pulse⟩ := unmoved.latch
  exact ⟨state.trans (by rw [latch]), set.trans (by rw [latch]), pulse.trans (by rw [latch])⟩

end Sys2Proof.Machine
end

section
/-! PROOFS. The decision that the latch controller makes when the part settles (R116, R117, R119 to R121, R124). -/

namespace Sys2Proof.Machine

/-! ## Settling with one decision to make -/

/-- Nothing but the latch controller's own conditions can move the latch while the part settles: see `State.LatchAlone`. -/
structure State.Unhelped (s : State) : Prop where
  trips : s.params.noInstantTrip
  steadied : s.Steadied
  phases : s.NotWaiting

theorem State.Unhelped.turn {s t : State} (h : s.Unhelped) (move : LatchMove s t) (same : t.inputs = s.inputs) : t.Unhelped :=
  ⟨move.params ▸ h.trips, h.steadied.move move same, h.phases.of_slot move.slot⟩

theorem State.Unhelped.unmoved {s t : State} (h : s.Unhelped) (u : Unmoved True s t) (steadied : t.Steadied) : t.Unhelped := by
  obtain ⟨-, params, -, slot, -⟩ := u.weighs
  exact ⟨params ▸ h.trips, steadied, h.phases.of_slot slot⟩

/-- The decision is made in the first round, and what it logs is logged first where no condition waits to be taken. -/
theorem State.Unhelped.decides {s : State} (h : s.Unhelped) {f : State → State} {es : List Event}
    (decided : ∀ w, Unmoved True s w → w.decideLatch = some (f w)) (log : ∀ w, Unmoved True s w → (f w).log = (w.logEvents es).log) :
    ∃ w, Unmoved True s w ∧ (f w).Unhelped ∧ s.settle = (f w).settleN 7 ∧ (s.waitingChanges = [] → LoggedFirst s es s.settle) := by
  obtain ⟨w, unmoved, steadied, settles, silent⟩ := State.settleN_succ_of_steadied 7 h.steadied h.trips h.phases
  have decision := decided w unmoved
  have move := State.decideLatch_latchMove decision
  obtain ⟨now, -⟩ := unmoved.standing
  rw [decision] at settles
  refine ⟨w, unmoved, (h.unmoved unmoved steadied).turn move (State.decideLatch_turn decision).inputs, settles, fun waits => ?_⟩
  have settled := State.settleN_consequence 7 (f w)
  have front : (f w).log = (s.logEvents es).log := by
    obtain ⟨b, weighed⟩ := s.weighUncommanded_eq
    rw [log w unmoved, silent waits, weighed]
    exact State.logEvents_log_congr es rfl rfl rfl
  rw [State.settle, settles]
  exact .of_logEvents (settled.now.trans (move.now.trans now)) (front ▸ settled.grows.1)

/-! ## The lean captured (R33) -/

/-- Setpoint, captured lean and measured lean are one. -/
structure State.AtLean (m : Int) (s : State) : Prop where
  phiS : s.solve.phiS = m
  captured : s.solve.captured = m
  meas : s.tilt.meas = m

theorem State.AtLean.move {m : Int} {s t : State} (h : s.AtLean m) (move : LatchMove s t) : t.AtLean m where
  phiS := move.phiS.elim (fun e => e.trans h.phiS) fun e => e.trans h.meas
  captured := move.captured.elim (fun e => e.trans h.captured) fun e => e.trans h.meas
  meas := move.tilt_meas.trans h.meas

theorem State.atLean_stable (m : Int) : Stable False (State.AtLean m) where
  inputs _ _ _ _ _ h := ⟨h.phiS, h.captured, h.meas⟩
  log _ _ h := ⟨h.phiS, h.captured, h.meas⟩
  weigh s h := h.move s.weighUncommanded_latchMove
  decide _ _ decided h := h.move (State.decideLatch_latchMove decided)

theorem State.setLatch_atLean {l : LatchState} {s : State} (captures : capturesLean s.latch.state l = true) :
    (s.setLatch l).AtLean s.tilt.meas := by
  have solve := State.setLatch_solve_of_captures captures
  exact ⟨by rw [solve], by rw [solve], (State.setLatch_latchMove l s).tilt_meas⟩

/-! ## A release of the latch controller's own (R116, R117) -/

theorem State.beginRelease_of_timed {s : State} (timed : 0 < s.params.preloadMs) : s.beginRelease =
    (s.setLatch .releasePreload).setLatchUnit
      { (s.setLatch .releasePreload).latch with preloadEnd := some (s.now + s.params.preloadMs.toNat * 1000) } := by
  unfold State.beginRelease
  dsimp only
  rw [if_neg (by rw [State.setLatch_params]; omega), State.setLatch_now, State.setLatch_params]
  rfl

theorem State.beginRelease_of_untimed {s : State} (untimed : s.params.preloadMs = 0) :
    s.beginRelease = (s.setLatch .releasePreload).endPreload := by
  unfold State.beginRelease
  dsimp only
  rw [if_pos (by rw [State.setLatch_params]; omega)]

theorem State.beginRelease_atLean {s : State} (state : s.latch.state = .engaged) : s.beginRelease.AtLean s.tilt.meas := by
  have leaning : (s.setLatch .releasePreload).AtLean s.tilt.meas := State.setLatch_atLean (by rw [state]; rfl)
  unfold State.beginRelease
  dsimp only
  split
  · exact leaning.move (State.endPreload_latchMove _)
  · exact ⟨leaning.phiS, leaning.captured, leaning.meas⟩

/-- ENGAGED under all of R116's conditions, with no PERMIT to go before. -/
structure State.Leans (s : State) : Prop where
  state : s.latch.state = .engaged
  first : s.latch.first = none
  commanded : s.latch.uncommanded = false
  permit : s.permit = false
  own : s.ownRules = true
  lean : s.mayLean = true

theorem State.Leans.decides {s : State} (h : s.Leans) : s.decideLatch = some s.beginRelease := by
  rw [State.decideLatch_engaged h.first h.state, State.permitReleases_of_absent h.permit, h.own, h.lean, h.commanded]
  rfl

theorem State.Leans.unmoved {s t : State} (h : s.Leans) (u : Unmoved True s t) : t.Leans := by
  obtain ⟨-, -, -, -, -, m, latch, marks⟩ := u.weighs
  obtain ⟨-, -, -, -, permit, -, own, -⟩ := u.conditions
  refine ⟨u.latch_state.trans h.state, ?_, ?_, permit.trans h.permit, own.trans h.own, u.mayLean.trans h.lean⟩
  · rw [latch]
    exact h.first
  · rw [latch]
    exact Bool.eq_false_iff.mpr fun e => nomatch h.commanded.symm.trans (marks e)

theorem LatchMove.mayLean {s t : State} (h : LatchMove s t) (same : t.inputs = s.inputs) : t.mayLean = s.mayLean := by
  obtain ⟨fast, -, -, grade⟩ := h.weighs
  have combined : t.combined = s.combined := State.combined_congr h.params fun _ => by rw [same]
  rw [State.mayLean, fast, h.tilt_mode, grade, State.lockDemand, h.itemA, h.itemB, combined, State.mayLean, State.lockDemand]

theorem State.preloadOff_of_mayLean {s : State} (lean : s.mayLean = true) (slow : s.slow = false) : s.preloadOff = false := by
  obtain ⟨-, track, calm, free⟩ := State.fast_of_mayLean lean
  simp [State.preloadOff, slow, track, calm, free]

/-- The release begins with the lean captured, whatever follows. -/
theorem State.Leans.captures {s : State} (h : s.Leans) (alone : s.Unhelped) : s.settle.AtLean s.tilt.meas := by
  obtain ⟨w, unmoved, steadied, settles, -⟩ := State.settleN_succ_of_steadied 7 alone.steadied alone.trips alone.phases
  have leans := h.unmoved unmoved
  have move := State.decideLatch_latchMove leans.decides
  have alone' := (alone.unmoved unmoved steadied).turn move (State.decideLatch_turn leans.decides).inputs
  obtain ⟨-, -, tilt, -⟩ := unmoved.weighs
  rw [State.settle, settles, leans.decides, ← tilt]
  exact (State.atLean_stable _).settleN 7 alone'.trips alone'.phases nofun (State.beginRelease_atLean leans.state)

/-- The preload begins, and stands (R117). -/
theorem State.Leans.preloads {s : State} (h : s.Leans) (alone : s.Unhelped) (timed : 0 < s.params.preloadMs) (slow : s.slow = false) :
    s.settle.latch.state = .releasePreload ∧
      s.settle.latch.preloadEnd = some (s.now + s.params.preloadMs.toNat * 1000) ∧
      (s.waitingChanges = [] → LoggedFirst s [.lockState .releasePreload] s.settle) := by
  have params {w : State} (u : Unmoved True s w) : w.params = s.params := by
    obtain ⟨-, params, -⟩ := u.weighs
    exact params
  have begins {w : State} (u : Unmoved True s w) := State.beginRelease_of_timed (s := w) (by rw [params u]; exact timed)
  obtain ⟨w, unmoved, alone', settles, logged⟩ := alone.decides (f := State.beginRelease) (es := [.lockState .releasePreload])
    (fun _ u => (h.unmoved u).decides) fun w u => by
      rw [begins u]
      exact State.setLatch_log .releasePreload w
  have leans := h.unmoved unmoved
  have move := State.decideLatch_latchMove leans.decides
  obtain ⟨-, slow', -⟩ := move.weighs
  obtain ⟨slow'', -⟩ := unmoved.conditions
  have lean : w.beginRelease.mayLean = true := (move.mayLean (State.beginRelease_turn w).inputs).trans leans.lean
  have stands : w.beginRelease.preloadOff = false := State.preloadOff_of_mayLean lean (slow'.trans (slow''.trans slow))
  have state : w.beginRelease.latch.state = .releasePreload := by
    rw [begins unmoved]
    exact State.setLatch_state .releasePreload w
  have rests : Unmoved True w.beginRelease (w.beginRelease.settleN 7) := State.settleN_unmoved 7 alone'.trips alone'.phases
    (fun _ => alone'.steadied) fun t u => State.decideLatch_of_standing_preload (u.latch_state.trans state) (u.preloadOff.trans stands)
  refine ⟨?_, ?_, logged⟩ <;> rw [settles]
  · exact rests.latch_state.trans state
  · obtain ⟨m, latch⟩ := rests.latch_eq
    obtain ⟨now, -⟩ := unmoved.standing
    rw [latch, begins unmoved, now, params unmoved]
    rfl

/-! ## Attempts that open (R113, R114) -/

/-- A first attempt that is open stays so while the part settles. -/
theorem State.settleN_attemptOpen (k : Nat) {s : State} {p : Params} {d : Direction} {o : SetOrigin} {now : Nat}
    (going : s.latch.state = .releasing ∨ s.latch.state = .engaging) (opens : s.latch.AttemptOpen p d o now) :
    (s.settleN k).latch.state = s.latch.state ∧ (s.settleN k).latch.AttemptOpen p d o now := by
  obtain ⟨state, set, pulse⟩ := (State.settleN_setRuns k s).stands going
  obtain ⟨pulse', set'⟩ := opens
  exact ⟨state, pulse.trans pulse', set.trans set'⟩

theorem State.beginEngage_opens {o : SetOrigin} {s : State} (idle : s.latch.pulse = none) (opened : s.latch.closed = false) :
    (s.beginEngage o).latch.state = .engaging ∧ (s.beginEngage o).latch.AttemptOpen s.params .engage o s.now ∧
      (s.beginEngage o).log = (s.logEvents [.lockState .engaging]).log := by
  rw [State.beginEngage_of_apart idle opened]
  exact ⟨State.setLatch_state .engaging s, ⟨rfl, rfl⟩, State.setLatch_log .engaging s⟩

theorem State.beginDirectRelease_opens {o : SetOrigin} {s : State} (idle : s.latch.pulse = none) (closed : s.latch.closed = true) :
    (s.beginDirectRelease o).latch.state = .releasing ∧ (s.beginDirectRelease o).latch.AttemptOpen s.params .release o s.now ∧
      (s.beginDirectRelease o).log = (s.logEvents [.lockState .releasing]).log := by
  rw [State.beginDirectRelease_of_apart idle closed]
  exact ⟨State.setLatch_state .releasing s, ⟨rfl, rfl⟩, State.setLatch_log .releasing s⟩

theorem State.endPreload_opens {s : State} (idle : s.latch.pulse = none) (closed : s.latch.closed = true) :
    s.endPreload.latch.state = .releasing ∧ s.endPreload.latch.AttemptOpen s.params .release .own s.now ∧
      s.endPreload.log = (s.logEvents [.lockState .releasing]).log := by
  rw [State.endPreload_of_apart idle closed]
  exact ⟨State.setLatch_state .releasing _, ⟨rfl, rfl⟩, State.setLatch_log .releasing _⟩

/-- With PRELOAD_MS at 0 the release set begins at once (R117). -/
theorem State.Leans.releases {s : State} (h : s.Leans) (alone : s.Unhelped) (untimed : s.params.preloadMs = 0)
    (closed : s.latch.closed = true) (idle : s.latch.pulse = none) :
    s.settle.latch.state = .releasing ∧ s.settle.latch.AttemptOpen s.params .release .own s.now ∧
      (s.waitingChanges = [] → LoggedFirst s [.lockState .releasePreload, .lockState .releasing] s.settle) := by
  have opens {w : State} (u : Unmoved True s w) : w.beginRelease.latch.state = .releasing ∧
      w.beginRelease.latch.AttemptOpen s.params .release .own s.now ∧
        w.beginRelease.log = (w.logEvents [.lockState .releasePreload, .lockState .releasing]).log := by
    obtain ⟨now, -, params, -⟩ := u.standing
    obtain ⟨m, latch⟩ := u.latch_eq
    obtain ⟨state, attempt, log⟩ := State.endPreload_opens (s := w.setLatch .releasePreload)
      (by rw [State.setLatch_latch, latch]; exact idle) (by rw [State.setLatch_latch, latch]; exact closed)
    rw [State.setLatch_params, State.setLatch_now, now, params] at attempt
    rw [State.beginRelease_of_untimed (by rw [params]; exact untimed)]
    refine ⟨state, attempt, log.trans ?_⟩
    exact State.logEvents_log_congr [.lockState .releasing] (s := w.logEvent (.lockState .releasePreload))
      (State.setLatch_log .releasePreload w) (State.setLatch_now .releasePreload w) (State.setLatch_params .releasePreload w)
  obtain ⟨w, unmoved, -, settles, logged⟩ := alone.decides (fun _ u => (h.unmoved u).decides) fun w u => by
    obtain ⟨-, -, log⟩ := opens u
    exact log
  obtain ⟨state, attempt, -⟩ := opens unmoved
  obtain ⟨stands, attempt'⟩ := State.settleN_attemptOpen 7 (.inl state) attempt
  exact ⟨by rw [settles]; exact stands.trans state, by rw [settles]; exact attempt', logged⟩

end Sys2Proof.Machine
end

section
/-! PROOFS. The other decisions of the latch controller when the part settles (R117, R119, R121, R124, R125). -/

namespace Sys2Proof.Machine

theorem Unmoved.ownRules {steady : Prop} {s t : State} (h : Unmoved steady s t) : t.ownRules = s.ownRules := by
  obtain ⟨-, -, -, -, -, -, own, -⟩ := h.conditions
  exact own

/-- An engagement begins from RELEASED (R119). -/
theorem State.Unhelped.engages {s : State} (alone : s.Unhelped) (state : s.latch.state = .released) (first : s.latch.first = none)
    (own : s.ownRules = true) (engage : s.mayEngage = true) (opened : s.latch.closed = false) (idle : s.latch.pulse = none) :
    s.settle.latch.state = .engaging ∧ s.settle.latch.AttemptOpen s.params .engage .own s.now ∧
      (s.waitingChanges = [] → LoggedFirst s [.lockState .engaging] s.settle) := by
  have opens {w : State} (u : Unmoved True s w) := State.beginEngage_opens (o := .own) (s := w)
    (by obtain ⟨m, latch⟩ := u.latch_eq; rw [latch]; exact idle) (by obtain ⟨m, latch⟩ := u.latch_eq; rw [latch]; exact opened)
  obtain ⟨w, unmoved, -, settles, logged⟩ := alone.decides (f := State.beginEngage .own) (fun w u => by
      rw [State.decideLatch_released (u.latch_first.trans first) (u.latch_state.trans state), u.ownRules, own, u.mayEngage, engage]
      rfl) fun w u => by
    obtain ⟨-, -, log⟩ := opens u
    exact log
  obtain ⟨going, attempt, -⟩ := opens unmoved
  obtain ⟨now, -, params, -⟩ := unmoved.standing
  rw [now, params] at attempt
  obtain ⟨stands, attempt'⟩ := State.settleN_attemptOpen 7 (.inr going) attempt
  exact ⟨by rw [settles]; exact stands.trans going, by rw [settles]; exact attempt', logged⟩

/-- The way out of UNLATCHED_FAULT by speed (R121). -/
theorem State.Unhelped.leaves {s : State} (alone : s.Unhelped) (state : s.latch.state = .unlatchedFault)
    (first : s.latch.first = none) (own : s.ownRules = true) (lean : s.mayLean = true) (slow : s.slow = false) :
    s.settle.latch.state = .released ∧ (s.waitingChanges = [] → LoggedFirst s [.lockState .released] s.settle) := by
  have decided {w : State} (u : Unmoved True s w) : w.decideLatch = some (w.setLatch .released) := by
    rw [State.decideLatch_unlatchedFault (u.latch_first.trans first) (u.latch_state.trans state), u.ownRules, own, u.mayLean, lean]
    rfl
  obtain ⟨w, unmoved, alone', settles, logged⟩ := alone.decides (f := State.setLatch .released) (es := [.lockState .released]) (fun _ u => decided u)
    fun w _ => State.setLatch_log .released w
  have freed := State.setLatch_state .released w
  obtain ⟨slow', -, -, -, -, -, -, -⟩ := unmoved.conditions
  obtain ⟨-, slow'', -, grade'⟩ := (State.setLatch_latchMove .released w).weighs
  obtain ⟨-, -, -, -, grade, -⟩ := unmoved.weighs
  obtain ⟨-, -, calm, -⟩ := State.fast_of_mayLean lean
  have idles : (w.setLatch .released).Idles False := .released freed (State.mayEngage_of_apart (.inl
    ⟨slow''.trans (slow'.trans slow), by rw [grade', grade]; exact calm⟩))
  have rests := idles.settleN 7 alone'.trips alone'.phases nofun
  exact ⟨by rw [settles]; exact rests.latch_state.trans freed, logged⟩

/-- A lock demand abandons a preload (R117). -/
theorem State.Unhelped.abandons {s : State} (alone : s.Unhelped) (state : s.latch.state = .releasePreload)
    (first : s.latch.first = none) (demand : s.lockDemand = true) (permit : s.permit = false) :
    s.settle.latch.state = .engaged ∧ s.settle.latch.preloadEnd = none ∧ s.settle.latch.set = s.latch.set ∧
      s.settle.latch.pulse = s.latch.pulse ∧ (s.waitingChanges = [] → LoggedFirst s [.lockState .engaged] s.settle) := by
  have demanded {w : State} (u : Unmoved True s w) : w.lockDemand = true := by
    obtain ⟨-, -, -, -, -, -, -, demand'⟩ := u.conditions
    exact (demand' trivial).trans demand
  obtain ⟨w, unmoved, alone', settles, logged⟩ := alone.decides (f := State.abandonPreload) (es := [.lockState .engaged]) (fun w u => by
      rw [State.decideLatch_releasePreload (u.latch_first.trans first) (u.latch_state.trans state),
        if_pos (by simp [State.preloadOff, demanded u])]) fun w _ => State.abandonPreload_log w
  have latch := w.abandonPreload_latch
  have move := w.abandonPreload_latchMove
  obtain ⟨-, -, permit', -⟩ := move.weighs
  obtain ⟨-, -, -, -, permit'', -⟩ := unmoved.conditions
  have lean : w.abandonPreload.mayLean = false :=
    (move.mayLean w.abandonPreload_turn.inputs).trans (by simp [State.mayLean, demanded unmoved])
  have engaged : w.abandonPreload.latch.state = .engaged := by rw [latch]
  have rests : Unmoved True w.abandonPreload (w.abandonPreload.settleN 7) := State.settleN_unmoved 7 alone'.trips alone'.phases
    (fun _ => alone'.steadied) fun t u => State.decideLatch_engaged_of_noRelease (u.latch_state.trans engaged)
      (u.permitReleases.trans (State.permitReleases_of_absent (permit'.trans (permit''.trans permit)))) (u.mayLean.trans lean)
  obtain ⟨m, settled⟩ := rests.latch_eq
  obtain ⟨m', before⟩ := unmoved.latch_eq
  refine ⟨?_, ?_, ?_, ?_, logged⟩ <;> rw [settles, settled, latch]
  all_goals rw [before]

/-- ENGAGED under a lock demand, with no PERMIT, stands (R125). -/
theorem State.Unhelped.stays {s : State} (alone : s.Unhelped) (state : s.latch.state = .engaged) (demand : s.lockDemand = true)
    (permit : s.permit = false) : Unmoved True s s.settle :=
  (State.Idles.engaged state (State.permitReleases_of_absent permit) (.demanded trivial demand)).settleN 8 alone.trips alone.phases
    fun _ => alone.steadied

/-- UNLATCHED_FAULT under a lock demand stands (R121, R125). -/
theorem State.Unhelped.stands {s : State} (alone : s.Unhelped) (state : s.latch.state = .unlatchedFault)
    (demand : s.lockDemand = true) : Unmoved True s s.settle :=
  (State.Idles.unlatchedFault state (.demanded trivial demand)).settleN 8 alone.trips alone.phases fun _ => alone.steadied

/-- A release under a PERMIT (R124). -/
structure State.Permits (s : State) : Prop where
  state : s.latch.state = .engaged
  first : s.latch.first = none
  own : s.ownRules = true
  permit : s.permitReleases = true
  closed : s.latch.closed = true
  idle : s.latch.pulse = none

theorem State.Permits.unmoved {s t : State} (h : s.Permits) (u : Unmoved True s t) : t.Permits := by
  obtain ⟨m, latch⟩ := u.latch_eq
  refine ⟨u.latch_state.trans h.state, u.latch_first.trans h.first, u.ownRules.trans h.own, u.permitReleases.trans h.permit, ?_, ?_⟩
    <;> rw [latch]
  · exact h.closed
  · exact h.idle

theorem State.Permits.decides {s : State} (h : s.Permits) : s.decideLatch = some s.beginPermitRelease := by
  rw [State.decideLatch_engaged h.first h.state, h.own, h.permit]
  rfl

theorem State.Permits.opens {s : State} (h : s.Permits) : s.beginPermitRelease.latch.state = .releasing ∧
    s.beginPermitRelease.latch.AttemptOpen s.params .release .permit s.now ∧
    s.beginPermitRelease.latch.permitOf = s.latch.permitPort ∧ s.beginPermitRelease.AtLean s.tilt.meas ∧
    s.beginPermitRelease.log = (s.logEvents [.lockState .releasing]).log := by
  have parts := State.beginDirectRelease_of_apart (o := .permit)
    (s := s.setLatchUnit { s.latch with permitOf := s.latch.permitPort }) h.idle h.closed
  have leaning : ((s.setLatchUnit { s.latch with permitOf := s.latch.permitPort }).setLatch .releasing).AtLean s.tilt.meas :=
    State.setLatch_atLean (s := s.setLatchUnit { s.latch with permitOf := s.latch.permitPort }) (l := .releasing)
      (by show capturesLean s.latch.state .releasing = true; rw [h.state]; rfl)
  rw [State.beginPermitRelease, parts]
  exact ⟨State.setLatch_state .releasing _, ⟨rfl, rfl⟩, congrArg LatchUnit.permitOf (State.setLatch_latch .releasing _),
    ⟨leaning.phiS, leaning.captured, leaning.meas⟩, State.setLatch_log .releasing _⟩

theorem State.Permits.releases {s : State} (h : s.Permits) (alone : s.Unhelped) : s.settle.latch.state = .releasing ∧
    s.settle.latch.AttemptOpen s.params .release .permit s.now ∧ s.settle.latch.permitOf = s.latch.permitPort ∧
    s.settle.AtLean s.tilt.meas ∧ (s.waitingChanges = [] → LoggedFirst s [.lockState .releasing] s.settle) := by
  obtain ⟨w, unmoved, alone', settles, logged⟩ := alone.decides (f := State.beginPermitRelease) (fun _ u => (h.unmoved u).decides)
    fun w u => by
      obtain ⟨-, -, -, -, log⟩ := (h.unmoved u).opens
      exact log
  obtain ⟨going, attempt, port, leaning, -⟩ := (h.unmoved unmoved).opens
  obtain ⟨now, -, params, -⟩ := unmoved.standing
  obtain ⟨-, -, tilt, -⟩ := unmoved.weighs
  obtain ⟨m, before⟩ := unmoved.latch_eq
  rw [now, params] at attempt
  rw [tilt] at leaning
  have rests : Unmoved False w.beginPermitRelease (w.beginPermitRelease.settleN 7) := State.settleN_unmoved 7 alone'.trips
    alone'.phases nofun fun t u => State.decideLatch_under_way (.inl (u.latch_state.trans going))
  obtain ⟨m', settled⟩ := rests.latch_eq
  obtain ⟨stands, attempt'⟩ := State.settleN_attemptOpen 7 (.inl going) attempt
  refine ⟨?_, ?_, ?_, ?_, logged⟩ <;> rw [settles]
  · exact stands.trans going
  · exact attempt'
  · rw [settled]
    exact port.trans (by rw [before]; rfl)
  · exact (State.atLean_stable _).settleN 7 alone'.trips alone'.phases nofun leaning

/-- A LOCK in UNLATCHED_FAULT begins an engagement where R119's conditions hold (R121). -/
theorem State.lockRequest_of_mayEngage {s : State} (state : s.latch.state = .unlatchedFault) (own : s.ownRules = true)
    (engage : s.mayEngage = true) : s.lockRequest = s.beginEngage .own := if_pos (by simp [state, own, engage])

theorem State.lockRequest_of_other {s : State} (other : s.latch.state ≠ .unlatchedFault ∨ s.mayEngage = false) :
    s.lockRequest = s := if_neg (by simpa using fun state _ => other.resolve_left (not_not.mpr state))

theorem State.lockRequest_engages {s : State} (state : s.latch.state = .unlatchedFault) (own : s.ownRules = true)
    (engage : s.mayEngage = true) (opened : s.latch.closed = false) (idle : s.latch.pulse = none) :
    s.lockRequest.settle.latch.state = .engaging ∧ s.lockRequest.settle.latch.AttemptOpen s.params .engage .own s.now ∧
      LoggedFirst s [.lockState .engaging] s.lockRequest.settle := by
  obtain ⟨going, attempt, log⟩ := State.beginEngage_opens (o := .own) idle opened
  rw [State.lockRequest_of_mayEngage state own engage]
  obtain ⟨stands, attempt'⟩ := State.settleN_attemptOpen 8 (.inr going) attempt
  exact ⟨stands.trans going, attempt', .settle log (State.beginEngage_latchMove .own s).now⟩

end Sys2Proof.Machine
end

section
/-! PROOFS. A LOCK_DEMAND carried out: what the state of the decision has of the state before (R124, R158, R159). -/

namespace Sys2Proof.Machine

theorem State.demandItem_apartItems (p : Port) (i : DemandItem) (s : State) :
    (s.demandItem p i).latch.apartItems = s.latch.apartItems := by
  have put : (s.latch.setItem p i).apartItems = s.latch.apartItems := by cases p <;> rfl
  unfold State.demandItem
  dsimp only
  split
  · exact (State.endPermit_apartItems _ _).trans put
  · exact put

theorem LatchUnit.permit_of_items {l : LatchUnit} {p : Port} (own : l.item p ≠ .permit) (other : l.item (otherPort p) ≠ .permit) :
    (l.itemA = .permit || l.itemB = .permit) = false := by
  cases p
  · exact Bool.or_eq_false_iff.mpr ⟨decide_eq_false own, decide_eq_false other⟩
  · exact Bool.or_eq_false_iff.mpr ⟨decide_eq_false other, decide_eq_false own⟩

/-- The part as a LOCK_DEMAND with item `i` leaves it before the latch controller looks: only the items differ from before. -/
structure State.Asked (dt : Nat) (p : Port) (i : DemandItem) (s d : State) : Prop where
  now : d.now = s.now + dt
  log : d.log = s.log
  inputs : d.inputs = s.inputs
  speed : d.speed = s.speed
  params : d.params = s.params
  tilt : d.tilt = s.tilt
  solve : d.solve = s.solve
  slot : d.slot = s.slot
  hold : d.auth.hold.isSome = s.auth.hold.isSome
  apart : d.latch.apartItems = s.latch.apartItems
  item : d.latch.item p = i
  other : i ≠ .lock → d.latch.item (otherPort p) = s.latch.item (otherPort p)
  ends : i = .lock → d.latch.item (otherPort p) ≠ .permit

theorem State.asked (dt : Nat) (p : Port) (i : DemandItem) (s : State) : s.Asked dt p i ((s.delivered dt p).demandItem p i) := by
  have apart := (State.demandItem_apartItems p i (s.delivered dt p)).trans (congrArg LatchUnit.apartItems (s.delivered_latch dt p))
  have item := State.demandItem_item p i (s.delivered dt p)
  have other (weak : i ≠ .lock) : ((s.delivered dt p).demandItem p i).latch.item (otherPort p) = s.latch.item (otherPort p) := by
    rw [State.demandItem_other weak, State.delivered_latch]
  have ends (lock : i = .lock) : ((s.delivered dt p).demandItem p i).latch.item (otherPort p) ≠ .permit := by
    subst lock
    rw [State.demandItem_lock_other]
    split
    · exact nofun
    · assumption
  obtain ⟨l, parts⟩ := State.demandItem_eq p i (s.delivered dt p)
  rw [parts] at apart item other ends ⊢
  exact ⟨s.delivered_now dt p, s.delivered_log dt p, s.delivered_inputs dt p, s.delivered_speed dt p, s.delivered_params dt p,
    s.delivered_tilt dt p, s.delivered_solve dt p, s.delivered_slot dt p, s.delivered_hold_isSome dt p, apart, item, other, ends⟩

namespace State.Asked

variable {dt : Nat} {p : Port} {i : DemandItem} {s d : State}

theorem latch (h : s.Asked dt p i d) : d.latch.state = s.latch.state ∧ d.latch.first = s.latch.first ∧ d.latch.set = s.latch.set ∧
    d.latch.pulse = s.latch.pulse ∧ d.latch.closed = s.latch.closed ∧ d.latch.uncommanded = s.latch.uncommanded ∧
    d.latch.run = s.latch.run ∧ d.latch.preloadEnd = s.latch.preloadEnd :=
  ⟨(congrArg LatchUnit.state h.apart :), (congrArg LatchUnit.first h.apart :), (congrArg LatchUnit.set h.apart :),
    (congrArg LatchUnit.pulse h.apart :), (congrArg LatchUnit.closed h.apart :), (congrArg LatchUnit.uncommanded h.apart :),
    (congrArg LatchUnit.run h.apart :), (congrArg LatchUnit.preloadEnd h.apart :)⟩

theorem weighs (h : s.Asked dt p i d) : d.fast = s.fast ∧ d.slow = s.slow ∧ d.still = s.still ∧ d.grade = s.grade ∧
    d.uprightNow = s.uprightNow ∧ d.combined = s.combined := by
  refine ⟨?_, ?_, ?_, ?_, ?_, State.combined_congr h.params fun _ => by rw [h.inputs]⟩
  · rw [State.fast, h.speed, h.params, State.fast]
  · rw [State.slow, h.speed, h.params, State.slow]
  · rw [State.still, h.speed, State.still]
  · rw [State.grade, h.inputs, State.grade]
  · rw [State.uprightNow, h.tilt, h.params, h.solve, State.uprightNow]

theorem own (h : s.Asked dt p i d) (ready : Ready s p) (first : s.latch.first = none) (set : s.latch.set = none)
    (tilt : s.slot.onTilt = false) : d.ownRules = true := by
  obtain ⟨-, first', set', -, -, -, run, -⟩ := h.latch
  obtain ⟨-, awake⟩ := ready
  simp [State.ownRules, first', set', run, awake, first, set, h.slot, tilt]

theorem unhelped (h : s.Asked dt p i d) (alone : s.LatchAlone) : d.Unhelped :=
  ⟨h.params ▸ alone.trips, alone.combiners.steadied.of_same h.inputs h.speed h.params h.hold (by rw [h.tilt]),
    alone.phases.of_slot h.slot⟩

theorem waits (h : s.Asked dt p i d) (waits : s.waitingChanges = []) : d.waitingChanges = [] := by
  obtain ⟨state, -⟩ := h.latch
  exact State.waitingChanges_congr waits h.inputs h.speed h.params state h.hold (by rw [h.tilt])

/-- No PERMIT stands where neither port has one. -/
theorem permit (h : s.Asked dt p i d) (weak : i ≠ .permit) (other : i ≠ .lock → s.latch.item (otherPort p) ≠ .permit) :
    d.permit = false := by
  refine LatchUnit.permit_of_items (p := p) (by rwa [h.item]) ?_
  by_cases lock : i = .lock
  · exact h.ends lock
  · rw [h.other lock]
    exact other lock

/-- A LOCK is a lock demand (R125). -/
theorem demanded (h : s.Asked dt p .lock d) : d.lockDemand = true := by
  have item := h.item
  unfold State.lockDemand
  cases p
  · rw [show d.latch.itemA = .lock from item]
    rfl
  · rw [show d.latch.itemB = .lock from item]
    simp

/-- Without a LOCK and without a combined demand there is no lock demand. -/
theorem undemanded (h : s.Asked dt p .none d) (other : s.latch.item (otherPort p) ≠ .lock) (combined : s.combined = false) :
    d.lockDemand = false := by
  obtain ⟨-, -, -, -, -, combined'⟩ := h.weighs
  have item := h.item
  have apart := h.other nofun
  unfold State.lockDemand
  rw [combined', combined]
  cases p
  · rw [show d.latch.itemA = .none from item, show d.latch.itemB = _ from apart]
    simpa using other
  · rw [show d.latch.itemB = .none from item, show d.latch.itemA = _ from apart]
    simpa using other

/-- The conditions of R116 after a NONE. -/
theorem mayLean (h : s.Asked dt p .none d) (fast : s.fast = true) (track : s.tilt.mode = .track) (calm : s.grade ≠ .lockdown)
    (other : s.latch.item (otherPort p) ≠ .lock) (combined : s.combined = false) : d.mayLean = true := by
  obtain ⟨fast', -, -, grade, -⟩ := h.weighs
  simp [State.mayLean, fast', fast, h.tilt, track, grade, calm, h.undemanded other combined]

/-- A PERMIT beside NONE is the one that stands. -/
theorem permitted (h : s.Asked dt p .permit d) (other : s.latch.item (otherPort p) = .none) :
    d.permit = true ∧ d.latch.permitPort = some p := by
  have item := h.item
  have apart := (h.other nofun).trans other
  unfold State.permit LatchUnit.permitPort
  cases p
  · rw [show d.latch.itemA = .permit from item]
    exact ⟨rfl, rfl⟩
  · rw [show d.latch.itemB = .permit from item, show d.latch.itemA = .none from apart]
    exact ⟨rfl, rfl⟩

/-- The conditions of R119 after a demand: the tilt and the speed stand, and a PERMIT counts only without LOCKDOWN. -/
theorem mayEngage (h : s.Asked dt p i d) (cause : (s.slow = true ∧ d.permit = false) ∨ s.grade = .lockdown)
    (upright : mag s.tilt.meas ≤ s.params.uprightWindow) (leant : mag s.solve.phiS ≤ s.params.uprightWindow) :
    d.mayEngage = true := by
  obtain ⟨-, slow', -, grade', upright', -⟩ := h.weighs
  have now : d.uprightNow = true := by rw [upright']; simp [State.uprightNow, upright, leant]
  obtain ⟨slow, free⟩ | grave := cause
  · simp [State.mayEngage, slow', slow, free, now]
  · simp [State.mayEngage, grade', grave, now]

/-- A combined demand that stands before the request stands after it. -/
theorem combinedDemand (h : s.Asked dt p i d) (combined : s.combined = true) : d.combined = true ∧ d.lockDemand = true := by
  obtain ⟨-, -, -, -, -, same⟩ := h.weighs
  exact ⟨same.trans combined, by simp [State.lockDemand, same, combined]⟩

end State.Asked

/-! ## The answer -/

/-- What the answer to a LOCK_DEMAND leaves of the state `u` it is taken from, with the log as `s` has it before. -/
structure State.DemandAnswered (s d u t : State) : Prop where
  latch : t.latch = u.latch
  solve : t.solve = u.solve
  combined : t.combined = u.combined
  logged : ∀ es, LoggedFirst d es u → LoggedFirst s es t

/-- A LOCK_DEMAND carried out, from the state in which the latch controller looks. -/
theorem exec_lockDemand {c : Instr} {dt : Nat} {p : Port} {r : Byte} {i : DemandItem} {s : State} {f : State → State}
    {act : Port → State → State × Answer} (frame : c.frame? = some { port := p, ref := r, payload := [] }) (wf : c.wf = true)
    (delay : c.delay = dt) (service : requestService c = (0x14, true, demandRow act)) (ready : Ready s p)
    (handled : act p (s.delivered dt p) = demandAnswer (f ((s.delivered dt p).demandItem p i)).settle)
    (calm : ∀ d : State, (f d).now = d.now) :
    ∃ d t, s.Asked dt p i d ∧ exec c s = .next t ∧ s.DemandAnswered d (f d).settle t := by
  subst delay
  have asked := s.asked c.delay p i
  generalize (s.delivered c.delay p).demandItem p i = d at *
  have now : (f d).settle.now = s.now + c.delay := (State.settle_consequence (f d)).now.trans ((calm d).trans asked.now)
  have answered := exec_answered (t := (f d).settle) (a := okAnswer (f d).settle.demandBytes) frame wf ready
    (by rw [service]; exact handled) now
  refine ⟨d, _, asked, answered, State.answered_latch .., State.answered_solve .., ?_, fun es logged => ?_⟩
  · rw [State.combined, State.answered_inputs, State.answered_params, State.combined]
  · rw [LoggedFirst, asked.log] at logged
    rw [LoggedFirst, State.answered_now, State.answered_log]
    exact logged

theorem exec_demandNone {dt : Nat} {p : Port} {s : State} (r : Byte) (ready : Ready s p) : ∃ d t, s.Asked dt p .none d ∧
    exec (.lockDemandNone dt { port := p, ref := r, payload := [] }) s = .next t ∧ s.DemandAnswered d d.settle t :=
  exec_lockDemand (f := id) rfl rfl rfl rfl ready rfl fun _ => rfl

theorem exec_demandLock {dt : Nat} {p : Port} {s : State} (r : Byte) (ready : Ready s p) : ∃ d t, s.Asked dt p .lock d ∧
    exec (.lockDemandLock dt { port := p, ref := r, payload := [] }) s = .next t ∧
    s.DemandAnswered d d.lockRequest.settle t :=
  exec_lockDemand (f := State.lockRequest) rfl rfl rfl rfl ready rfl fun d => (State.lockRequest_sound d).consequence.now

theorem exec_demandPermit {dt : Nat} {p : Port} {s : State} (r : Byte) (ready : Ready s p) (holder : s.holds p = true)
    (may : s.permitReady p = true) : ∃ d t, s.Asked dt p .permit d ∧
    exec (.lockDemandPermit dt { port := p, ref := r, payload := [] }) s = .next t ∧ s.DemandAnswered d d.settle t := by
  refine exec_lockDemand (f := id) rfl rfl rfl rfl ready ?_ fun _ => rfl
  simp [demandPermit, holder, State.delivered_permitReady, may]

end Sys2Proof.Machine
end

section
/-! PROOFS. What leads to RELEASE_PRELOAD from one command to the next: the relations of R116's sentence on entries. -/

namespace Sys2Proof.Machine

/-- The speed of R116 and the first debounce stand, and RELEASE_PRELOAD is entered only at that speed, after that debounce. -/
structure Feeds (s t : State) : Prop where
  fast : t.fast = s.fast
  first : t.latch.first = s.latch.first
  enters : t.latch.state = .releasePreload → s.latch.state = .releasePreload ∨ (s.fast = true ∧ s.latch.first = none)

theorem Feeds.of {s t : State} (fast : t.fast = s.fast) (first : t.latch.first = s.latch.first)
    (state : t.latch.state = s.latch.state) : Feeds s t := ⟨fast, first, fun preload => .inl (state ▸ preload)⟩

theorem Feeds.refl (s : State) : Feeds s s := .of rfl rfl rfl

theorem Feeds.trans {s t u : State} (h : Feeds s t) (k : Feeds t u) : Feeds s u where
  fast := k.fast.trans h.fast
  first := k.first.trans h.first
  enters preload := (k.enters preload).elim h.enters fun ⟨fast, first⟩ => .inr ⟨h.fast ▸ fast, h.first ▸ first⟩

theorem Feeds.ite {s a b : State} (c : Prop) [Decidable c] (h : Feeds s a) (k : Feeds s b) : Feeds s (if c then a else b) := by
  split <;> assumption

theorem Entering.feeds {s t : State} (h : Entering s t) : Feeds s t := ⟨h.consequence.fast, h.consequence.first, h.enters⟩

theorem Sparing.feeds {s t : State} (h : Sparing s t) : Feeds s t := h.entering.feeds

/-- A preload that no cause of R117 abandons stays one that none does, too. -/
structure Leads (s t : State) : Prop extends Feeds s t where
  grounded : Grounded s → Grounded t

theorem Leads.of {s t : State} (fast : t.fast = s.fast) (first : t.latch.first = s.latch.first)
    (state : t.latch.state = s.latch.state) (preloadOff : t.preloadOff = s.preloadOff) : Leads s t :=
  ⟨.of fast first state, fun grounded done preload => preloadOff.trans (grounded (first ▸ done) (state ▸ preload))⟩

theorem Leads.refl (s : State) : Leads s s := .of rfl rfl rfl rfl

theorem Leads.trans {s t u : State} (h : Leads s t) (k : Leads t u) : Leads s u :=
  ⟨h.toFeeds.trans k.toFeeds, k.grounded ∘ h.grounded⟩

theorem Leads.ite {s a b : State} (c : Prop) [Decidable c] (h : Leads s a) (k : Leads s b) : Leads s (if c then a else b) := by
  split <;> assumption

/-- What a command leaves settled is grounded. -/
theorem Feeds.settle {s t : State} (h : Feeds s t) : Leads s t.settle :=
  ⟨h.trans (State.settle_entering t).feeds, fun _ => State.settle_grounded t⟩

theorem Entering.settle {s t : State} (h : Entering s t) : Leads s t.settle := h.feeds.settle

theorem Sparing.settle {s t : State} (h : Sparing s t) : Leads s t.settle := h.feeds.settle

/-- As `Leads`, but the speed of R116 may be that of before or that of after. -/
structure Admits (s t : State) : Prop where
  first : t.latch.first = s.latch.first
  enters : t.latch.state = .releasePreload →
    s.latch.state = .releasePreload ∨ ((s.fast = true ∨ t.fast = true) ∧ s.latch.first = none)
  grounded : Grounded s → Grounded t

theorem Leads.admits {s t : State} (h : Leads s t) : Admits s t :=
  ⟨h.first, fun preload => (h.enters preload).imp_right fun ⟨fast, first⟩ => ⟨.inl fast, first⟩, h.grounded⟩

theorem Leads.trans_admits {s t u : State} (h : Leads s t) (k : Admits t u) : Admits s u where
  first := k.first.trans h.first
  enters preload := (k.enters preload).elim (fun before => (h.enters before).imp_right fun ⟨fast, first⟩ => ⟨.inl fast, first⟩)
    fun ⟨fast, first⟩ => .inr ⟨fast.imp_left fun e => h.fast ▸ e, h.first ▸ first⟩
  grounded := k.grounded ∘ h.grounded

theorem Admits.trans_leads {s t u : State} (h : Admits s t) (k : Leads t u) : Admits s u where
  first := k.first.trans h.first
  enters preload := (k.enters preload).elim
    (fun before => (h.enters before).imp_right fun ⟨fast, first⟩ => ⟨fast.imp_right fun e => k.fast.trans e, first⟩)
    fun ⟨fast, first⟩ => .inr ⟨.inr (k.fast.trans fast), h.first ▸ first⟩
  grounded := k.grounded ∘ h.grounded

/-- A change of what the speed of R116 rests on, and no change of the latch, between two stretches that keep it. -/
theorem Feeds.turn {s u v w : State} (h : Feeds s u) (first : v.latch.first = u.latch.first) (state : v.latch.state = u.latch.state)
    (k : Feeds v w) : Admits s w.settle where
  first := k.settle.first.trans (first.trans h.first)
  enters preload := by
    obtain before | ⟨fast, done⟩ := k.settle.enters preload
    · exact (h.enters (state ▸ before)).imp_right fun ⟨fast, first⟩ => ⟨.inl fast, first⟩
    · exact .inr ⟨.inr (k.settle.fast.trans fast), h.first ▸ first ▸ done⟩
  grounded _ := State.settle_grounded w

/-- R116's sentence on entries, for one command: an entry is made at the speed of R116, and no cause of R117 stands. -/
def State.EntersFast (s t : State) : Prop := s.latch.state ≠ .releasePreload → t.latch.state = .releasePreload →
  (s.fast = true ∨ t.fast = true) ∧ t.preloadOff = false

theorem Admits.entersFast {s t : State} (h : Admits s t) : s.EntersFast t := fun apart preload => by
  obtain ⟨fast, first⟩ := (h.enters preload).resolve_left apart
  exact ⟨fast, h.grounded (fun _ before => absurd before apart) (h.first.trans first) preload⟩

/-! ## Shared operations -/

theorem State.advance_leads (dt : Nat) (s : State) : Leads s (s.advance dt) := .of rfl rfl rfl rfl

theorem State.rxHunt_leads (p : Port) (s : State) : Leads s (s.rxHunt p) := by cases p <;> exact .of rfl rfl rfl rfl

theorem State.setPort_leads (p : Port) (r : PortRec) (s : State) : Leads s (s.setPort p r) := by
  cases p <;> exact .of rfl rfl rfl rfl

theorem State.refresh_leads (p : Port) (s : State) : Leads s (s.refresh p) := by
  unfold State.refresh
  split
  · exact .refl s
  · exact .ite _ (.of rfl rfl rfl rfl) (.refl s)

theorem State.logEvent_leads (e : Event) (s : State) : Leads s (s.logEvent e) := .of rfl rfl rfl rfl

theorem State.setAxis_feeds (x : Axis) (a : AxisCtl) (s : State) : Feeds s (s.setAxis x a) := by
  cases x <;> exact .of rfl rfl rfl

theorem State.seedSetpoint_feeds (x : Axis) (s : State) : Feeds s (s.seedSetpoint x) := by
  cases x <;> exact .of rfl rfl rfl

/-- A drive leaves the mode. -/
theorem State.setDrive_leads (x : Axis) (d : Int) (s : State) : Leads s (s.setDrive x d) := by
  cases x <;> exact .of rfl rfl rfl rfl

theorem State.wake_leads (src : WakeSource) (s : State) : Leads s (s.wake src) := by
  unfold State.wake
  exact .ite _ (Feeds.settle (t := s.wakeNow src) (.of rfl rfl rfl)) (.refl s)

theorem State.credit_feeds (n : Nat) (s : State) : Feeds s (s.credit n) := (State.credit_entering n s).feeds

theorem State.handOn_feeds (s : State) : Feeds s s.handOn := (State.handOn_entering s).feeds

theorem State.setSlot_leads (y : Slot) (s : State) : Leads s (s.setSlot y) := .of rfl rfl rfl rfl

theorem State.suspend_leads (r : Routine) (s : State) : Leads s (s.suspend r) :=
  ((State.setSlot_leads _ s).trans (State.setDrive_leads _ _ _)).trans (State.logEvent_leads _ _)

end Sys2Proof.Machine
end

section
/-! PROOFS. What each request's owner does towards RELEASE_PRELOAD. -/

namespace Sys2Proof.Machine

/-! ## The path unit -/

theorem State.setPath_leads (u : PathUnit) (s : State) : Leads s (s.setPath u) := .of rfl rfl rfl rfl

theorem State.discardStaging_leads (s : State) : Leads s s.discardStaging := State.setPath_leads _ s

theorem State.stage_leads (segs : List ReadSegment) (s : State) : Leads s (s.stage segs) := State.setPath_leads _ s

theorem State.appendSegments_leads (segs : List Segment) (s : State) : Leads s (s.appendSegments segs) := by
  unfold State.appendSegments
  split
  · exact .refl s
  · exact (State.setPath_leads _ s).trans (State.setPath_leads _ _)
  · exact State.setPath_leads _ s

theorem State.flush_leads (s : State) : Leads s s.flush := by
  unfold State.flush
  split
  · exact State.discardStaging_leads s
  · exact (State.setPath_leads _ s).trans (State.logEvent_leads _ _)

theorem commitBatch_leads (batch : List Segment) (status : Status) (s : State) : Leads s (commitBatch batch status s).1 := by
  unfold commitBatch
  dsimp only
  split
  · exact s.discardStaging_leads.trans (State.appendSegments_leads _ _)
  · exact s.discardStaging_leads

theorem loadFirst_leads (segs : List ReadSegment) (s : State) : Leads s (loadFirst segs s).1 :=
  s.discardStaging_leads.trans (State.stage_leads segs _)

theorem loadMiddle_leads (segs : List ReadSegment) (s : State) : Leads s (loadMiddle segs s).1 := by
  unfold loadMiddle
  split
  · exact .refl s
  split
  · exact s.discardStaging_leads
  · exact State.stage_leads segs s

theorem loadLast_leads (segs : List ReadSegment) (s : State) : Leads s (loadLast segs s).1 := by
  unfold loadLast
  split
  · exact .refl s
  split
  · exact s.discardStaging_leads
  · exact commitBatch_leads ..

theorem loadOnly_leads (segs : List ReadSegment) (s : State) : Leads s (loadOnly segs s).1 := commitBatch_leads ..

/-- What an owner does with any payload in any state leads at most to an entry at the speed of R116. -/
def Handler.Admits (h : Handler) : Prop := ∀ p payload s, Machine.Admits s (h p payload s).1

/-- As `Handler.Admits`, with the speed of R116 kept. -/
def Handler.Leads (h : Handler) : Prop := ∀ p payload s, Machine.Leads s (h p payload s).1

theorem Handler.Leads.admits {h : Handler} (leads : h.Leads) : h.Admits := fun p payload s => (leads p payload s).admits

theorem loadPath_leads {act : List ReadSegment → State → State × Answer} (acts : ∀ segs s, Leads s (act segs s).1) :
    Handler.Leads (loadPath act) := by
  intro p payload s
  unfold loadPath
  split
  · exact .refl s
  split
  · exact .refl s
  split
  · exact s.discardStaging_leads
  · exact acts _ s

theorem handleLoadPath_leads : Handler.Leads handleLoadPath := by
  intro p payload s
  unfold handleLoadPath
  have malformed : Handler.Leads (loadPath fun _ s => loadAnswer s.discardStaging .badArg []) :=
    loadPath_leads fun _ s => s.discardStaging_leads
  split
  · split
    · exact loadPath_leads loadFirst_leads ..
    · exact loadPath_leads loadMiddle_leads ..
    · exact loadPath_leads loadLast_leads ..
    · exact loadPath_leads loadOnly_leads ..
    · exact malformed ..
  · exact malformed ..

theorem handleFlushPath_leads : Handler.Leads handleFlushPath := by
  intro p payload s
  unfold handleFlushPath
  split
  · exact .refl s
  split
  · exact .refl s
  · exact s.flush_leads

/-! ## Requests that are answered from the state as it is -/

theorem handleStatus_leads : Handler.Leads handleStatus := by
  intro p payload s
  unfold handleStatus
  split <;> exact .refl s

theorem handleReadEvents_leads : Handler.Leads handleReadEvents := by
  intro p payload s
  unfold handleReadEvents
  split
  · exact .refl s
  · exact .of rfl rfl rfl rfl

theorem handleGetParam_leads : Handler.Leads handleGetParam := by
  intro p payload s
  unfold handleGetParam
  split
  · split <;> exact .refl s
  · exact .refl s

theorem handleReadResult_leads : Handler.Leads handleReadResult := by
  intro p payload s
  unfold handleReadResult
  split
  · exact .refl s
  · split <;> exact .refl s

theorem handleCommitCal_leads : Handler.Leads handleCommitCal := by
  intro p payload s
  unfold handleCommitCal
  split
  · exact .refl s
  split
  · exact .refl s
  · exact .of rfl rfl rfl rfl

/-! ## The authority unit and the input unit -/

theorem State.grant_feeds (p : Port) (s : State) : Feeds s (s.grant p) := .of rfl rfl rfl

theorem State.grantFree_leads (p : Port) (s : State) : Leads s (s.grantFree p) :=
  (((s.grant_feeds p).trans (State.announce_sparing _).feeds).trans (State.credit_feeds _ _)).settle

theorem State.preempt_leads (p : Port) (s : State) : Leads s (s.preempt p) :=
  ((((State.dropHold_sparing .preempted s).trans (State.announce_sparing _)).feeds.trans (State.grant_feeds p _)).trans
    (State.announce_sparing _).feeds).settle

theorem handleTakeHold_leads : Handler.Leads handleTakeHold := by
  intro p payload s
  unfold handleTakeHold
  split
  · exact .refl s
  split
  · exact .refl s
  split
  · exact .refl s
  split
  · exact s.grantFree_leads p
  split
  · exact s.preempt_leads p
  · exact .refl s

theorem handleDropHold_leads : Handler.Leads handleDropHold := by
  intro p payload s
  unfold handleDropHold
  split
  · exact .refl s
  split
  · exact .refl s
  · exact (State.endHold_entering .dropped s).settle

theorem handleClearTrip_leads : Handler.Leads handleClearTrip := by
  intro p payload s
  unfold handleClearTrip
  split
  · exact .refl s
  split
  · unfold State.clearTrips
    exact .ite _ (.refl s) (Feeds.settle (.of rfl rfl rfl))
  · exact .refl s

/-! ## The latch controller -/

theorem State.demandItem_sparing (p : Port) (i : DemandItem) (s : State) : Sparing s (s.demandItem p i) := by
  have item : Sparing s (s.setLatchUnit (s.latch.setItem p i)) :=
    State.setLatchUnit_sparing _ s (by cases p <;> rfl) (LatchUnit.setItem_clock s p i)
  exact .ite _ (item.trans (State.endPermit_sparing _ _)) item

theorem State.lockRequest_sparing (s : State) : Sparing s s.lockRequest := .ite _ (State.beginEngage_sparing .own s) (.refl s)

theorem demandNone_leads (p : Port) (s : State) : Leads s (demandNone p s).1 := (State.demandItem_sparing p .none s).settle

theorem demandLock_leads (p : Port) (s : State) : Leads s (demandLock p s).1 :=
  ((State.demandItem_sparing p .lock s).trans (State.lockRequest_sparing _)).settle

theorem demandPermit_leads (p : Port) (s : State) : Leads s (demandPermit p s).1 := by
  unfold demandPermit
  split
  · exact .refl s
  split
  · exact .refl s
  · exact (State.demandItem_sparing p .permit s).settle

theorem demandRow_leads {act : Port → State → State × Answer} (acts : ∀ p s, Leads s (act p s).1) : Handler.Leads (demandRow act) := by
  intro p payload s
  unfold demandRow
  split
  · exact .refl s
  · exact acts p s

theorem handleLockDemand_leads : Handler.Leads handleLockDemand := by
  intro p payload s
  unfold handleLockDemand
  split
  · split
    · exact demandNone_leads p s
    · exact demandLock_leads p s
    · exact demandPermit_leads p s
    · exact .refl s
  · exact .refl s

/-- PARK is carried out in ENGAGED only. -/
theorem handlePark_leads : Handler.Leads handlePark := by
  intro p payload s
  unfold handlePark
  split
  · exact .refl s
  split
  next parks =>
    have engaged : s.latch.state = .engaged := by
      simp only [State.parkable, Bool.and_eq_true, decide_eq_true_eq] at parks
      obtain ⟨⟨⟨⟨-, engaged⟩, -⟩, -⟩, -⟩ := parks
      exact engaged
    exact ⟨.of rfl rfl rfl, fun _ _ preload => nomatch engaged.symm.trans preload⟩
  next => exact .refl s

/-! ## The axes and their sessions -/

theorem State.enableAxis_feeds (x : Axis) (s : State) : Feeds s (s.enableAxis x) := by
  unfold State.enableAxis
  dsimp only
  split
  · exact (State.setAxis_feeds x _ s).trans (State.seedSetpoint_feeds x _)
  · exact .refl s
  · exact State.setAxis_feeds x _ s
  · exact State.setAxis_feeds x _ s

theorem handleEnable_leads : Handler.Leads handleEnable := by
  intro p payload s
  unfold handleEnable
  split
  · exact .refl s
  split
  · exact .refl s
  · exact ((s.enableAxis_feeds .tilt).trans (State.enableAxis_feeds .steer _)).settle

theorem State.axesOff_feeds (s : State) : Feeds s s.axesOff := .of rfl rfl rfl

theorem State.seedAll_feeds (s : State) : Feeds s s.seedAll := .of rfl rfl rfl

theorem State.softRestart_leads (s : State) : Leads s s.softRestart := by
  have ended := (State.endHold_entering .restart s).trans (State.abortSession_sparing _).entering
  exact (((ended.feeds.trans (State.axesOff_feeds _)).trans (State.seedAll_feeds _)).trans (State.logEvent_leads .startSoft _).toFeeds).settle

theorem handleSoftRestart_leads : Handler.Leads handleSoftRestart := by
  intro p payload s
  unfold handleSoftRestart
  split
  · exact .refl s
  split
  · exact .refl s
  · exact s.softRestart_leads

theorem State.startRoutine_feeds (x : Axis) (k : RoutineKind) (s : State) : Feeds s (s.startRoutine x k) :=
  (State.setAxis_feeds x _ s).trans (State.beginPhase_sparing _ _ _).feeds

theorem handleStartRoutine_leads : Handler.Leads handleStartRoutine := by
  intro p payload s
  unfold handleStartRoutine
  split
  · exact .refl s
  split
  · exact .refl s
  split
  · exact .refl s
  split
  · exact .refl s
  · exact (State.startRoutine_feeds _ _ s).settle

theorem State.startService_feeds (x : Axis) (s : State) : Feeds s (s.startService x) :=
  (State.setAxis_feeds x _ s).trans (State.setSlot_leads _ _).toFeeds

theorem handleEnterService_leads : Handler.Leads handleEnterService := by
  intro p payload s
  unfold handleEnterService
  split
  · exact .refl s
  split
  · exact .refl s
  split
  · exact .refl s
  split
  · exact .refl s
  · exact (State.startService_feeds _ s).settle

theorem handleSuspendRoutine_leads : Handler.Leads handleSuspendRoutine := by
  intro p payload s
  unfold handleSuspendRoutine
  split
  · exact .refl s
  split
  · exact .refl s
  split
  · exact .refl s
  split
  · exact .refl s
  · exact s.suspend_leads _

theorem handleResumeRoutine_leads : Handler.Leads handleResumeRoutine := by
  intro p payload s
  unfold handleResumeRoutine
  split
  · exact .refl s
  split
  · exact .refl s
  split
  · exact .refl s
  split
  · exact ((State.logEvent_sparing _ s).trans (State.beginPhase_sparing _ _ _)).settle
  · exact .refl s

theorem handleAbortRoutine_leads : Handler.Leads handleAbortRoutine := by
  intro p payload s
  unfold handleAbortRoutine
  split
  · exact .refl s
  split
  · exact .refl s
  split
  · exact .refl s
  · exact (State.finishRoutine_sparing ..).settle

theorem handleServiceDrive_leads : Handler.Leads handleServiceDrive := by
  intro p payload s
  unfold handleServiceDrive
  split
  · split
    · exact .refl s
    split
    · exact .refl s
    · exact (State.setSlot_leads _ s).trans (State.setDrive_leads _ _ _)
  · exact .refl s

theorem handleLeaveService_leads : Handler.Leads handleLeaveService := by
  intro p payload s
  unfold handleLeaveService
  split
  · exact .refl s
  split
  · exact .refl s
  split
  · exact .refl s
  · exact (State.finishService_sparing _ s).settle

/-! ## The working set -/

theorem State.evaluateLine_feeds (p : Port) (s : State) : Feeds s (s.evaluateLine p) := .of rfl rfl rfl

theorem State.clearStored_feeds (i : CombinerId) (s : State) : Feeds s (s.clearStored i) := .of rfl rfl rfl

theorem State.clearTripUnit_feeds (u : TripUnit) (s : State) : Feeds s (s.clearTripUnit u) := .of rfl rfl rfl

theorem State.writeEffect_feeds (name : ParamName) (demand : Bool) (s : State) : Feeds s (s.writeEffect name demand) := by
  unfold State.writeEffect
  split
  · exact .of rfl rfl rfl
  · exact .refl s
  · exact s.evaluateLine_feeds .a
  · exact s.evaluateLine_feeds .b
  · exact .refl s
  · exact .refl s
  · exact (s.clearStored_feeds _).trans (State.evaluateInputs_entering ..).feeds
  · exact (s.clearTripUnit_feeds _).trans (State.evaluateTripUnit_entering ..).feeds

/-- A write may bring V_REL to the speed. -/
theorem handleSetParam_admits : Handler.Admits handleSetParam := by
  intro p payload s
  unfold handleSetParam
  split
  · exact (Leads.refl s).admits
  split
  · exact (Leads.refl s).admits
  next name _ _ new _ =>
    unfold setChecked
    split
    · exact (Leads.refl s).admits
    split
    · exact (Leads.refl s).admits
    split
    · exact (Leads.refl s).admits
    · exact (Feeds.refl s).turn (v := s.setParams new) rfl rfl (State.writeEffect_feeds ..)

theorem State.zeroTravel_feeds (s : State) : Feeds s s.zeroTravel := .of rfl rfl rfl

theorem State.load_feeds (p : Params) (s : State) : Feeds (s.setParams p.loaded) (s.load p) := by
  unfold State.load
  refine .trans ?_ (State.evaluateLine_feeds .b _)
  refine .trans ?_ (State.evaluateLine_feeds .a _)
  refine .trans ?_ (State.evaluateInputs_entering ..).feeds
  refine .trans ?_ (State.clearTripUnit_feeds .t2 _)
  refine .trans ?_ (State.clearTripUnit_feeds .t1 _)
  refine .trans ?_ (State.clearStored_feeds .c2 _)
  refine .trans ?_ (State.clearStored_feeds .c1 _)
  exact (State.zeroTravel_feeds _).trans (State.clearStored_feeds .c0 _)

theorem handleRestoreCal_admits : Handler.Admits handleRestoreCal := by
  intro p payload s
  unfold handleRestoreCal
  split
  · exact (Leads.refl s).admits
  split
  · exact (Leads.refl s).admits
  split
  · exact (Leads.refl s).admits
  split
  · exact (Leads.refl s).admits
  · exact Feeds.turn (u := s.setStore { s.store with source := .factory })
      (v := (s.setStore { s.store with source := .factory }).setParams s.store.factory.set.loaded) (.of rfl rfl rfl) rfl rfl (State.load_feeds ..)

theorem handlerOf_admits (kind : Nat) : (handlerOf kind).2.Admits := by
  unfold handlerOf
  split
  · exact handleStatus_leads.admits
  · exact handleReadEvents_leads.admits
  · exact handleGetParam_leads.admits
  · exact handleSetParam_admits
  · exact handleEnable_leads.admits
  · exact handleSoftRestart_leads.admits
  · exact handlePark_leads.admits
  · exact handleClearTrip_leads.admits
  · exact handleLockDemand_leads.admits
  · exact handleTakeHold_leads.admits
  · exact handleDropHold_leads.admits
  · exact handleLoadPath_leads.admits
  · exact handleFlushPath_leads.admits
  · exact handleStartRoutine_leads.admits
  · exact handleSuspendRoutine_leads.admits
  · exact handleResumeRoutine_leads.admits
  · exact handleAbortRoutine_leads.admits
  · exact handleReadResult_leads.admits
  · exact handleEnterService_leads.admits
  · exact handleServiceDrive_leads.admits
  · exact handleLeaveService_leads.admits
  · exact handleCommitCal_leads.admits
  · exact handleRestoreCal_admits
  · exact fun _ _ s => (Leads.refl s).admits

/-! ## A request -/

theorem State.deliver_admits (kind : Byte) (wakes : Bool) (f : Frame) {h : Handler} (acts : h.Admits) (s : State) :
    Admits s (s.deliver kind wakes f h) := by
  have hunted := s.rxHunt_leads f.port
  unfold State.deliver
  dsimp only
  split
  · exact (hunted.trans (State.logEvent_leads _ _)).admits
  · have woken : Leads s (if wakes = true then ((s.rxHunt f.port).refresh f.port).wake .link
        else (s.rxHunt f.port).refresh f.port) :=
      (hunted.trans (State.refresh_leads f.port _)).trans (.ite _ (State.wake_leads .link _) (.refl _))
    exact (woken.trans_admits (acts f.port f.payload _)).trans_leads (State.setPort_leads f.port _ _)

theorem State.request_admits (dt : Nat) (kind : Byte) (wakes : Bool) (f : Frame) {h : Handler} (acts : h.Admits) (s : State) :
    Admits s (s.request dt kind wakes f h) :=  by
  have advanced := s.advance_leads dt
  unfold State.request
  split
  · exact (advanced.trans (State.rxHunt_leads f.port _)).admits
  · exact advanced.trans_admits (State.deliver_admits kind wakes f acts _)

end Sys2Proof.Machine
end

section
/-! PROOFS. What each other command does towards RELEASE_PRELOAD, and R116's sentence on entries. -/

namespace Sys2Proof.Machine

/-- A command is carried out, and leads at most to an entry at the speed of R116. -/
def Admitted (s : State) (o : Host.Outcome State Fault Refusal) : Prop := ∃ t, o = .next t ∧ Admits s t

theorem Admits.admitted {s t : State} (h : Admits s t) : Admitted s (.next t) := ⟨t, rfl, h⟩

theorem Leads.admitted {s t : State} (h : Leads s t) : Admitted s (.next t) := h.admits.admitted

theorem Admitted.idle (s : State) : Admitted s (.next s) := (Leads.refl s).admitted

theorem Admitted.ite {s : State} {a b : Host.Outcome State Fault Refusal} (q : Prop) [Decidable q] (h : Admitted s a)
    (k : Admitted s b) : Admitted s (if q then a else b) := by split <;> assumption

/-! ## The speed unit (R7 to R16) -/

theorem State.setSpeed_feeds (u : SpeedUnit) (s : State) (estimate : u.estimate = s.speed.estimate) (v : u.v = s.speed.v) :
    Feeds s (s.setSpeed u) := by
  refine .of ?_ rfl rfl
  show (decide (u.estimate = .good) && decide (s.params.vRel ≤ (u.v : Int))) = _
  rw [estimate, v]
  rfl

theorem State.logOdd_feeds (w : Wheel) (old new : Bool) (s : State) : Feeds s (s.logOdd w old new) :=
  .ite _ (.of rfl rfl rfl) (.refl s)

theorem State.logRecomputed_feeds (old new : SpeedUnit) (s : State) : Feeds s (s.logRecomputed old new) := by
  unfold State.logRecomputed
  dsimp only
  have logs (q : Prop) [Decidable q] (e : Event) (v : State) : Feeds v (if q then v.logEvent e else v) :=
    .ite q (State.logEvent_leads e v).toFeeds (.refl v)
  refine .trans (.trans (.trans (.trans ?_ (State.logOdd_feeds ..)) (State.logOdd_feeds ..)) (logs ..)) (logs ..)
  exact State.logOdd_feeds ..

/-- After a new estimate is in place nothing of the recomputation bears on the speed of R116. -/
theorem State.recompute_feeds (s : State) : Feeds (s.setSpeed (s.speed.recomputed s.now)) s.recompute := by
  unfold State.recompute
  dsimp only
  refine .trans (.trans (.trans (State.logRecomputed_feeds ..) (.ite _ (State.setPath_leads _ _).toFeeds (.refl _))) (State.handOn_feeds _))
    (.ite _ (.trans ?_ (State.credit_feeds ..)) (.refl _))
  exact State.setSpeed_feeds _ _ rfl rfl

theorem State.suspendIfMoving_feeds (s : State) : Feeds s s.suspendIfMoving := by
  unfold State.suspendIfMoving
  split
  · exact .ite _ (State.suspend_leads _ s).toFeeds (.refl s)
  all_goals exact .refl s

theorem SpeedUnit.setWheel_estimate (u : SpeedUnit) (w : Wheel) (r : WheelRec) :
    (u.setWheel w r).estimate = u.estimate ∧ (u.setWheel w r).v = u.v := by cases w <;> exact ⟨rfl, rfl⟩

/-- A wheel record, and what follows up to the settling, after a stretch that keeps the speed of R116. -/
theorem Feeds.putWheel {s u : State} (h : Feeds s u) (w : Wheel) (r : WheelRec) {f : State → State} (after : ∀ v, Feeds v (f v)) :
    Admits s (f (u.putWheel w r)).settle := by
  obtain ⟨estimate, v⟩ := u.speed.setWheel_estimate w r
  have put : Feeds s (u.setSpeed (u.speed.setWheel w r)) := h.trans (State.setSpeed_feeds _ u estimate v)
  unfold State.putWheel
  dsimp only
  generalize u.setSpeed (u.speed.setWheel w r) = x at put ⊢
  split
  · exact put.turn (v := x.setSpeed (x.speed.recomputed x.now)) rfl rfl (x.recompute_feeds.trans (after _))
  · exact (put.trans (after _)).settle.admits

theorem State.addTravel_feeds (w : Wheel) (s : State) : Feeds s (s.addTravel w) := by
  unfold State.addTravel
  dsimp only
  split
  · refine .trans ?_ (State.credit_feeds _ _)
    exact State.setSpeed_feeds _ s rfl rfl
  · exact State.setSpeed_feeds _ s rfl rfl

theorem State.acceptEdge_admits (w : Wheel) (s : State) : Admits s (s.acceptEdge w) := by
  have woken : Feeds s s.wheelWake := (Leads.ite _ (State.wake_leads .wheel s) (.refl s)).toFeeds
  have travelled : Feeds s (if s.wheelWake.speed.source.isWheel w then s.wheelWake.addTravel w else s.wheelWake) :=
    .ite _ (woken.trans (State.addTravel_feeds w _)) woken
  exact travelled.putWheel w _ State.suspendIfMoving_feeds

theorem execWheelEdge_admitted (dt : Nat) (w : Wheel) (s : State) : Admitted (s.advance dt) (execWheelEdge dt w s) :=
  .ite _ (.idle _) (State.acceptEdge_admits w _).admitted

theorem execDecayStep_admitted (dt : Nat) (w : Wheel) (s : State) : Admitted (s.advance dt) (execDecayStep dt w s) :=
  .ite _ ((Feeds.refl _).putWheel w _ State.suspendIfMoving_feeds).admitted (.idle _)

theorem execStallExpiry_admitted (dt : Nat) (w : Wheel) (s : State) : Admitted (s.advance dt) (execStallExpiry dt w s) :=
  .ite _ ((Feeds.refl _).putWheel (f := id) w _ Feeds.refl).admitted (.idle _)

theorem execSuspectTimerExpiry_admitted (dt : Nat) (s : State) : Admitted (s.advance dt) (execSuspectTimerExpiry dt s) :=
  .ite _ ((State.setSpeed_feeds { s.speed with suspectSince := none } (s.advance dt) rfl rfl).trans
    (State.fireTrip_entering .speed .degrade _).feeds).settle.admitted (.idle _)

/-! ## The solve, the path unit and the authority unit -/

theorem execSolvePeriod_admitted (dt : Nat) (s : State) : Admitted (s.advance dt) (execSolvePeriod dt s) := by
  refine .ite _ ?_ (.idle _)
  exact Leads.admitted (Feeds.settle (.of rfl rfl rfl))

theorem execOverspeedExpiry_admitted (dt : Nat) (s : State) : Admitted (s.advance dt) (execOverspeedExpiry dt s) :=
  .ite _ (State.endHold_entering .overspeed _).settle.admitted (.idle _)

theorem execSilenceExpiry_admitted (dt : Nat) (s : State) : Admitted (s.advance dt) (execSilenceExpiry dt s) :=
  .ite _ (State.endHold_entering .silent _).settle.admitted (.idle _)

theorem execTakeoverExpiry_admitted (dt : Nat) (s : State) : Admitted (s.advance dt) (execTakeoverExpiry dt s) :=
  .ite _ (State.endHold_entering .takeover _).settle.admitted (.idle _)

theorem State.handlebarSampled_leads (reading : Int) (s : State) : Leads s (s.handlebarSampled reading) :=
  .trans (t := s.setPins { s.pins with handlebar := reading }) (.of rfl rfl rfl rfl) (.ite _ (.of rfl rfl rfl rfl) (.of rfl rfl rfl rfl))

theorem State.setAuth_feeds (u : AuthorityUnit) (s : State) : Feeds s (s.setAuth u) := .of rfl rfl rfl

theorem execHandlebarDropoutExpiry_admitted (dt : Nat) (s : State) :
    Admitted (s.advance dt) (execHandlebarDropoutExpiry dt s) :=
  .ite _ ((State.setAuth_feeds _ _).trans (State.fireTrip_entering .handlebar .degrade _).feeds).settle.admitted (.idle _)

/-! ## The axes and their sessions -/

theorem State.rampSample_feeds (r : Routine) (sign : Int) (s : State) : Feeds s (s.rampSample r sign) := by
  unfold State.rampSample
  dsimp only
  split
  · exact (State.setDrive_leads _ _ s).toFeeds
  · exact .ite _ ((State.setSlot_leads _ s).trans (State.setDrive_leads _ _ _)).toFeeds (State.setDrive_leads _ _ s).toFeeds

theorem State.pushSample_feeds (r : Routine) (sign : Int) (s : State) : Feeds s (s.pushSample r sign) := by
  unfold State.pushSample
  exact .ite _ ((State.setSlot_sparing _ s).trans (State.finishRoutine_sparing ..)).feeds
    ((State.setSlot_leads _ s).trans (State.setDrive_leads _ _ _)).toFeeds

theorem State.phaseSample_feeds (r : Routine) (s : State) : Feeds s (s.phaseSample r) := by
  have held := (State.setDrive_leads r.axis (loopDrive s.params r.axis (r.target - (s.axis r.axis).meas)) s).toFeeds
  unfold State.phaseSample
  dsimp only
  cases r.phase
  case release => exact held
  case engage => exact held
  case sweepLeft => exact ((State.setSlot_leads _ s).trans (State.setDrive_leads _ _ _)).toFeeds
  case sweepRight => exact ((State.setSlot_leads _ s).trans (State.setDrive_leads _ _ _)).toFeeds
  case centre => exact .ite _ (held.trans (State.completePhase_sparing _ _).feeds) held
  case rampLeft => exact State.rampSample_feeds r 1 s
  case rampRight => exact State.rampSample_feeds r (-1) s
  case pushLeft => exact State.pushSample_feeds r 1 s
  case pushRight => exact State.pushSample_feeds r (-1) s

theorem State.routineSample_feeds (r : Routine) (s : State) : Feeds s (s.routineSample r) := by
  unfold State.routineSample
  split
  · exact (State.setDrive_leads _ _ s).toFeeds
  · exact State.phaseSample_feeds r s

theorem State.modeSample_feeds (x : Axis) (s : State) : Feeds s (s.modeSample x) := by
  unfold State.modeSample
  split
  · exact State.setAxis_feeds x _ s
  · exact .ite _ (State.setAxis_feeds x _ s) (State.setAxis_feeds x _ s)
  · split
    · exact .ite _ (State.routineSample_feeds _ s) (.refl s)
    all_goals exact .refl s
  · split
    · exact .ite _ (State.setDrive_leads _ _ s).toFeeds (.refl s)
    all_goals exact .refl s

theorem State.invalidSample_feeds (x : Axis) (s : State) : Feeds s (s.invalidSample x) := by
  unfold State.invalidSample
  exact .ite _ ((State.setAxis_feeds x _ s).trans (State.fireTrip_entering ..).feeds) (State.setAxis_feeds x _ s)

theorem State.setPins_leads (x : Pins) (s : State) : Leads s (s.setPins x) := .of rfl rfl rfl rfl

theorem execAxisSample_admitted (dt : Nat) (x : Axis) (reading : Int) (s : State) :
    Admitted (s.advance dt) (execAxisSample dt x reading s) := by
  have pin := (State.setPins_leads ((s.advance dt).pins.setAngle x reading) (s.advance dt)).toFeeds
  have valid (v : State) : Feeds v (v.validSample x reading) := (State.setAxis_feeds x _ v).trans (State.modeSample_feeds x _)
  exact .ite _ (pin.trans (valid _)).settle.admitted (pin.trans (State.invalidSample_feeds x _)).settle.admitted

theorem execTrackingExpiry_admitted (dt : Nat) (x : Axis) (s : State) : Admitted (s.advance dt) (execTrackingExpiry dt x s) :=
  .ite _ ((State.setAxis_feeds x _ _).trans (State.fireTrip_entering ..).feeds).settle.admitted (.idle _)

theorem execSweepStopFound_admitted (dt : Nat) (s : State) : Admitted (s.advance dt) (execSweepStopFound dt s) := by
  unfold execSweepStopFound
  dsimp only
  split
  · exact .idle _
  · exact ((State.setDrive_sparing _ _ _).trans (State.completePhase_sparing _ _)).settle.admitted

theorem execPhaseTimeout_admitted (dt : Nat) (s : State) : Admitted (s.advance dt) (execPhaseTimeout dt s) := by
  unfold execPhaseTimeout
  dsimp only
  split
  · exact .idle _
  · exact (State.finishRoutine_sparing ..).settle.admitted

theorem State.stepRamp_sparing (r : Routine) (s : State) : Sparing s (s.stepRamp r) := by
  unfold State.stepRamp
  exact .ite _ ((State.setDrive_sparing _ _ s).trans (State.completePhase_sparing _ _))
    (.ite _ (State.finishRoutine_sparing ..) ((State.setSlot_sparing _ s).trans (State.setDrive_sparing _ _ _)))

theorem execRampStep_admitted (dt : Nat) (s : State) : Admitted (s.advance dt) (execRampStep dt s) := by
  unfold execRampStep
  dsimp only
  split
  · exact .idle _
  · exact (State.stepRamp_sparing _ _).settle.admitted

theorem execPushPhaseEnd_admitted (dt : Nat) (s : State) : Admitted (s.advance dt) (execPushPhaseEnd dt s) := by
  unfold execPushPhaseEnd
  dsimp only
  split
  · exact .idle _
  · exact ((State.setDrive_sparing _ _ _).trans (State.completePhase_sparing _ _)).settle.admitted

theorem execServiceDriveExpiry_admitted (dt : Nat) (s : State) : Admitted (s.advance dt) (execServiceDriveExpiry dt s) := by
  unfold execServiceDriveExpiry
  dsimp only
  split
  · exact .idle _
  · exact ((State.setSlot_leads _ _).trans (State.setDrive_leads _ _ _)).admitted

/-! ## The latch controller -/

theorem State.edgeInSet_sparing (x : AttemptSet) (s : State) : Sparing s (s.edgeInSet x) := by
  have late := (State.succeedSet_sparing x.direction s).trans (State.logEvent_sparing (.lockLate x.direction.reached) _)
  unfold State.edgeInSet
  split
  · exact .refl s
  · exact State.succeedSet_sparing ..
  · exact late
  · exact late

theorem State.slip_sparing (s : State) : Sparing s s.slip := by
  have slipped := ((State.setLatchUnit_sparing { s.latch with preloadEnd := none } s).trans
    (State.setLatch_sparing .unlatchedFault _ (by decide))).trans (State.logEvent_sparing (.lockFault .slip) _)
  unfold State.slip
  dsimp only
  split
  · exact .ite _ (slipped.trans (State.finishRoutine_sparing ..)) slipped
  all_goals exact slipped

theorem State.confirmOpened_sparing (s : State) : Sparing s s.confirmOpened := by
  have late := (State.setLatch_sparing .released s (by decide)).trans (State.logEvent_sparing (.lockLate .released) _)
  unfold State.confirmOpened
  split
  · exact .ite _ (.refl s) s.slip_sparing
  · exact .ite _ (.refl s) s.slip_sparing
  · exact .ite _ late (.ite _ (.refl s) s.slip_sparing)
  all_goals exact .refl s

theorem State.confirmClosed_sparing (s : State) : Sparing s s.confirmClosed := by
  have engaged := State.setLatch_sparing .engaged s (by decide)
  unfold State.confirmClosed
  split
  · exact .ite _ (.refl s) ((engaged.trans (State.logEvent_sparing _ _)).trans (State.setLatchUnit_sparing _ _))
  · exact .ite _ (engaged.trans (State.logEvent_sparing _ _)) engaged
  all_goals exact .refl s

theorem State.confirmChanged_feeds (closed : Bool) (s : State) : Feeds s (s.confirmChanged closed) := by
  have taken : Feeds s (s.edged closed) := .of rfl rfl rfl
  unfold State.confirmChanged
  dsimp only
  split
  · exact .ite _ (taken.trans (State.edgeInSet_sparing _ _).feeds) taken
  · exact .ite _ (taken.trans (State.confirmClosed_sparing _).feeds) (taken.trans (State.confirmOpened_sparing _).feeds)

theorem State.confirmSample_leads (closed : Bool) (s : State) : Leads s (s.confirmSample closed) := by
  unfold State.confirmSample
  refine .ite _ (.of rfl rfl rfl rfl) ?_
  split
  · exact .of rfl rfl rfl rfl
  · exact .ite _ (State.confirmChanged_feeds closed s).settle (.refl s)

theorem State.setConfirmPin_leads (closed : Bool) (s : State) : Leads s (s.setConfirmPin closed) := .of rfl rfl rfl rfl

theorem execConfirmEdge_admitted (dt : Nat) (closed : Bool) (s : State) :
    Admitted (s.advance dt) (execConfirmEdge dt closed s) := by
  have pin := State.setConfirmPin_leads closed (s.advance dt)
  exact .ite _ pin.admitted (pin.trans (State.confirmSample_leads closed _)).admitted

theorem execPreloadExpiry_admitted (dt : Nat) (s : State) : Admitted (s.advance dt) (execPreloadExpiry dt s) :=
  .ite _ (State.endPreload_sparing _).settle.admitted (.idle _)

theorem State.pulseOver_sparing (s : State) : Sparing s s.pulseOver := by
  have free := State.setLatchUnit_sparing { s.latch with pulse := none } s
  unfold State.pulseOver
  dsimp only
  split
  · exact free
  · split
    · exact free.trans (State.openWindow_sparing _ _)
    · exact free.trans (State.setSet_sparing _ _)
    · exact free
    · exact free

theorem execPullinEnd_admitted (dt : Nat) (s : State) : Admitted (s.advance dt) (execPullinEnd dt s) := by
  unfold execPullinEnd
  dsimp only
  split
  · exact .idle _
  · refine .ite _ (State.pulseOver_sparing _).settle.admitted ?_
    exact Leads.admitted (.of rfl rfl rfl rfl)

theorem execPulseEnd_admitted (dt : Nat) (s : State) : Admitted (s.advance dt) (execPulseEnd dt s) := by
  unfold execPulseEnd
  dsimp only
  split
  · exact .idle _
  · exact (State.pulseOver_sparing _).settle.admitted

theorem State.windowFailed_sparing (x : AttemptSet) (s : State) : Sparing s (s.windowFailed x) :=
  .ite _ (State.failSet_sparing x s) (.ite _ (State.setSet_sparing _ s) (State.setSet_sparing _ s))

theorem execConfirmWindowClose_admitted (dt : Nat) (s : State) : Admitted (s.advance dt) (execConfirmWindowClose dt s) := by
  unfold execConfirmWindowClose
  dsimp only
  split
  · exact .idle _
  · exact (State.windowFailed_sparing _ _).settle.admitted

theorem State.pauseOver_sparing (x : AttemptSet) (s : State) : Sparing s (s.pauseOver x) :=
  .ite _ ((State.setSet_sparing none s).trans (State.setLatch_sparing .engaged _ (by decide))) (State.startAttempt_sparing _ s)

theorem execAttemptPauseEnd_admitted (dt : Nat) (s : State) : Admitted (s.advance dt) (execAttemptPauseEnd dt s) := by
  unfold execAttemptPauseEnd
  dsimp only
  split
  · exact .idle _
  · exact (State.pauseOver_sparing _ _).settle.admitted

theorem execKeyOffExpiry_admitted (dt : Nat) (s : State) : Admitted (s.advance dt) (execKeyOffExpiry dt s) := by
  refine .ite _ ?_ (.idle _)
  exact Leads.admitted (.of rfl rfl rfl rfl)

/-! ## The input unit -/

theorem State.setSwitch_leads (i : Input) (r : SwitchRec) (s : State) : Leads s (s.setInputs (s.inputs.setSwitch i r)) := by
  cases i <;> exact .of rfl rfl rfl rfl

theorem State.keyChanged_feeds (active : Bool) (s : State) : Feeds s (s.setLatchUnit (s.latch.keyChanged active s.now)) := by
  unfold LatchUnit.keyChanged
  split <;> exact .of rfl rfl rfl

theorem State.reportInput_feeds (i : Input) (active : Bool) (s : State) : Feeds s (s.reportInput i active) := by
  have wakes (src : WakeSource) (bit : Bool) (v : State) : Feeds v (if bit then v.wake src else v) :=
    .ite _ (State.wake_leads src v).toFeeds (.refl v)
  unfold State.reportInput
  split
  · exact (s.keyChanged_feeds active).trans (wakes ..)
  · exact Feeds.trans (.ite _ (.refl s) ((State.endPermit_sparing .a s).trans (State.endPermit_sparing .b _)).feeds) (wakes ..)
  all_goals exact wakes ..

theorem State.inputChanged_leads (i : Input) (level : Bool) (s : State) : Leads s (s.inputChanged i level) := by
  unfold State.inputChanged
  dsimp only
  exact ((((s.setSwitch_leads i _).trans (.ite _ (State.logEvent_leads _ _) (.refl _))).toFeeds.trans
    (State.handOn_feeds _)).trans (State.reportInput_feeds i level _)).settle

theorem State.switchSample_leads (i : Input) (level : Bool) (s : State) : Leads s (s.switchSample i level) :=
  .ite _ (s.setSwitch_leads i _) (.ite _ (s.inputChanged_leads i level) (s.setSwitch_leads i _))

theorem execInputChange_admitted (dt : Nat) (i : Input) (level : Bool) (s : State) :
    Admitted (s.advance dt) (execInputChange dt i level s) :=
  ((State.setPins_leads _ _).trans (State.switchSample_leads i level _)).admitted

theorem State.fireTripUnit_feeds (u : TripUnit) (s : State) : Feeds s (s.fireTripUnit u) :=
  Feeds.trans (t := s.setInputs (s.inputs.setTripUnit u { s.inputs.tripUnit u with fired := true })) (.of rfl rfl rfl)
    (State.fireTrip_entering ..).feeds

theorem execTripUnitExpiry_admitted (dt : Nat) (u : TripUnit) (s : State) :
    Admitted (s.advance dt) (execTripUnitExpiry dt u s) :=
  .ite _ (State.fireTripUnit_feeds u _).settle.admitted (.idle _)

/-! ## The log, the ports and the store -/

theorem execRearmGapEnd_admitted (dt : Nat) (line : Port) (s : State) :
    Admitted (s.advance dt) (execRearmGapEnd dt line s) := by
  refine .ite _ ?_ (.idle _)
  exact Leads.admitted (.of rfl rfl rfl rfl)

theorem execFrameAbandon_admitted (dt : Nat) (p : Port) (cause : AbandonCause) (s : State) :
    Admitted (s.advance dt) (execFrameAbandon dt p cause s) := .ite _ (State.rxHunt_leads p _).admitted (.idle _)

theorem execFrameGapTimeout_admitted (dt : Nat) (p : Port) (s : State) :
    Admitted (s.advance dt) (execFrameGapTimeout dt p s) := .ite _ (State.rxHunt_leads p _).admitted (.idle _)

theorem execPortOverrun_admitted (dt : Nat) (p : Port) (s : State) : Admitted (s.advance dt) (execPortOverrun dt p s) :=
  .ite _ ((State.rxHunt_leads p _).trans (State.logEvent_leads _ _)).admitted (.idle _)

theorem execReplySent_admitted (dt : Nat) (p : Port) (s : State) : Admitted (s.advance dt) (execReplySent dt p s) :=
  .ite _ (State.setPort_leads p _ _).admitted (.idle _)

theorem State.setStore_leads (c : CalStore) (s : State) : Leads s (s.setStore c) := .of rfl rfl rfl rfl

theorem execStoreDone_admitted (dt : Nat) (m : Bool) (s : State) : Admitted (s.advance dt) (execStoreDone dt m s) :=
  .ite _ (((State.setStore_leads _ _).trans (State.logEvent_leads (.storeDone m) _)).trans
    (State.setSlot_leads .free _)).admitted (.idle _)

theorem State.receiveCharacter_admits (p : Port) (c : Character) (s : State) : Admits s (s.receiveCharacter p c) := by
  have hunts := (s.rxHunt_leads p).admits
  have takes (r : PortRec) := (s.setPort_leads p r).admits
  unfold State.receiveCharacter
  split
  · unfold State.receive
    dsimp only
    split
    · exact takes _
    · split
      · exact takes _
      · exact hunts
    · exact takes _
    · split
      · unfold State.complete
        split
        · exact State.deliver_admits _ _ _ (handlerOf_admits _) s
        · exact hunts
      · exact hunts
  · exact hunts

theorem execReceivedCharacter_admitted (dt : Nat) (p : Port) (c : Character) (s : State) :
    Admitted (s.advance dt) (execReceivedCharacter dt p c s) :=
  .ite _ ((State.rxHunt_leads p _).trans_admits (State.receiveCharacter_admits p c _)).admitted
    (State.receiveCharacter_admits p c _).admitted

end Sys2Proof.Machine
end

section
/-! PROOFS. R116's sentence on entries, for every step. -/

namespace Sys2Proof.Machine

/-! ## Every command -/

theorem requestService_admits (c : Instr) : (requestService c).2.2.Admits := by
  cases c
  case loadPathFirst => exact (loadPath_leads loadFirst_leads).admits
  case loadPathMiddle => exact (loadPath_leads loadMiddle_leads).admits
  case loadPathLast => exact (loadPath_leads loadLast_leads).admits
  case loadPathOnly => exact (loadPath_leads loadOnly_leads).admits
  case lockDemandNone => exact (demandRow_leads demandNone_leads).admits
  case lockDemandLock => exact (demandRow_leads demandLock_leads).admits
  case lockDemandPermit => exact (demandRow_leads demandPermit_leads).admits
  case flushPath => exact handlerOf_admits 0x23
  case takeHold => exact handlerOf_admits 0x20
  case dropHold => exact handlerOf_admits 0x21
  case enable => exact handlerOf_admits 0x10
  case startRoutine => exact handlerOf_admits 0x30
  case suspendRoutine => exact handlerOf_admits 0x31
  case resumeRoutine => exact handlerOf_admits 0x32
  case abortRoutine => exact handlerOf_admits 0x33
  case readResult => exact handlerOf_admits 0x34
  case enterService => exact handlerOf_admits 0x38
  case serviceDrive => exact handlerOf_admits 0x39
  case leaveService => exact handlerOf_admits 0x3A
  case park => exact handlerOf_admits 0x12
  case clearTrip => exact handlerOf_admits 0x13
  case readEvents => exact handlerOf_admits 0x02
  case status => exact handlerOf_admits 0x01
  case getParam => exact handlerOf_admits 0x03
  case setParam => exact handlerOf_admits 0x04
  case softRestart => exact handlerOf_admits 0x11
  case commitCal => exact handlerOf_admits 0x40
  case restoreCal => exact handlerOf_admits 0x41
  case unknown dt kind f => exact handlerOf_admits kind.toNat
  all_goals exact handlerOf_admits 0

theorem exec_request_admitted {c : Instr} {f : Frame} (frame : c.frame? = some f) (s : State) : Admitted s (exec c s) := by
  obtain e | ⟨-, e⟩ := exec_request frame s
  · rw [e]
    exact (State.request_admits c.delay _ _ f (requestService_admits c) s).admitted
  · rw [e]
    exact ((s.advance_leads c.delay).trans (State.rxHunt_leads f.port _)).admitted

/-- Every command but the three that begin or end with the latch in ENGAGED or RELEASED by themselves. -/
theorem exec_admitted (c : Instr) (s : State) (reset : ∀ l b, c ≠ .fullReset l b) (debounce : ∀ dt b, c ≠ .firstConfirmDebounce dt b)
    (park : ∀ dt, c ≠ .autoPark dt) : Admitted (s.advance c.delay) (exec c s) ∨ Admitted s (exec c s) := by
  cases frame : c.frame? with
  | some f => exact .inr (exec_request_admitted frame s)
  | none =>
    refine .inl ?_
    cases c
    case fullReset l b => exact absurd rfl (reset l b)
    case firstConfirmDebounce dt b => exact absurd rfl (debounce dt b)
    case autoPark dt => exact absurd rfl (park dt)
    case wheelEdge => exact execWheelEdge_admitted ..
    case decayStep => exact execDecayStep_admitted ..
    case stallExpiry => exact execStallExpiry_admitted ..
    case suspectTimerExpiry => exact execSuspectTimerExpiry_admitted ..
    case solvePeriod => exact execSolvePeriod_admitted ..
    case overspeedExpiry => exact execOverspeedExpiry_admitted ..
    case silenceExpiry => exact execSilenceExpiry_admitted ..
    case handlebarSample dt reading => exact (State.handlebarSampled_leads reading (s.advance dt)).admitted
    case takeoverExpiry => exact execTakeoverExpiry_admitted ..
    case handlebarDropoutExpiry => exact execHandlebarDropoutExpiry_admitted ..
    case axisSample => exact execAxisSample_admitted ..
    case trackingExpiry => exact execTrackingExpiry_admitted ..
    case sweepStopFound => exact execSweepStopFound_admitted ..
    case phaseTimeout => exact execPhaseTimeout_admitted ..
    case rampStep => exact execRampStep_admitted ..
    case pushPhaseEnd => exact execPushPhaseEnd_admitted ..
    case serviceDriveExpiry => exact execServiceDriveExpiry_admitted ..
    case confirmEdge => exact execConfirmEdge_admitted ..
    case preloadExpiry => exact execPreloadExpiry_admitted ..
    case pullinEnd => exact execPullinEnd_admitted ..
    case pulseEnd => exact execPulseEnd_admitted ..
    case confirmWindowClose => exact execConfirmWindowClose_admitted ..
    case attemptPauseEnd => exact execAttemptPauseEnd_admitted ..
    case keyOffExpiry => exact execKeyOffExpiry_admitted ..
    case inputChange => exact execInputChange_admitted ..
    case tripUnitExpiry => exact execTripUnitExpiry_admitted ..
    case rearmGapEnd => exact execRearmGapEnd_admitted ..
    case frameAbandon => exact execFrameAbandon_admitted ..
    case frameGapTimeout => exact execFrameGapTimeout_admitted ..
    case portOverrun => exact execPortOverrun_admitted ..
    case replySent => exact execReplySent_admitted ..
    case storeDone => exact execStoreDone_admitted ..
    case receivedCharacter => exact execReceivedCharacter_admitted ..
    all_goals cases frame

/-! ## The three other commands -/

/-- A FULL reset makes no decision (R130). -/
theorem State.started_entersFast (l : Switches) (closed : Bool) (s : State) : s.EntersFast (s.started l closed) := by
  intro _ preload
  have enters : Entering (s.cleared l closed) (s.started l closed) :=
    (State.logEvent_sparing _ _).entering.trans (State.evaluateInputs_entering true _ _)
  obtain before | ⟨-, first⟩ := enters.enters preload
  · exact nomatch (show LatchState.engaged = .releasePreload from before)
  · exact nomatch (show some _ = none from first)

/-- The first latch state is ENGAGED or RELEASED (R130). -/
theorem State.firstLatch_entersFast (closed : Bool) (s : State) : s.EntersFast (s.firstLatch closed) := by
  intro _ preload
  have debounced : ∃ v w, v.fast = s.fast ∧ v.latch.state ≠ .releasePreload ∧ Sparing v w ∧ s.firstLatch closed = w.settle := by
    refine ⟨_, _, ?_, ?_, State.askWaiting_sparing _, rfl⟩
    · exact (State.takeLatch_consequence _ _).fast
    · rw [State.takeLatch_state]
      cases closed <;> exact nofun
  obtain ⟨v, w, fast, apart, spares, settles⟩ := debounced
  rw [settles] at preload ⊢
  obtain ⟨before, stands⟩ := State.settle_preload w (fun e => apart (spares.spares e)) preload
  exact ⟨.inl (fast ▸ spares.consequence.fast ▸ before), stands⟩

theorem exec_firstConfirmDebounce_entersFast {dt : Nat} {closed : Bool} {s t : State}
    (h : exec (.firstConfirmDebounce dt closed) s = .next t) : s.EntersFast t := by
  change execFirstConfirmDebounce dt closed s = .next t at h
  have pin : Leads s ((s.advance dt).setConfirmPin closed) := (s.advance_leads dt).trans (State.setConfirmPin_leads closed _)
  unfold execFirstConfirmDebounce at h
  dsimp only at h
  split at h
  · obtain rfl := Host.Outcome.next.inj h
    exact pin.admits.entersFast
  · obtain rfl := Host.Outcome.next.inj h
    unfold State.firstSample
    split
    · intro apart preload
      exact absurd preload apart
    split
    · exact State.firstLatch_entersFast closed ((s.advance dt).setConfirmPin closed)
    · exact pin.admits.entersFast

/-- V_REL lies above standstill (R105, R166). -/
theorem State.not_fast_of_still {s : State} (valid : s.params.Valid) (median : s.MedianTaken) (still : s.still = true) :
    s.fast = false := by
  have ranges := (valid.ranges .vRel).1
  refine Bool.eq_false_iff.mpr fun fast => ?_
  simp only [State.still, State.fast, Bool.and_eq_true, decide_eq_true_eq] at still fast
  obtain ⟨good, zero⟩ := still
  obtain ⟨-, reaches⟩ := fast
  rw [median good, zero] at reaches
  have low : (50 : Int) ≤ s.params.vRel := ranges
  omega

/-- An auto-park comes at standstill, where nothing leans (R128). -/
theorem exec_autoPark_entersFast {dt : Nat} {s t : State} (valid : s.params.Valid) (median : s.MedianTaken)
    (h : exec (.autoPark dt) s = .next t) : s.EntersFast t := by
  change execAutoPark dt s = .next t at h
  intro apart preload
  unfold execAutoPark at h
  dsimp only at h
  split at h
  next parks =>
    obtain rfl := Host.Outcome.next.inj h
    simp only [State.autoParks, State.parkable, Bool.and_eq_true, decide_eq_true_eq] at parks
    obtain ⟨-, ⟨⟨⟨-, still⟩, -⟩, -⟩, -⟩ := parks
    obtain before | ⟨fast, -⟩ := (State.endHold_entering .park (s.advance dt)).enters preload
    · exact absurd before apart
    · exact nomatch (State.not_fast_of_still (s := s.advance dt) valid median still).symm.trans fast
  next =>
    obtain rfl := Host.Outcome.next.inj h
    exact absurd preload apart

theorem exec_entersFast (c : Instr) {s t : State} (valid : s.params.Valid) (median : s.MedianTaken) (h : exec c s = .next t) :
    s.EntersFast t := by
  by_cases reset : ∀ l b, c ≠ .fullReset l b
  case neg =>
    obtain ⟨l, b, rfl⟩ : ∃ l b, c = .fullReset l b := by simpa only [not_forall, not_not, ne_eq] using reset
    obtain rfl := Host.Outcome.next.inj h
    exact s.started_entersFast l b
  by_cases debounce : ∀ dt b, c ≠ .firstConfirmDebounce dt b
  case neg =>
    obtain ⟨dt, b, rfl⟩ : ∃ dt b, c = .firstConfirmDebounce dt b := by simpa only [not_forall, not_not, ne_eq] using debounce
    exact exec_firstConfirmDebounce_entersFast h
  by_cases park : ∀ dt, c ≠ .autoPark dt
  case neg =>
    obtain ⟨dt, rfl⟩ : ∃ dt, c = .autoPark dt := by simpa only [not_forall, not_not, ne_eq] using park
    exact exec_autoPark_entersFast valid median h
  obtain ⟨u, e, admits⟩ | ⟨u, e, admits⟩ := exec_admitted c s reset debounce park
  all_goals obtain rfl : u = t := Host.Outcome.next.inj (e.symm.trans h)
  · exact ((s.advance_leads c.delay).trans_admits admits).entersFast
  · exact admits.entersFast

theorem State.tick_leads (s : State) : Leads s s.tick := by
  have sampled : Leads s s.startSample := .ite _ (State.handlebarSampled_leads _ s) (.refl s)
  exact (sampled.trans (State.advance_leads 1 _)).trans (.of rfl rfl rfl rfl)

theorem step_entersFast {s t : State} (valid : s.params.Valid) (median : s.MedianTaken) (h : step s = .next t) : s.EntersFast t := by
  unfold step at h
  split at h
  · obtain rfl := Host.Outcome.next.inj h
    exact s.tick_leads.admits.entersFast
  next c rest _ => exact exec_entersFast c (s := s.setPending rest) valid median h

/-! ## What an entry stands on -/

theorem State.fast_iff {s : State} : s.fast = true ↔ s.speed.estimate = .good ∧ s.params.vRel ≤ (s.speed.v : Int) := by
  simp [State.fast]

theorem State.lockDemand_eq_false_iff {s : State} :
    s.lockDemand = false ↔ s.latch.itemA ≠ .lock ∧ s.latch.itemB ≠ .lock ∧ s.combined = false := by
  simp [State.lockDemand, and_assoc]

theorem State.preloadOff_eq_false_iff {s : State} :
    s.preloadOff = false ↔ s.slow = false ∧ s.lockDemand = false ∧ s.grade ≠ .lockdown ∧ s.tilt.mode = .track := by
  simp [State.preloadOff, and_assoc]

/-- R116's conditions on an entry. -/
theorem State.decideLatch_entry {s t : State} (decided : s.decideLatch = some t) (preload : t.latch.state = .releasePreload) :
    s.latch.state = .engaged ∧ s.speed.estimate = .good ∧ s.params.vRel ≤ (s.speed.v : Int) ∧ s.tilt.mode = .track ∧
      s.grade ≠ .lockdown ∧ s.latch.itemA ≠ .lock ∧ s.latch.itemB ≠ .lock ∧ s.combined = false ∧
      s.latch.run = .run ∧ s.latch.set = none ∧ s.slot.onTilt = false := by
  obtain ⟨engaged, own, lean⟩ := State.decideLatch_enters s t decided preload
  obtain ⟨fast, track, calm, free⟩ := State.fast_of_mayLean lean
  obtain ⟨good, reaches⟩ := State.fast_iff.mp fast
  obtain ⟨itemA, itemB, combined⟩ := State.lockDemand_eq_false_iff.mp free
  simp only [State.ownRules, Bool.and_eq_true, decide_eq_true_eq, Bool.not_eq_true', Option.isNone_iff_eq_none] at own
  obtain ⟨⟨⟨run, -⟩, set⟩, tilt⟩ := own
  exact ⟨engaged, good, reaches, track, calm, itemA, itemB, combined, run, set, tilt⟩

end Sys2Proof.Machine
end

section
/-! PROOFS. What the latch controller does at a LOCK_DEMAND (R116, R117, R119 to R121, R124, R125). -/

namespace Sys2Proof.Machine

section

variable {dt : Nat} {p : Port} {r : Byte} {s : State}

/-! ## NONE -/

/-- A release begins through RELEASE_PRELOAD, with the lean captured (R116, R117, R33). -/
theorem exec_demandNone_leans (ready : Ready s p) (alone : s.LatchAlone) (first : s.latch.first = none)
    (state : s.latch.state = .engaged) (set : s.latch.set = none) (tilt : s.slot.onTilt = false)
    (commanded : s.latch.uncommanded = false) (fast : s.fast = true) (track : s.tilt.mode = .track) (calm : s.grade ≠ .lockdown)
    (other : s.latch.item (otherPort p) = .none) (combined : s.combined = false) :
    ∃ t, exec (.lockDemandNone dt { port := p, ref := r, payload := [] }) s = .next t ∧
      t.solve.phiS = s.tilt.meas ∧ t.solve.captured = s.tilt.meas ∧
      (0 < s.params.preloadMs → s.slow = false → t.latch.state = .releasePreload ∧
        t.latch.preloadEnd = some (s.now + dt + s.params.preloadMs.toNat * 1000) ∧
        (s.waitingChanges = [] → LoggedFirst s [.lockState .releasePreload] t)) ∧
      (s.params.preloadMs = 0 → s.latch.closed = true → s.latch.pulse = none → t.latch.state = .releasing ∧
        t.latch.AttemptOpen s.params .release .own (s.now + dt) ∧
        (s.waitingChanges = [] → LoggedFirst s [.lockState .releasePreload, .lockState .releasing] t)) := by
  obtain ⟨d, t, asked, e, answer⟩ := exec_demandNone (dt := dt) r ready
  obtain ⟨state', first', -, pulse', closed', commanded', -⟩ := asked.latch
  obtain ⟨-, slow', -⟩ := asked.weighs
  have unhelped := asked.unhelped alone
  have leans : d.Leans := ⟨state'.trans state, first'.trans first, commanded'.trans commanded,
    asked.permit nofun fun _ => by rw [other]; nofun, asked.own ready first set tilt,
    asked.mayLean fast track calm (by rw [other]; nofun) combined⟩
  have captured := leans.captures unhelped
  rw [asked.tilt] at captured
  refine ⟨t, e, ?_, ?_, fun timed slow => ?_, fun untimed closed idle => ?_⟩
  · rw [answer.solve]
    exact captured.phiS
  · rw [answer.solve]
    exact captured.captured
  · obtain ⟨preload, ends, logged⟩ := leans.preloads unhelped (by rwa [asked.params]) (slow'.trans slow)
    rw [asked.now, asked.params] at ends
    rw [answer.latch]
    exact ⟨preload, ends, fun waits => answer.logged _ (logged (asked.waits waits))⟩
  · obtain ⟨releasing, opens, logged⟩ := leans.releases unhelped (by rwa [asked.params]) (closed'.trans closed) (pulse'.trans idle)
    rw [asked.now, asked.params] at opens
    rw [answer.latch]
    exact ⟨releasing, opens, fun waits => answer.logged _ (logged (asked.waits waits))⟩

/-- An engagement begins from RELEASED (R119). -/
theorem exec_demandNone_engages (ready : Ready s p) (alone : s.LatchAlone) (first : s.latch.first = none)
    (state : s.latch.state = .released) (set : s.latch.set = none) (tilt : s.slot.onTilt = false) (opened : s.latch.closed = false)
    (idle : s.latch.pulse = none) (cause : (s.slow = true ∧ s.latch.item (otherPort p) ≠ .permit) ∨ s.grade = .lockdown)
    (upright : mag s.tilt.meas ≤ s.params.uprightWindow) (leant : mag s.solve.phiS ≤ s.params.uprightWindow) :
    ∃ t, exec (.lockDemandNone dt { port := p, ref := r, payload := [] }) s = .next t ∧ t.latch.state = .engaging ∧
      t.latch.AttemptOpen s.params .engage .own (s.now + dt) ∧
      (s.waitingChanges = [] → LoggedFirst s [.lockState .engaging] t) := by
  obtain ⟨d, t, asked, e, answer⟩ := exec_demandNone (dt := dt) r ready
  obtain ⟨state', first', -, pulse', closed', -⟩ := asked.latch
  have engage := asked.mayEngage (cause.imp_left fun ⟨slow, free⟩ => ⟨slow, asked.permit nofun fun _ => free⟩) upright leant
  obtain ⟨engaging, opens, logged⟩ := (asked.unhelped alone).engages (state'.trans state) (first'.trans first)
    (asked.own ready first set tilt) engage (closed'.trans opened) (pulse'.trans idle)
  rw [asked.now, asked.params] at opens
  refine ⟨t, e, ?_⟩
  rw [answer.latch]
  exact ⟨engaging, opens, fun waits => answer.logged _ (logged (asked.waits waits))⟩

/-- The way out of JAMMED (R120). -/
theorem exec_demandNone_frees (ready : Ready s p) (alone : s.LatchAlone) (first : s.latch.first = none)
    (state : s.latch.state = .jammed) (slow : s.slow = true) (closed : s.latch.closed = true)
    (idle : s.latch.pulsing .release = false) (fast : s.fast = false) (other : s.latch.item (otherPort p) ≠ .permit) :
    ∃ t, exec (.lockDemandNone dt { port := p, ref := r, payload := [] }) s = .next t ∧ t.latch.state = .engaged ∧
      (s.waitingChanges = [] → LoggedFirst s [.lockState .engaged] t) := by
  obtain ⟨d, t, asked, e, answer⟩ := exec_demandNone (dt := dt) r ready
  obtain ⟨state', first', -, pulse', closed', -⟩ := asked.latch
  obtain ⟨fast', slow', -⟩ := asked.weighs
  have unhelped := asked.unhelped alone
  have frees : d.Frees d.latch := ⟨.inl (state'.trans state), slow'.trans slow, closed'.trans closed,
    by rw [LatchUnit.pulsing, pulse']; exact idle, first'.trans first, fast'.trans fast, asked.permit nofun fun _ => other, rfl, rfl⟩
  obtain ⟨-, engaged, logged⟩ := State.settleN_frees 7 unhelped.trips unhelped.phases frees (state'.trans state)
  exact ⟨t, e, by rw [answer.latch]; exact engaged, fun waits => answer.logged _ (logged (asked.waits waits))⟩

/-- The way out of UNLATCHED_FAULT by speed (R121). -/
theorem exec_demandNone_leaves (ready : Ready s p) (alone : s.LatchAlone) (first : s.latch.first = none)
    (state : s.latch.state = .unlatchedFault) (set : s.latch.set = none) (tilt : s.slot.onTilt = false) (fast : s.fast = true)
    (slow : s.slow = false) (track : s.tilt.mode = .track) (calm : s.grade ≠ .lockdown)
    (other : s.latch.item (otherPort p) ≠ .lock) (combined : s.combined = false) :
    ∃ t, exec (.lockDemandNone dt { port := p, ref := r, payload := [] }) s = .next t ∧ t.latch.state = .released ∧
      (s.waitingChanges = [] → LoggedFirst s [.lockState .released] t) := by
  obtain ⟨d, t, asked, e, answer⟩ := exec_demandNone (dt := dt) r ready
  obtain ⟨state', first', -⟩ := asked.latch
  obtain ⟨-, slow', -⟩ := asked.weighs
  obtain ⟨released, logged⟩ := (asked.unhelped alone).leaves (state'.trans state) (first'.trans first)
    (asked.own ready first set tilt) (asked.mayLean fast track calm other combined) (slow'.trans slow)
  exact ⟨t, e, by rw [answer.latch]; exact released, fun waits => answer.logged _ (logged (asked.waits waits))⟩

/-- A combined combiner demand keeps the latch ENGAGED (R125). -/
theorem exec_demandNone_stays (ready : Ready s p) (alone : s.LatchAlone) (combined : s.combined = true) (set : s.latch.set = none)
    (state : s.latch.state = .engaged) (other : s.latch.item (otherPort p) ≠ .permit) :
    ∃ t, exec (.lockDemandNone dt { port := p, ref := r, payload := [] }) s = .next t ∧
      t.latch.state = .engaged ∧ t.latch.set = none ∧ t.latch.pulse = s.latch.pulse ∧ t.combined = true := by
  obtain ⟨d, t, asked, e, answer⟩ := exec_demandNone (dt := dt) r ready
  obtain ⟨state', -, set', pulse', -⟩ := asked.latch
  obtain ⟨combined', demand⟩ := asked.combinedDemand combined
  have unmoved := (asked.unhelped alone).stays (state'.trans state) demand (asked.permit nofun fun _ => other)
  obtain ⟨engaged, set'', pulse''⟩ := unmoved.latch
  refine ⟨t, e, ?_, ?_, ?_, answer.combined.trans ((unmoved.combined trivial).trans combined')⟩ <;> rw [answer.latch]
  · exact engaged.trans (state'.trans state)
  · exact set''.trans (set'.trans set)
  · exact pulse''.trans pulse'

/-- It abandons a preload (R117, R125). -/
theorem exec_demandNone_abandons (ready : Ready s p) (alone : s.LatchAlone) (first : s.latch.first = none) (combined : s.combined = true)
    (set : s.latch.set = none) (state : s.latch.state = .releasePreload) (other : s.latch.item (otherPort p) ≠ .permit) :
    ∃ t, exec (.lockDemandNone dt { port := p, ref := r, payload := [] }) s = .next t ∧ t.latch.state = .engaged ∧
      t.latch.preloadEnd = none ∧ t.latch.set = none ∧ t.latch.pulse = s.latch.pulse ∧
      LoggedFirst s [.lockState .engaged] t := by
  obtain ⟨d, t, asked, e, answer⟩ := exec_demandNone (dt := dt) r ready
  obtain ⟨state', first', set', pulse', -⟩ := asked.latch
  obtain ⟨-, demand⟩ := asked.combinedDemand combined
  obtain ⟨engaged, ends, set'', pulse'', logged⟩ := (asked.unhelped alone).abandons (state'.trans state) (first'.trans first)
    demand (asked.permit nofun fun _ => other)
  have waits : s.waitingChanges = [] := by
    obtain free | ⟨waits, -⟩ := alone.combiners
    · exact nomatch combined.symm.trans (State.combined_of_noLockHold free)
    · exact waits
  refine ⟨t, e, ?_, ?_, ?_, ?_, answer.logged _ (logged (asked.waits waits))⟩ <;> rw [answer.latch]
  · exact engaged
  · exact ends
  · exact set''.trans (set'.trans set)
  · exact pulse''.trans pulse'

/-- It keeps an UNLATCHED_FAULT from leaving by speed (R121, R125). -/
theorem exec_demandNone_stands (ready : Ready s p) (alone : s.LatchAlone) (combined : s.combined = true) (set : s.latch.set = none)
    (state : s.latch.state = .unlatchedFault) :
    ∃ t, exec (.lockDemandNone dt { port := p, ref := r, payload := [] }) s = .next t ∧
      t.latch.state = .unlatchedFault ∧ t.latch.set = none := by
  obtain ⟨d, t, asked, e, answer⟩ := exec_demandNone (dt := dt) r ready
  obtain ⟨state', -, set', -⟩ := asked.latch
  obtain ⟨-, demand⟩ := asked.combinedDemand combined
  obtain ⟨fault, set'', -⟩ := ((asked.unhelped alone).stands (state'.trans state) demand).latch
  refine ⟨t, e, ?_, ?_⟩ <;> rw [answer.latch]
  · exact fault.trans (state'.trans state)
  · exact set''.trans (set'.trans set)

/-! ## LOCK -/

/-- A LOCK abandons a preload (R117). -/
theorem exec_demandLock_abandons (ready : Ready s p) (alone : s.LatchAlone) (first : s.latch.first = none)
    (state : s.latch.state = .releasePreload) (set : s.latch.set = none) :
    ∃ t, exec (.lockDemandLock dt { port := p, ref := r, payload := [] }) s = .next t ∧ t.latch.state = .engaged ∧
      t.latch.preloadEnd = none ∧ t.latch.set = none ∧ t.latch.pulse = s.latch.pulse ∧
      (s.waitingChanges = [] → LoggedFirst s [.lockState .engaged] t) := by
  obtain ⟨d, t, asked, e, answer⟩ := exec_demandLock (dt := dt) r ready
  obtain ⟨state', first', set', pulse', -⟩ := asked.latch
  obtain ⟨engaged, ends, set'', pulse'', logged⟩ := (asked.unhelped alone).abandons (state'.trans state) (first'.trans first)
    asked.demanded (asked.permit nofun fun weak => absurd rfl weak)
  rw [State.lockRequest_of_other (.inl (by rw [state', state]; nofun))] at answer
  refine ⟨t, e, ?_, ?_, ?_, ?_, fun waits => answer.logged _ (logged (asked.waits waits))⟩ <;> rw [answer.latch]
  · exact engaged
  · exact ends
  · exact set''.trans (set'.trans set)
  · exact pulse''.trans pulse'

/-- From UNLATCHED_FAULT an engagement begins where R119's conditions on speed and uprightness hold (R121). -/
theorem exec_demandLock_engages (ready : Ready s p) (first : s.latch.first = none)
    (state : s.latch.state = .unlatchedFault) (set : s.latch.set = none) (tilt : s.slot.onTilt = false)
    (cause : s.slow = true ∨ s.grade = .lockdown) (upright : mag s.tilt.meas ≤ s.params.uprightWindow)
    (leant : mag s.solve.phiS ≤ s.params.uprightWindow) (opened : s.latch.closed = false) (idle : s.latch.pulse = none) :
    ∃ t, exec (.lockDemandLock dt { port := p, ref := r, payload := [] }) s = .next t ∧ t.latch.state = .engaging ∧
      t.latch.AttemptOpen s.params .engage .own (s.now + dt) ∧ LoggedFirst s [.lockState .engaging] t := by
  obtain ⟨d, t, asked, e, answer⟩ := exec_demandLock (dt := dt) r ready
  obtain ⟨state', first', -, pulse', closed', -⟩ := asked.latch
  have engage := asked.mayEngage (cause.imp_left fun slow => ⟨slow, asked.permit nofun fun weak => absurd rfl weak⟩) upright leant
  obtain ⟨engaging, opens, logged⟩ := State.lockRequest_engages (state'.trans state) (asked.own ready first set tilt) engage
    (closed'.trans opened) (pulse'.trans idle)
  rw [asked.now, asked.params] at opens
  refine ⟨t, e, ?_⟩
  rw [answer.latch]
  exact ⟨engaging, opens, answer.logged _ logged⟩

/-- And else the state stands (R121). -/
theorem exec_demandLock_stands (ready : Ready s p) (alone : s.LatchAlone) (state : s.latch.state = .unlatchedFault)
    (set : s.latch.set = none) (apart : (s.slow = false ∧ s.grade ≠ .lockdown) ∨ s.params.uprightWindow < mag s.tilt.meas ∨
      s.params.uprightWindow < mag s.solve.phiS) :
    ∃ t, exec (.lockDemandLock dt { port := p, ref := r, payload := [] }) s = .next t ∧
      t.latch.state = .unlatchedFault ∧ t.latch.set = none := by
  obtain ⟨d, t, asked, e, answer⟩ := exec_demandLock (dt := dt) r ready
  obtain ⟨state', -, set', -⟩ := asked.latch
  obtain ⟨-, slow', -, grade', -⟩ := asked.weighs
  have rests : d.mayEngage = false := State.mayEngage_of_apart (by rwa [slow', grade', asked.params, asked.tilt, asked.solve])
  rw [State.lockRequest_of_other (.inr rests)] at answer
  obtain ⟨fault, set'', -⟩ := ((asked.unhelped alone).stands (state'.trans state) asked.demanded).latch
  refine ⟨t, e, ?_, ?_⟩ <;> rw [answer.latch]
  · exact fault.trans (state'.trans state)
  · exact set''.trans (set'.trans set)

/-! ## PERMIT -/

/-- A release straight to RELEASING, whatever the combiners demand (R124). -/
theorem exec_demandPermit_releases (ready : Ready s p) (alone : s.LatchAlone) (first : s.latch.first = none)
    (state : s.latch.state = .engaged) (set : s.latch.set = none) (tilt : s.slot.onTilt = false) (holder : s.holds p = true)
    (lift : s.inputs.lift.active = true) (still : s.still = true) (calm : s.grade = .none)
    (other : s.latch.item (otherPort p) = .none) (track : s.tilt.mode = .track) (closed : s.latch.closed = true)
    (idle : s.latch.pulse = none) :
    ∃ t, exec (.lockDemandPermit dt { port := p, ref := r, payload := [] }) s = .next t ∧
      t.latch.state = .releasing ∧ t.latch.AttemptOpen s.params .release .permit (s.now + dt) ∧
      t.latch.permitOf = some p ∧ t.solve.phiS = s.tilt.meas ∧ t.solve.captured = s.tilt.meas ∧
      (s.waitingChanges = [] → LoggedFirst s [.lockState .releasing] t) := by
  obtain ⟨d, t, asked, e, answer⟩ := exec_demandPermit (dt := dt) r ready holder
    (State.permitReady_iff.mpr ⟨lift, still, calm, by rw [other]; nofun⟩)
  obtain ⟨state', first', -, pulse', closed', -⟩ := asked.latch
  obtain ⟨-, -, still', grade', -⟩ := asked.weighs
  obtain ⟨permit, port⟩ := asked.permitted other
  have may : d.Permits := ⟨state'.trans state, first'.trans first, asked.own ready first set tilt,
    by simp [State.permitReleases, permit, asked.tilt, track, still', still, grade', calm], closed'.trans closed, pulse'.trans idle⟩
  obtain ⟨releasing, opens, permitOf, leaning, logged⟩ := may.releases (asked.unhelped alone)
  rw [asked.now, asked.params] at opens
  rw [asked.tilt] at leaning
  rw [← answer.latch] at releasing opens permitOf
  exact ⟨t, e, releasing, opens, permitOf.trans port, by rw [answer.solve]; exact leaning.phiS,
    by rw [answer.solve]; exact leaning.captured, fun waits => answer.logged _ (logged (asked.waits waits))⟩

end

end Sys2Proof.Machine
end

section
/-! PROOFS. The latch controller's windows, pauses, decisions and entries: its obligation (R114, R116, R117, R119 to R121, R124). -/

namespace Sys2Proof.Machine

/-- The end of a window, settled (R114). -/
theorem exec_confirmWindowClose_fails {dt e : Nat} {x : AttemptSet} {s : State} (set : s.latch.set = some x) (due : e ≤ s.now + dt)
    (stage : x.stage = .window e) (late : 3 ≤ x.attempt) :
    exec (.confirmWindowClose dt) s = .next ((s.advance dt).failSet x).settle := by
  have fails : (s.advance dt).windowFailed x = (s.advance dt).failSet x := if_pos late
  rw [exec_confirmWindowClose set due stage, fails]

theorem State.failSet_settle_consequence (x : AttemptSet) (s : State) : Consequence s (s.failSet x).settle :=
  (State.failSet_consequence x s).trans (State.settle_consequence _)

theorem State.pauseOver_settle_consequence (x : AttemptSet) (s : State) : Consequence s (s.pauseOver x).settle :=
  (State.pauseOver_latchMove x s).consequence.trans (State.settle_consequence _)

/-- Settles O47: windows and pauses by what a failed window and a pause that is over leave, the demands by the decision that the
latch controller makes in the first round of settling, the entries by what every operation leads to. -/
theorem latchDecidesRetriesAndFails : Obligations.LatchDecidesRetriesAndFails := by
  refine ⟨fun dt e x s set due going => ⟨fun stage early => ?paused, fun stage late => ?failed, fun stage kept idle apart => ?next,
    fun stage abandoned => ?abandoned⟩, fun dt p r s ready alone first => ?demands, fun s t => State.decideLatch_entry,
    fun s t valid median h apart preload => ?entries⟩
  case paused =>
    obtain ⟨state, pulse, pauses, waits⟩ := State.windowFailed_settle (s := s.advance dt) early going
    exact ⟨_, exec_confirmWindowClose set due stage, state, pulse, pauses, waits,
      (State.windowFailed_sound x (s.advance dt)).consequence.trans (State.settle_consequence _)⟩
  case failed =>
    have logged := State.failSet_logged x (s.advance dt)
    have consequence := State.failSet_settle_consequence x (s.advance dt)
    refine ⟨_, exec_confirmWindowClose_fails set due stage late, fun release => ?_, fun engage => ?_, fun release alone rests => ?_,
      fun release alone slow closed idle first fast permit =>
        State.failSet_frees (s := s.advance dt) release alone.trips alone.phases slow closed idle first fast permit,
      fun engage alone slow => ?_, fun p release origin under => State.failSet_permit release origin (by exact under),
      fun origin idle instant => ?_, fun q slot awaits instant => ?_, consequence⟩
    · rw [release] at logged
      exact logged
    · rw [engage] at logged
      exact logged
    · obtain ⟨state, set⟩ := State.failSet_idles (s := s.advance dt) alone.trips alone.phases (.inl ⟨release, rests⟩)
      exact ⟨by rw [state, release]; rfl, set⟩
    · obtain ⟨state, set⟩ := State.failSet_idles (s := s.advance dt) alone.trips alone.phases (.inr ⟨engage, slow⟩)
      exact ⟨by rw [state, engage]; rfl, set⟩
    · have items := State.failSet_items (s := s.advance dt) origin idle instant
      exact ⟨items .a, items .b⟩
    · have closed := State.failSet_routine (s := s.advance dt) slot awaits instant
      exact ⟨closed.slot, by rw [closed.result], closed.setpoint.trans (consequence.axis_meas q.axis)⟩
  case next =>
    obtain ⟨set', pulse, state⟩ := State.pauseOver_settle (s := s.advance dt) kept idle apart going
    exact ⟨_, exec_attemptPauseEnd set due stage, set', pulse, state, State.pauseOver_settle_consequence x _⟩
  case abandoned =>
    exact ⟨_, exec_attemptPauseEnd set due stage, State.pauseOver_abandoned (s := s.advance dt) abandoned,
      fun alone => State.pauseOver_engaged (s := s.advance dt) abandoned alone.trips alone.phases alone.combiners.steadied.of_same,
      State.pauseOver_settle_consequence x _⟩
  case demands =>
    exact ⟨exec_demandNone_leans ready alone first, exec_demandNone_engages ready alone first,
      exec_demandNone_frees ready alone first, exec_demandNone_leaves ready alone first,
      fun combined set => ⟨exec_demandNone_stays ready alone combined set, exec_demandNone_abandons ready alone first combined set,
        exec_demandNone_stands ready alone combined set⟩,
      exec_demandLock_abandons ready alone first,
      fun state set tilt => ⟨exec_demandLock_engages ready first state set tilt, exec_demandLock_stands ready alone state set⟩,
      exec_demandPermit_releases ready alone first⟩
  case entries =>
    obtain ⟨fast, stands⟩ := step_entersFast valid median h apart preload
    obtain ⟨-, free, calm, track⟩ := State.preloadOff_eq_false_iff.mp stands
    obtain ⟨itemA, itemB, combined⟩ := State.lockDemand_eq_false_iff.mp free
    exact ⟨fast.imp State.fast_iff.mp State.fast_iff.mp, itemA, itemB, combined, calm, track⟩

end Sys2Proof.Machine
end
